-- ==== Sys2Proof/Word.lean ====
section
/-!
DEFINITION. The words of the THQ-WN1 (R2, R6, R111) and the one sparse form in which the model holds every
array of like words: registers, lanes, memory, tiles.
-/

namespace Sys2Proof

/-- A byte, the smallest addressable unit of memory (R162). -/
abbrev Byte := BitVec 8
/-- A vector element: 32 bits in one lane (R80, R111). -/
abbrev Word32 := BitVec 32
/-- A scalar register, a mask, an address or a CSR: 64 bits (R6, R42, R105). -/
abbrev Word64 := BitVec 64

/-- An array of `w`-bit words by index: the entries that are not zero, by strictly rising index. An index that is
not listed holds zero, as every store of the device does after reset (R33, R86). -/
abbrev Sparse (w : Nat) := List (Nat × BitVec w)

/-- A finite map by number: the entries present, by strictly rising key. -/
abbrev Tab (α : Type) := List (Nat × α)

/-- The number of logical lanes of a wave, W (R1, R54). -/
abbrev laneCount : Nat := 64

end Sys2Proof
end

