-- ==== Sys2Proof/Syntax.lean ====
section
/-!
DEFINITION. The instructions, events and commands of the THQ-WN1 as syntax: one constructor of `Instr` per row of
the opcode table, and the data that the events carry.
-/

namespace Sys2Proof

/-- Who accesses the host control window: port 0, port 1 or the management complex (R20, R22). -/
inductive Requester where
  | port0 | port1 | management
  deriving DecidableEq, Repr

/-- Where an error was detected: the fields of ERRLOC (R267). -/
structure ErrLoc where
  core : Nat
  quad : Nat
  lane : Nat
  unit : Nat
  part : Nat
  ctx  : Nat
  deriving DecidableEq, Repr

/-- A unit that one uncorrectable error poisons (R264). Waves are named by their placement number, and a block
of a core by the base of its scratchpad allocation. -/
inductive PoisonUnit where
  | element (wave reg lane : Nat)
  | scalar (wave reg : Nat)
  | mask (wave reg : Nat)
  | translation (wave reg : Nat)
  | csr (wave number : Nat)
  | scratch (core block sector : Nat)
  | tileSector (core line slice half : Nat)
  | tileWord (core slot word : Nat)
  | sector (pa : Nat)
  | none
  deriving DecidableEq, Repr

/-- What the HBM patrol finds in a sector (R272). -/
inductive PatrolResult where
  | clean | corrected | uncorrectable
  deriving DecidableEq, Repr

/-- A span of a launch: partition, context, launch record and the span's number (R57, R253). -/
structure SpanId where
  part : Nat
  ctx  : Nat
  lrec : Nat
  span : Nat
  deriving DecidableEq, Repr

/-- The four doublewords of a transmit-window or remote-access entry (R229, R231). -/
structure EntryWords where
  w0 : Word64
  w1 : Word64
  w2 : Word64
  w3 : Word64
  deriving DecidableEq, Repr

/-- What a FLOW command gives a flow (R240). -/
structure FlowFields where
  localAddr  : BitVec 128
  remoteAddr : BitVec 128
  localPort  : Nat
  remotePort : Nat
  ethPort    : Nat
  remoteFlow : Nat
  remoteAsid : Nat
  psn        : BitVec 16
  tclass     : Nat
  deriving DecidableEq, Repr

/-- What a MONITOR command gives a monitor (R284): an address range, or a level source with its histogram. -/
inductive MonitorFields where
  | disable
  | range (base length : Nat) (ctx : Option Nat)
  | level (source base shift : Nat)
  deriving DecidableEq, Repr

/-- What a RETIRE command names (R277). -/
inductive RetireKind where
  | core | hbmRow | bank
  deriving DecidableEq, Repr

/-- The body of a command of a virtual function (R250). `bad` is a reserved OPC, a nonzero reserved byte or a bad
body (R249). -/
inductive VfBody where
  | ctxOpen (root save weight : Nat) (wall : Bool)
  | ctxClose
  | invalidate (va length : Nat)
  | launch (header : Nat)
  | node (n header : Nat)
  | records (n va count : Nat)
  | pause
  | resume (elapsed : Nat)
  | faultReply (fault : Nat) (resolve : Bool)
  | domainRelease (domid : Nat)
  | txwin (entry : Nat) (words : EntryWords)
  | rat (entry : Nat) (words : EntryWords)
  | flow (n : Nat) (fields : Option FlowFields)
  | cellRepair (domid cell : Nat)
  | monitor (m : Nat) (fields : MonitorFields)
  | logRead (first count address : Nat)
  | keyLoad (key : Nat) (material : List Byte)
  | keyClear (key : Nat)
  | timeMode (wall : Bool)
  | bad
  deriving DecidableEq, Repr

/-- The two words of a bind record (R253). -/
structure BindWords where
  w0 : Word64
  w1 : Word64
  deriving DecidableEq, Repr

/-- One chain of queue 0: the header's TAG and CTX, the body (R249), and the port through which its queue is reached (R31). -/
structure VfCmd where
  tag  : Nat
  ctx  : Nat
  body : VfBody
  port : Nat
  deriving DecidableEq, Repr

/-- A fabric path in one direction (R228): the device at the other end, the source partition, the path number, and
whether this is the reverse direction. -/
structure PathKey where
  peer    : Nat
  part    : Nat
  number  : Nat
  reverse : Bool
  deriving DecidableEq, Repr

/-- One lane of a remote store or a remote atomic (R235): lane, destination VA, operand. -/
structure RemoteLane where
  lane  : Nat
  va    : Nat
  value : Word32
  deriving DecidableEq, Repr

/-- What a packet carries (R226). Wave numbers and token numbers are the sender's own and travel back with the
answer. -/
inductive Payload where
  | store (asid va localVa : Nat) (bytes : List Byte) (wave : Nat)
  | remoteStore (asid : Nat) (lanes : List RemoteLane) (wave : Nat)
  | remoteAtomic (asid rop : Nat) (lanes : List RemoteLane) (wave token group ctx : Nat)
  | atomicReply (status : Nat) (olds : List RemoteLane) (wave token group ctx : Nat)
  | record (device domid link peerDom source dest : Nat) (amount : Int) (wave : Nat)
  | recordAck (domid link : Nat) (amount : Int) (wave : Nat)
  | recordRefusal (domid link source dest : Nat) (amount : Int) (reason wave : Nat)
  deriving DecidableEq, Repr

/-- A fabric packet: its path and direction, its 32-bit sequence number and its payload (R226, R228). -/
structure Packet where
  path    : PathKey
  seq     : BitVec 32
  payload : Payload
  deriving DecidableEq, Repr

/-- Where an acknowledgement of a path arrives: the link, the device that it is for, and its path (R224, R225, R227). -/
structure AckRoute where
  link : Nat
  dest : Nat
  path : PathKey
  deriving DecidableEq, Repr

/-- What stands before the payload of a frame of the scale-out network (R239, R241): the frame's size and its 802.1Q tags;
whether it is a pause or priority flow control frame; the IPv6 header, with whether it is one and whether an extension header
follows it; the UDP header; and the version, kind, byte 1 and length of the transport header. -/
structure NetHeader where
  size      : Nat
  tags      : Nat
  pause     : Bool
  ipv6      : Bool
  extension : Bool
  hops      : Nat
  tclass    : Nat
  label     : Nat
  source    : BitVec 128
  dest      : BitVec 128
  srcPort   : Nat
  dstPort   : Nat
  checksum  : Nat
  version   : Nat
  kind      : Nat
  reserved  : Nat
  length    : Nat
  deriving DecidableEq, Repr

/-- A transport packet of the scale-out network (R241), with the address-space id that its flow names at the receiver
(R240; the header shows no place for it). `immediate` is present on a kind-1 packet, with the
notification queue it names. -/
structure NetPacket where
  header    : NetHeader
  flow      : Nat
  asid      : Nat
  psn       : BitVec 16
  va        : Nat
  payload   : List Byte
  immediate : Option (Word32 × Nat)
  deriving DecidableEq, Repr

/-- What stands before the next expected PSN of an acknowledgement of the scale-out network: the headers, and the receiving flow's
number (R239, R241). -/
structure NetAckHead where
  header : NetHeader
  flow   : Nat
  deriving DecidableEq, Repr

/-- What signed firmware sets (R15, R241, R251, R256, R257, R275). Times are in CYC ticks, the cap in milliwatts. -/
structure Firmware where
  slice          : Nat
  preemptTimeout : Nat
  faultTimeout   : Nat
  relaunchLimit  : Nat
  flowTimeout    : Nat
  powerCap       : Nat
  deriving DecidableEq, Repr

/-- A space of a host port that a driver writes registers of: the host control window, the physical function's BAR4, or the
BAR0 of a virtual function (R17, R19, R247). -/
inductive HostSpace where
  | window | bar4 | vf (p : Nat)
  deriving DecidableEq, Repr

/-- An error as the arrays detect it (R264, R269): its bank, whether it was corrected, the unit, where it was detected, its
address or index, and whether what read the unit met it, which then consumes the poison (R270, R271). -/
structure Detected where
  bank      : Nat
  corrected : Bool
  unit      : PoisonUnit
  loc       : ErrLoc
  addr      : Nat
  met       : Bool
  deriving DecidableEq, Repr

/-- The fields of the virtio common configuration that a driver writes (R246). -/
inductive VirtioField where
  | deviceFeatureSelect | driverFeatureSelect | driverFeature | configVector | deviceStatus
  | queueSelect | queueSize | queueVector | queueEnable | queueDesc | queueDriver | queueDevice
  deriving DecidableEq, Repr

/-- The instructions and events of the device: one constructor per row of the opcode table. The encoded rows come first. An encoded row's
operands are its fields, under the table's letters (`st` is the stall count [3:1], R72). A row without a word is an
event or a front-end command (R250): its operands are what the manual says it carries. -/
inductive Instr where
  /-- NOP (R310): No operation, with a stall. -/
  | nop (st : BitVec 3)
  /-- BRA (R294): Branches to a fetch-block target. -/
  | bra (o : BitVec 21) (st : BitVec 3)
  /-- BCC (R294): Branches when a scalar compares true against zero. -/
  | bcc (o : BitVec 13) (c : BitVec 3) (r : BitVec 5) (st : BitVec 3)
  /-- CALL (R294): Writes the return address to s31 and branches. -/
  | call (o : BitVec 21) (st : BitVec 3)
  /-- RET (R294): Returns to the address in a scalar register. -/
  | ret (r : BitVec 5) (st : BitVec 3)
  /-- JMPR (R294): Jumps to the address in a scalar register. -/
  | jmpr (r : BitVec 5) (st : BitVec 3)
  /-- IF (R64): Pushes an IFTHEN token and narrows the active mask, skipping when it is empty. -/
  | ifm (o : BitVec 18) (k : BitVec 3) (st : BitVec 3)
  /-- ELSE (R64): Switches to the else lanes, skipping when they are empty. -/
  | els (o : BitVec 18) (st : BitVec 3)
  /-- ENDIF (R64): Pops an IF token and restores its mask. -/
  | endif (st : BitVec 3)
  /-- LOOP (R64): Pushes a LOOP token. -/
  | loop (st : BitVec 3)
  /-- BRK (R64): Removes lanes from the loop into BRKM. -/
  | brk (k : BitVec 3) (st : BitVec 3)
  /-- CONT (R64): Removes lanes from the loop into CONTM until ENDL. -/
  | cont (k : BitVec 3) (st : BitVec 3)
  /-- ENDL (R64): Jumps back while lanes remain, otherwise pops the loop token. -/
  | endl (o : BitVec 18) (st : BitVec 3)
  /-- EXIT (R64): Retires lanes permanently. -/
  | exitm (k : BitVec 3) (st : BitVec 3)
  /-- END (R299): Ends the wave after its accesses are performed. -/
  | endw (st : BitVec 3)
  /-- RUN (R321): Opens a run of COUNT instructions and clears e0 to e7. -/
  | run (c : BitVec 5) (st : BitVec 3)
  /-- RUNEND (R322): Ends a run and names the results that later instructions await. -/
  | runend (z : BitVec 7) (y : BitVec 7) (x : BitVec 7) (st : BitVec 3)
  /-- YIELD (R375): Ranks the wave youngest at the next issue decision. -/
  | yield (st : BitVec 3)
  /-- SLEEPU (R332): Sleeps for a number of CYC ticks. -/
  | sleepu (r : BitVec 5) (st : BitVec 3)
  /-- WAITK (R373): Waits on an engine token, a RATOM token or a notification queue. -/
  | waitk (r : BitVec 5) (st : BitVec 3)
  /-- TRAP (R334): Raises a software trap carrying an immediate. -/
  | trap (i : BitVec 16) (st : BitVec 3)
  /-- ERET (R304): Returns from a supervisor handler through the frame. -/
  | eret (st : BitVec 3)
  /-- SIGCHK (R329): Checks and resets the wave's signature. -/
  | sigchk (i : BitVec 21) (st : BitVec 3)
  /-- SCSR (R327): Reads a CSR into a scalar. -/
  | scsr (c : BitVec 12) (r : BitVec 5) (st : BitVec 3)
  /-- SCSW (R327): Writes a CSR. -/
  | scsw (c : BitVec 12) (r : BitVec 5) (st : BitVec 3)
  /-- SCSS (R327): Sets CSR bits. -/
  | scss (c : BitVec 12) (r : BitVec 5) (st : BitVec 3)
  /-- SCSC (R327): Clears CSR bits. -/
  | scsc (c : BitVec 12) (r : BitVec 5) (st : BitVec 3)
  /-- SADD (R324): 64-bit scalar add. -/
  | sadd (b : BitVec 5) (a : BitVec 5) (d : BitVec 5) (st : BitVec 3)
  /-- SSUB (R324): 64-bit scalar subtract. -/
  | ssub (b : BitVec 5) (a : BitVec 5) (d : BitVec 5) (st : BitVec 3)
  /-- SMUL (R324): Low 64 bits of a scalar product. -/
  | smul (b : BitVec 5) (a : BitVec 5) (d : BitVec 5) (st : BitVec 3)
  /-- SMULH (R324): High 64 bits of a signed scalar product. -/
  | smulh (b : BitVec 5) (a : BitVec 5) (d : BitVec 5) (st : BitVec 3)
  /-- SAND (R324): Scalar bitwise AND. -/
  | sand (b : BitVec 5) (a : BitVec 5) (d : BitVec 5) (st : BitVec 3)
  /-- SOR (R324): Scalar bitwise OR. -/
  | sor (b : BitVec 5) (a : BitVec 5) (d : BitVec 5) (st : BitVec 3)
  /-- SXOR (R324): Scalar bitwise XOR. -/
  | sxor (b : BitVec 5) (a : BitVec 5) (d : BitVec 5) (st : BitVec 3)
  /-- SSHL (R324): Scalar shift left. -/
  | sshl (b : BitVec 5) (a : BitVec 5) (d : BitVec 5) (st : BitVec 3)
  /-- SSHR (R324): Scalar logical shift right. -/
  | sshr (b : BitVec 5) (a : BitVec 5) (d : BitVec 5) (st : BitVec 3)
  /-- SSAR (R324): Scalar arithmetic shift right. -/
  | ssar (b : BitVec 5) (a : BitVec 5) (d : BitVec 5) (st : BitVec 3)
  /-- SMIN (R324): Signed scalar minimum. -/
  | smin (b : BitVec 5) (a : BitVec 5) (d : BitVec 5) (st : BitVec 3)
  /-- SMAX (R324): Signed scalar maximum. -/
  | smax (b : BitVec 5) (a : BitVec 5) (d : BitVec 5) (st : BitVec 3)
  /-- SNMIN (R324): Unsigned scalar minimum. -/
  | snmin (b : BitVec 5) (a : BitVec 5) (d : BitVec 5) (st : BitVec 3)
  /-- SNMAX (R324): Unsigned scalar maximum. -/
  | snmax (b : BitVec 5) (a : BitVec 5) (d : BitVec 5) (st : BitVec 3)
  /-- SCLZ (R324): Counts leading zeros of a scalar. -/
  | sclz (a : BitVec 5) (d : BitVec 5) (st : BitVec 3)
  /-- SPOPC (R324): Counts the 1 bits of a scalar. -/
  | spopc (a : BitVec 5) (d : BitVec 5) (st : BitVec 3)
  /-- SBFX (R324): Scalar bit-field extract. -/
  | sbfx (b : BitVec 5) (a : BitVec 5) (d : BitVec 5) (st : BitVec 3)
  /-- SBFI (R324): Scalar bit-field insert. -/
  | sbfi (b : BitVec 5) (a : BitVec 5) (d : BitVec 5) (st : BitVec 3)
  /-- SMOV (R324): Scalar move. -/
  | smov (a : BitVec 5) (d : BitVec 5) (st : BitVec 3)
  /-- SCMP (R324): Scalar integer compare to 0 or 1. -/
  | scmp (c : BitVec 3) (b : BitVec 5) (a : BitVec 5) (d : BitVec 5) (st : BitVec 3)
  /-- SADDI (R325): Adds a signed immediate to a scalar. -/
  | saddi (i : BitVec 16) (d : BitVec 5) (st : BitVec 3)
  /-- SMOVI (R325): Loads a sign-extended immediate. -/
  | smovi (i : BitVec 16) (d : BitVec 5) (st : BitVec 3)
  /-- SLUI (R325): Shifts a scalar left by 16 and inserts an immediate. -/
  | slui (i : BitVec 16) (d : BitVec 5) (st : BitVec 3)
  /-- SLD (R331): Scalar 64-bit load. -/
  | sld (o : BitVec 11) (b : BitVec 5) (d : BitVec 5) (st : BitVec 3)
  /-- SST (R331): Scalar 64-bit store. -/
  | sst (o : BitVec 11) (b : BitVec 5) (d : BitVec 5) (st : BitVec 3)
  /-- BAR (R77): Block barrier. -/
  | bar (st : BitVec 3)
  /-- SBAR (R77): Span barrier. -/
  | sbar (st : BitVec 3)
  /-- GBAR (R77): Grid barrier. -/
  | gbar (st : BitVec 3)
  /-- FENCE (R167): Cumulative full fence at a scope. -/
  | fence (c : BitVec 3) (st : BitVec 3)
  /-- QLOCK (R312): Enqueues for a queue lock and sleeps until it is granted. -/
  | qlock (r : BitVec 5) (st : BitVec 3)
  /-- QUNLOCK (R312): Releases a queue lock to the oldest waiter. -/
  | qunlock (r : BitVec 5) (st : BitVec 3)
  /-- SEND (R319): Appends a packet to a span channel. -/
  | send (m : BitVec 3) (c : BitVec 6) (d : BitVec 6) (st : BitVec 3)
  /-- RECV (R319): Removes a packet from a span channel. -/
  | recv (m : BitVec 3) (c : BitVec 6) (d : BitVec 6) (st : BitVec 3)
  /-- ABIND (R151): Binds a translation register to a base. -/
  | abind (r : BitVec 5) (n : BitVec 4) (st : BitVec 3)
  /-- VLD (R358): Vector load through a translation register. -/
  | vld (m : BitVec 3) (w : BitVec 2) (t : BitVec 4) (o : BitVec 6) (d : BitVec 6) (st : BitVec 3)
  /-- VST (R358): Vector store through a translation register. -/
  | vst (m : BitVec 3) (w : BitVec 2) (t : BitVec 4) (o : BitVec 6) (d : BitVec 6) (st : BitVec 3)
  /-- VLDS (R358): Vector scratchpad load. -/
  | vlds (m : BitVec 3) (w : BitVec 2) (k : BitVec 4) (o : BitVec 6) (d : BitVec 6) (st : BitVec 3)
  /-- VSTS (R358): Vector scratchpad store. -/
  | vsts (m : BitVec 3) (w : BitVec 2) (k : BitVec 4) (o : BitVec 6) (d : BitVec 6) (st : BitVec 3)
  /-- ATOM (R290): Atomic read-modify-write with return. -/
  | atom (m : BitVec 3) (r : BitVec 2) (p : BitVec 3) (c : BitVec 1) (t : BitVec 2) (o : BitVec 5) (d : BitVec 5) (st : BitVec 3)
  /-- RED (R290): Atomic reduction without return. -/
  | red (m : BitVec 3) (r : BitVec 2) (p : BitVec 3) (c : BitVec 1) (t : BitVec 2) (o : BitVec 5) (d : BitVec 5) (st : BitVec 3)
  /-- WFENCE (R174): Waits until reflected stores, remote requests and transfer records are performed at their receivers. -/
  | wfence (st : BitVec 3)
  /-- RST (R235): Remote store to a peer's window. -/
  | rst (m : BitVec 3) (v : BitVec 1) (p : BitVec 5) (o : BitVec 5) (d : BitVec 5) (st : BitVec 3)
  /-- RATOM (R236): Remote atomic with a reply written to the reply window. -/
  | ratom (m : BitVec 3) (r : BitVec 2) (v : BitVec 1) (p : BitVec 5) (o : BitVec 5) (d : BitVec 5) (st : BitVec 3)
  /-- XFER (R209): Conserved paired transfer as one act. -/
  | xfer (m : BitVec 3) (b : BitVec 6) (a : BitVec 6) (d : BitVec 6) (st : BitVec 3)
  /-- XFERX (R215): Cross-device conserved transfer that sends records. -/
  | xferx (m : BitVec 3) (b : BitVec 6) (a : BitVec 6) (d : BitVec 6) (st : BitVec 3)
  /-- FTOTAL (R213): Reads a figure of the bound domain. -/
  | ftotal (k : BitVec 4) (x : BitVec 4) (d : BitVec 5) (st : BitVec 3)
  /-- FBIND (R206): Binds or unbinds a conserved domain. -/
  | fbind (r : BitVec 5) (st : BitVec 3)
  /-- FBIND_SEAL (R204): Seals a conserved domain from a record. -/
  | fbindSeal (r : BitVec 5) (st : BitVec 3)
  /-- MXLOOP (R192): Posts a matrix loop command. -/
  | mxloop (u : BitVec 5) (e : BitVec 5) (t : BitVec 5) (st : BitVec 3)
  /-- CPY (R194): Posts a copy command. -/
  | cpy (u : BitVec 5) (e : BitVec 5) (t : BitVec 5) (st : BitVec 3)
  /-- BLOAD (R195): Posts a tile-store load command. -/
  | bload (u : BitVec 5) (e : BitVec 5) (t : BitVec 5) (st : BitVec 3)
  /-- CBLD (R196): Posts a codebook load command. -/
  | cbld (u : BitVec 5) (e : BitVec 5) (t : BitVec 5) (st : BitVec 3)
  /-- QFENCE (R197): Posts a queue fence. -/
  | qfence (u : BitVec 5) (e : BitVec 5) (t : BitVec 5) (st : BitVec 3)
  /-- NWRI (R242): Posts a network write with immediate. -/
  | nwri (u : BitVec 5) (e : BitVec 5) (t : BitVec 5) (st : BitVec 3)
  /-- CPWAIT (R160): Waits on an engine token against its promise. -/
  | cpwait (r : BitVec 5) (st : BitVec 3)
  /-- EMIT (R300): Appends graph records to a successor queue. -/
  | emit (m : BitVec 3) (n : BitVec 6) (d : BitVec 6) (st : BitVec 3)
  /-- RECIN (R317): Reads each lane's launch record. -/
  | recin (m : BitVec 3) (d : BitVec 6) (st : BitVec 3)
  /-- MXMMA (R180): One matrix K-step into a tile. -/
  | mxmma (f : BitVec 4) (b : BitVec 5) (a : BitVec 6) (z : BitVec 6) (st : BitVec 3)
  /-- MXZERO (R182): Zeroes a tile. -/
  | mxzero (z : BitVec 6) (st : BitVec 3)
  /-- MXLDZ (R182): Loads a tile from memory. -/
  | mxldz (b : BitVec 5) (z : BitVec 6) (st : BitVec 3)
  /-- MXSTZ (R182): Stores a tile to memory. -/
  | mxstz (b : BitVec 5) (z : BitVec 6) (st : BitVec 3)
  /-- MXRDZ (R182): Reads two tile rows into a vector register. -/
  | mxrdz (n : BitVec 4) (d : BitVec 6) (z : BitVec 6) (st : BitVec 3)
  /-- MXCHK (R185): Checks a tile's checksums. -/
  | mxchk (c : BitVec 5) (d : BitVec 5) (z : BitVec 6) (st : BitVec 3)
  /-- VIADD (R355): Vector integer add. -/
  | viadd (m : BitVec 3) (b : BitVec 6) (a : BitVec 6) (d : BitVec 6) (st : BitVec 3)
  /-- VISUB (R355): Vector integer subtract. -/
  | visub (m : BitVec 3) (b : BitVec 6) (a : BitVec 6) (d : BitVec 6) (st : BitVec 3)
  /-- VIMUL (R355): Vector integer multiply, low half. -/
  | vimul (m : BitVec 3) (b : BitVec 6) (a : BitVec 6) (d : BitVec 6) (st : BitVec 3)
  /-- VIMULH (R355): Vector signed multiply, high half. -/
  | vimulh (m : BitVec 3) (b : BitVec 6) (a : BitVec 6) (d : BitVec 6) (st : BitVec 3)
  /-- VIMAD (R355): Vector integer multiply-add. -/
  | vimad (m : BitVec 3) (b : BitVec 6) (a : BitVec 6) (d : BitVec 6) (st : BitVec 3)
  /-- VIMIN (R355): Vector signed minimum. -/
  | vimin (m : BitVec 3) (b : BitVec 6) (a : BitVec 6) (d : BitVec 6) (st : BitVec 3)
  /-- VIMAX (R355): Vector signed maximum. -/
  | vimax (m : BitVec 3) (b : BitVec 6) (a : BitVec 6) (d : BitVec 6) (st : BitVec 3)
  /-- VAND (R339): Vector AND. -/
  | vand (m : BitVec 3) (b : BitVec 6) (a : BitVec 6) (d : BitVec 6) (st : BitVec 3)
  /-- VOR (R339): Vector OR. -/
  | vor (m : BitVec 3) (b : BitVec 6) (a : BitVec 6) (d : BitVec 6) (st : BitVec 3)
  /-- VXOR (R339): Vector XOR. -/
  | vxor (m : BitVec 3) (b : BitVec 6) (a : BitVec 6) (d : BitVec 6) (st : BitVec 3)
  /-- VSHL (R365): Vector shift left. -/
  | vshl (m : BitVec 3) (b : BitVec 6) (a : BitVec 6) (d : BitVec 6) (st : BitVec 3)
  /-- VSHR (R365): Vector logical shift right. -/
  | vshr (m : BitVec 3) (b : BitVec 6) (a : BitVec 6) (d : BitVec 6) (st : BitVec 3)
  /-- VSAR (R365): Vector arithmetic shift right. -/
  | vsar (m : BitVec 3) (b : BitVec 6) (a : BitVec 6) (d : BitVec 6) (st : BitVec 3)
  /-- VBFX (R135): Vector bit-field extract. -/
  | vbfx (m : BitVec 3) (b : BitVec 6) (a : BitVec 6) (d : BitVec 6) (st : BitVec 3)
  /-- VBFI (R135): Vector bit-field insert. -/
  | vbfi (m : BitVec 3) (b : BitVec 6) (a : BitVec 6) (d : BitVec 6) (st : BitVec 3)
  /-- VICMP (R356): Vector integer compare into a mask. -/
  | vicmp (m : BitVec 3) (b : BitVec 6) (a : BitVec 6) (c : BitVec 3) (k : BitVec 3) (st : BitVec 3)
  /-- VSEL (R363): Per-lane select by a mask. -/
  | vsel (m : BitVec 3) (b : BitVec 6) (a : BitVec 6) (d : BitVec 6) (st : BitVec 3)
  /-- VMOV (R362): Vector register move. -/
  | vmov (m : BitVec 3) (b : BitVec 6) (d : BitVec 6) (st : BitVec 3)
  /-- VMOVI (R362): Vector immediate move. -/
  | vmovi (i : BitVec 15) (d : BitVec 6) (st : BitVec 3)
  /-- VBCAST (R341): Broadcasts a scalar to the active lanes. -/
  | vbcast (m : BitVec 3) (a : BitVec 5) (d : BitVec 6) (st : BitVec 3)
  /-- VXADD (R114): Saturating FX32 add. -/
  | vxadd (m : BitVec 3) (b : BitVec 6) (a : BitVec 6) (d : BitVec 6) (st : BitVec 3)
  /-- VXSUB (R114): Saturating FX32 subtract. -/
  | vxsub (m : BitVec 3) (b : BitVec 6) (a : BitVec 6) (d : BitVec 6) (st : BitVec 3)
  /-- VXMUL (R114): FX32 multiply rounded to nearest even. -/
  | vxmul (m : BitVec 3) (b : BitVec 6) (a : BitVec 6) (d : BitVec 6) (st : BitVec 3)
  /-- VXMUL_RZ (R114): FX32 multiply rounded toward zero. -/
  | vxmulRz (m : BitVec 2) (b : BitVec 5) (a : BitVec 6) (d : BitVec 6) (st : BitVec 3)
  /-- VNOT (R367): Vector bitwise NOT. -/
  | vnot (m : BitVec 3) (a : BitVec 6) (d : BitVec 6) (st : BitVec 3)
  /-- VABS_I32 (R338): Saturating integer absolute value. -/
  | vabsI32 (m : BitVec 3) (a : BitVec 6) (d : BitVec 6) (st : BitVec 3)
  /-- VPOPC (R367): Vector population count. -/
  | vpopc (m : BitVec 3) (a : BitVec 6) (d : BitVec 6) (st : BitVec 3)
  /-- VCLZ (R343): Vector count of leading zeros. -/
  | vclz (m : BitVec 3) (a : BitVec 6) (d : BitVec 6) (st : BitVec 3)
  /-- LANEID (R367): Writes the logical lane index. -/
  | laneid (m : BitVec 3) (d : BitVec 6) (st : BitVec 3)
  /-- VFCLASS (R346): Classifies FP32 values. -/
  | vfclass (m : BitVec 3) (a : BitVec 6) (d : BitVec 6) (st : BitVec 3)
  /-- VFKEY (R131): Forms a sortable key from FP16 or BF16. -/
  | vfkey (m : BitVec 3) (t : BitVec 1) (a : BitVec 6) (d : BitVec 6) (st : BitVec 3)
  /-- VFRCP (R348): Correctly rounded reciprocal. -/
  | vfrcp (m : BitVec 3) (a : BitVec 6) (d : BitVec 6) (st : BitVec 3)
  /-- VFRSQ (R348): Correctly rounded reciprocal square root. -/
  | vfrsq (m : BitVec 3) (a : BitVec 6) (d : BitVec 6) (st : BitVec 3)
  /-- VFEX2 (R348): Correctly rounded 2^x. -/
  | vfex2 (m : BitVec 3) (a : BitVec 6) (d : BitVec 6) (st : BitVec 3)
  /-- VFEXP (R348): Correctly rounded e^x. -/
  | vfexp (m : BitVec 3) (a : BitVec 6) (d : BitVec 6) (st : BitVec 3)
  /-- VFLG2 (R348): Correctly rounded log2 x. -/
  | vflg2 (m : BitVec 3) (a : BitVec 6) (d : BitVec 6) (st : BitVec 3)
  /-- VFSIN (R348): Correctly rounded sine. -/
  | vfsin (m : BitVec 3) (a : BitVec 6) (d : BitVec 6) (st : BitVec 3)
  /-- VFCOS (R348): Correctly rounded cosine. -/
  | vfcos (m : BitVec 3) (a : BitVec 6) (d : BitVec 6) (st : BitVec 3)
  /-- VABS_F32 (R338): FP32 absolute value. -/
  | vabsF32 (m : BitVec 3) (a : BitVec 6) (d : BitVec 6) (st : BitVec 3)
  /-- VFCVT (R349): Converts between FP32 and the narrow float formats. -/
  | vfcvt (m : BitVec 3) (c : BitVec 3) (a : BitVec 6) (d : BitVec 6) (st : BitVec 3)
  /-- VXCVT (R372): Converts among integer, FX32 and FP32. -/
  | vxcvt (m : BitVec 3) (c : BitVec 4) (a : BitVec 6) (d : BitVec 6) (st : BitVec 3)
  /-- VFADD (R345): FP32 add rounded to nearest even. -/
  | vfadd (m : BitVec 3) (b : BitVec 6) (a : BitVec 6) (d : BitVec 6) (st : BitVec 3)
  /-- VFSUB (R345): FP32 subtract rounded to nearest even. -/
  | vfsub (m : BitVec 3) (b : BitVec 6) (a : BitVec 6) (d : BitVec 6) (st : BitVec 3)
  /-- VFMUL (R345): FP32 multiply rounded to nearest even. -/
  | vfmul (m : BitVec 3) (b : BitVec 6) (a : BitVec 6) (d : BitVec 6) (st : BitVec 3)
  /-- VFFMA (R345): FP32 fused multiply-add rounded to nearest even. -/
  | vffma (m : BitVec 3) (b : BitVec 6) (a : BitVec 6) (d : BitVec 6) (st : BitVec 3)
  /-- VFMIN (R117): FP32 minimum. -/
  | vfmin (m : BitVec 3) (b : BitVec 6) (a : BitVec 6) (d : BitVec 6) (st : BitVec 3)
  /-- VFMAX (R117): FP32 maximum. -/
  | vfmax (m : BitVec 3) (b : BitVec 6) (a : BitVec 6) (d : BitVec 6) (st : BitVec 3)
  /-- VFCMP (R347): FP32 compare into a mask. -/
  | vfcmp (m : BitVec 3) (b : BitVec 6) (a : BitVec 6) (c : BitVec 3) (k : BitVec 3) (st : BitVec 3)
  /-- VHFMA (R353): Packed BF16 fused multiply-add. -/
  | vhfma (m : BitVec 3) (b : BitVec 6) (a : BitVec 6) (d : BitVec 6) (st : BitVec 3)
  /-- VFADD_DIRECTED (R345): FP32 add with directed rounding. -/
  | vfaddDirected (m : BitVec 2) (r : BitVec 2) (b : BitVec 5) (a : BitVec 6) (d : BitVec 6) (st : BitVec 3)
  /-- VFSUB_DIRECTED (R345): FP32 subtract with directed rounding. -/
  | vfsubDirected (m : BitVec 2) (r : BitVec 2) (b : BitVec 5) (a : BitVec 6) (d : BitVec 6) (st : BitVec 3)
  /-- VFMUL_DIRECTED (R345): FP32 multiply with directed rounding. -/
  | vfmulDirected (m : BitVec 2) (r : BitVec 2) (b : BitVec 5) (a : BitVec 6) (d : BitVec 6) (st : BitVec 3)
  /-- VFFMA_DIRECTED (R345): FP32 fused multiply-add with directed rounding. -/
  | vffmaDirected (m : BitVec 2) (r : BitVec 2) (b : BitVec 5) (a : BitVec 6) (d : BitVec 6) (st : BitVec 3)
  /-- VSHFL (R364): Shuffle by source lane index. -/
  | vshfl (m : BitVec 3) (b : BitVec 6) (a : BitVec 6) (d : BitVec 6) (st : BitVec 3)
  /-- VSHFX (R138): Shuffle by XOR of the lane index. -/
  | vshfx (m : BitVec 3) (b : BitVec 6) (a : BitVec 6) (d : BitVec 6) (st : BitVec 3)
  /-- VSHFR (R364): Shuffle by rotation. -/
  | vshfr (m : BitVec 3) (b : BitVec 6) (a : BitVec 6) (d : BitVec 6) (st : BitVec 3)
  /-- VBALLOT (R136): Gathers one bit of every member lane into a scalar. -/
  | vballot (m : BitVec 3) (n : BitVec 5) (a : BitVec 6) (d : BitVec 5) (st : BitVec 3)
  /-- VVOTE (R368): Votes any, all or uniform over the member lanes. -/
  | vvote (m : BitVec 3) (c : BitVec 5) (a : BitVec 6) (d : BitVec 5) (st : BitVec 3)
  /-- VLRED (R199): Reduction over the lanes by a fixed tree. -/
  | vlred (m : BitVec 3) (t : BitVec 3) (p : BitVec 3) (a : BitVec 6) (d : BitVec 6) (st : BitVec 3)
  /-- VSCAN (R361): Inclusive prefix scan over the lanes. -/
  | vscan (m : BitVec 3) (t : BitVec 3) (p : BitVec 3) (a : BitVec 6) (d : BitVec 6) (st : BitVec 3)
  /-- VRDLANE (R200): Reads one lane into a scalar. -/
  | vrdlane (n : BitVec 6) (a : BitVec 6) (d : BitVec 5) (st : BitVec 3)
  /-- VWRLANE (R369): Writes a scalar into one lane. -/
  | vwrlane (n : BitVec 6) (a : BitVec 5) (d : BitVec 6) (st : BitVec 3)
  /-- MSET (R306): Sets a mask register from a scalar. -/
  | mset (a : BitVec 5) (d : BitVec 3) (st : BitVec 3)
  /-- MGET (R306): Reads a mask register into a scalar. -/
  | mget (a : BitVec 3) (d : BitVec 5) (st : BitVec 3)
  /-- MLOG (R306): Combines two masks logically. -/
  | mlog (f : BitVec 2) (b : BitVec 3) (a : BitVec 3) (d : BitVec 3) (st : BitVec 3)
  /-- MPOPC (R306): Counts the set bits of a mask. -/
  | mpopc (a : BitVec 3) (d : BitVec 5) (st : BitVec 3)
  /-- VMOV_16 (R95): 16-bit vector move. -/
  | vmov16 (b : BitVec 5) (d : BitVec 6)
  /-- VIADD_16 (R95): 16-bit vector integer add. -/
  | viadd16 (b : BitVec 5) (d : BitVec 6)
  /-- VISUB_16 (R95): 16-bit vector integer subtract. -/
  | visub16 (b : BitVec 5) (d : BitVec 6)
  /-- VIMUL_16 (R95): 16-bit vector integer multiply. -/
  | vimul16 (b : BitVec 5) (d : BitVec 6)
  /-- VAND_16 (R95): 16-bit vector AND. -/
  | vand16 (b : BitVec 5) (d : BitVec 6)
  /-- VOR_16 (R95): 16-bit vector OR. -/
  | vor16 (b : BitVec 5) (d : BitVec 6)
  /-- VXOR_16 (R95): 16-bit vector XOR. -/
  | vxor16 (b : BitVec 5) (d : BitVec 6)
  /-- VSHL_16 (R95): 16-bit vector shift left. -/
  | vshl16 (b : BitVec 5) (d : BitVec 6)
  /-- VSHR_16 (R95): 16-bit vector logical shift right. -/
  | vshr16 (b : BitVec 5) (d : BitVec 6)
  /-- VSAR_16 (R95): 16-bit vector arithmetic shift right. -/
  | vsar16 (b : BitVec 5) (d : BitVec 6)
  /-- VFADD_16 (R95): 16-bit FP32 add. -/
  | vfadd16 (b : BitVec 5) (d : BitVec 6)
  /-- VFSUB_16 (R95): 16-bit FP32 subtract. -/
  | vfsub16 (b : BitVec 5) (d : BitVec 6)
  /-- VFMUL_16 (R95): 16-bit FP32 multiply. -/
  | vfmul16 (b : BitVec 5) (d : BitVec 6)
  /-- VFMAX_16 (R95): 16-bit FP32 maximum. -/
  | vfmax16 (b : BitVec 5) (d : BitVec 6)
  /-- VFMIN_16 (R95): 16-bit FP32 minimum. -/
  | vfmin16 (b : BitVec 5) (d : BitVec 6)
  /-- VXADD_16 (R95): 16-bit FX32 add. -/
  | vxadd16 (b : BitVec 5) (d : BitVec 6)
  /-- COLD_RESET (R31): Power-on, PERST# on both ports at once, or a thermal trip resets everything, restarts CYC at 0 and runs the boot ROM from stage 0x00. -/
  | coldReset
  /-- RSTCTL_WARM (R32): A write to RSTCTL with KEY 0xA5C3 and WARM = 1 starts a warm reset unless one is already in progress; a write with any other KEY is discarded. -/
  | rstctlWarm (port : Nat) (value : BitVec 32)
  /-- FIRMWARE_WARM_RESET (R31): A firmware request starts a warm reset that keeps the fuses, the rollback counter and the error banks. -/
  | firmwareWarmReset
  /-- PORT_RESET (R31): PERST# on one port, a hot reset or a link down resets that port's PCIe interface only and releases its semaphores. -/
  | portReset (port : Nat)
  /-- FUNCTION_LEVEL_RESET (R259): A Function Level Reset of a VF closes every context as CTX_CLOSE does, discards both queues, keeps the owner and starts a scrub. -/
  | functionLevelReset (p : Nat)
  /-- BOOT_ROM_START (R26): After a cold or warm reset hart 0 reads the fuses, runs the self test, zeroes all SRAM and HBM, and starts link bring-up on Ethernet port 0. -/
  | bootRomStart (selfTestOk : Bool)
  /-- BOOT_LINK_UP (R26): The link on the boot port comes up, and the ROM starts the DHCPv6 exchange at stage 0x04. -/
  | bootLinkUp
  /-- BOOT_LINK_TIMEOUT (R27): No link within 2 s sets ERR 0x01 and moves the attempt to the next port. -/
  | bootLinkTimeout
  /-- BOOT_DHCP_REPLY (R28): A DHCPv6 Reply arrives; a tftp Boot File URL starts the TFTP transfer, and any other Reply sets ERR 0x03. -/
  | bootDhcpReply (tftpUrl : Bool)
  /-- BOOT_DHCP_TIMEOUT (R27): No DHCPv6 Reply within 8 s sets ERR 0x02 and moves the attempt to the next port. -/
  | bootDhcpTimeout
  /-- BOOT_TFTP_DATA (R28): A TFTP data block arrives; the ROM refuses an oversize tsize, and the last block ends the transfer and starts the image checks. -/
  | bootTftpData (tsize blksize : Option Nat) (block : List Byte)
  /-- BOOT_TFTP_ERROR (R27): A TFTP error or timeout sets ERR 0x04 and moves the attempt to the next port. -/
  | bootTftpError
  /-- BOOT_RETRY_WAIT_EXPIRY (R27): When the 30 s wait after a full pass over the ports ends, the ROM starts again at port 0. -/
  | bootRetryWaitExpiry
  /-- FIRMWARE_READY (R33): Firmware sets STAGE 0x08, and the front ends and the whole host control window become live. -/
  | firmwareReady (settings : Firmware)
  /-- THERMAL_THROTTLE (R16): A die junction temperature of 100 °C makes the management complex lower the die's islands. -/
  | thermalThrottle (die : Nat)
  /-- THERMAL_TRIP (R16): A junction temperature of 115 °C turns every island OFF and reports the device as failed on both links. -/
  | thermalTrip
  /-- POWER_SAMPLE (R15): Every 1 µs the limiter samples package power and updates the 100 µs average. -/
  | powerSample (milliwatts : Nat)
  /-- POWER_STEP_DOWN (R15): Every 10 µs while the average exceeds the cap, every ACTIVE island is lowered by one operating point. -/
  | powerStepDown
  /-- POWER_CLOCK_GATE (R15): Islands already at point 0 are clock-gated in turn for 1 µs out of every 4 µs. -/
  | powerClockGate (island : Nat)
  /-- OPERATING_POINT_CHANGE (R14): Firmware sets an island's operating point, which changes only its cycle time. -/
  | operatingPointChange (island point : Nat)
  /-- ISLAND_OFF (R13): The management complex places an island with no bound block in OFF. -/
  | islandOff (island : Nat)
  /-- ISLAND_WAKE (R13): A bind record that names a core in an OFF island starts bringing the island to ACTIVE. -/
  | islandWake (island : Nat)
  /-- ISLAND_ACTIVE (R13): An island that was OFF reports ACTIVE after its state is zeroed, and held bind records then proceed. -/
  | islandActive (island : Nat)
  /-- SEM_READ (R21): A read of SEMn acquires the semaphore for the requester if it is free, and returns GOT. -/
  | semRead (reads : List Requester) (writes : List (Requester × BitVec 32)) (n : Nat)
  /-- SEM_WRITE (R21): A write to SEMn by the owner stores TAG, releases on bit 0 = 0 and clears ABAND by W1C; a write by any other requester sets its SEMERR bit. -/
  | semWrite (writes : List (Requester × BitVec 32)) (reads : List Requester) (n : Nat)
  /-- ERRSTAT_CLEAR (R269): Writing 1 to ERRSTAT.V clears every field of the error bank. -/
  | errstatClear (bank : Nat) (value : Word64)
  /-- REGISTER_WRITE (R19): A write to a host-window register that has no behaviour of its own updates its RW and W1C fields, or is discarded where no register is assigned. -/
  | registerWrite (port : Nat) (space : HostSpace) (offset : Nat) (value : Word64)
  /-- CORRECTED_ERROR (R269): A corrected ECC error increments CECNT and makes a record if the bank is empty. -/
  | correctedError (clears : List Nat) (errors : List Detected)
  /-- UNCORRECTABLE_ERROR (R269): An uncorrectable error poisons its unit and records it, or sets OVF and increments UECNT. -/
  | uncorrectableError (clears : List Nat) (errors : List Detected)
  /-- PATROL_SCRUB (R272): The HBM patrol reads a sector, corrects it or poisons it, and makes a PATROL record; every sector is read once in 24 hours. -/
  | patrolScrub (pa : Nat) (found : PatrolResult)
  /-- SPAN_RELAUNCH (R275): A killed replayable span is launched again from its retained launch record, within the relaunch limit. -/
  | spanRelaunch (span : SpanId)
  /-- TRAP_DELIVERY (R302): Once every older instruction has completed, the trap frame is written and the wave enters its handler at TRAPVEC at supervisor level. -/
  | trapDelivery (wave : Nat)
  /-- INSTRUCTION_REPLAY (R156): A logged instruction replays from the operand log after its fault is resolved, translating every lane again. -/
  | instructionReplay (wave : Nat)
  /-- FAULT_TIMEOUT (R251): A PAGE_REQUEST with no FAULT_REPLY within the fault timeout is declined. -/
  | faultTimeout (p fault : Nat)
  /-- SLEEP_EXPIRY (R332): A wave sleeping in SLEEPU becomes eligible once CYC reaches its target. -/
  | sleepExpiry (wave : Nat)
  /-- CPWAIT_PROMISE_EXPIRY (R160): CYC reaches the promise while the command is incomplete, and CPWAIT traps COPY_LATE. -/
  | cpwaitPromiseExpiry (wave : Nat)
  /-- SLICE_END (R257): The end of a 2 ms slice starts pre-emption of the context. -/
  | sliceEnd (p ctx : Nat)
  /-- PREEMPTION_TIMEOUT (R88): A wave that does not reach an empty-stack boundary in time is fully saved at its next run boundary. -/
  | preemptionTimeout (wave : Nat)
  /-- PRIORITY_AGING (R256): A context whose ready work waits unplaced for 20 ms gains one priority level. -/
  | priorityAging (p ctx : Nat)
  /-- BIND_DISPATCH (R254): Dispatch checks the next span's bind records and starts all its blocks together once every resource is free. -/
  | bindDispatch (p : Nat) (written : List BindWords)
  /-- GRAPH_FLUSH_TIMEOUT (R84): A node's flush timeout expires, and a consumer block is launched with fewer records than the coalescing count. -/
  | graphFlushTimeout (p node : Nat)
  /-- SCRUB_COMPLETE (R260): A scrub finishes, PART_ASSIGN completes, and a signed receipt is written with SCRUB_DONE. -/
  | scrubComplete (p : Nat)
  /-- QUEUE0_NOTIFY (R246): A driver notification on virtqueue 0 makes the front end consume commands in available-ring order. -/
  | queue0Notify (p : Nat) (cmds : List VfCmd)
  /-- QUEUE1_NOTIFY (R248): The driver posts queue 1 buffers, and the device delivers held records in order, with the OVERFLOW event last. -/
  | queue1Notify (p buffers : Nat)
  /-- CTX_OPEN (R250): Opens a context with its page table, save area, weight and GTIME mode, and returns SAVE_SIZE. -/
  | ctxOpen (p tag ctx : Nat) (root save weight : Nat) (wall : Bool)
  /-- CTX_CLOSE (R250): Kills the context's spans, zeroes its accumulator slots and ends the context. -/
  | ctxClose (p tag ctx : Nat)
  /-- INVALIDATE (R153): Invalidates a range of translations and clears LIMIT in affected translation registers. -/
  | invalidate (p tag ctx : Nat) (va length : Nat)
  /-- LAUNCH (R252): Reads a launch header and queues a grid, checking its limits and widths. -/
  | launch (p tag ctx : Nat) (header : Nat)
  /-- NODE (R252): Declares a graph node from a launch header. -/
  | node (p tag ctx : Nat) (n header : Nat)
  /-- RECORDS (R256): The host enqueues records to a node, charged against quota. -/
  | records (p tag ctx : Nat) (n va count : Nat)
  /-- PAUSE (R257): Saves the context and freezes GTIME. -/
  | pause (p tag ctx : Nat)
  /-- RESUME (R258): Makes the context eligible again and sets GTIME by its mode. -/
  | resume (p tag ctx : Nat) (elapsed : Nat)
  /-- FAULT_REPLY (R250): Resolves or declines a PAGE_REQUEST. -/
  | faultReply (p tag ctx : Nat) (fault : Nat) (resolve : Bool)
  /-- DOMAIN_RELEASE (R222): Returns a sealed conserved domain to FREE unless it is bound or has records in flight. -/
  | domainRelease (p tag ctx : Nat) (domid : Nat)
  /-- TXWIN (R229): Writes or invalidates a transmit-window entry. -/
  | txwin (p tag ctx : Nat) (entry : Nat) (words : EntryWords)
  /-- RAT (R231): Writes a remote-access table entry. -/
  | rat (p tag ctx : Nat) (entry : Nat) (words : EntryWords)
  /-- FLOW (R240): Creates or clears a network flow. -/
  | flow (p tag ctx : Nat) (n : Nat) (fields : Option FlowFields)
  /-- CELL_REPAIR (R283): Rewrites a poisoned conserved cell from INTERIOR and clears POISONED. -/
  | cellRepair (p tag ctx : Nat) (domid cell : Nat)
  /-- MONITOR (R284): Configures an address-range or level monitor and clears its counts. -/
  | monitor (p tag ctx : Nat) (m : Nat) (fields : MonitorFields)
  /-- LOG_READ (R286): Copies protected-log entries to the host. -/
  | logRead (p tag ctx : Nat) (first count address : Nat)
  /-- KEY_LOAD (R281): Loads a granted key slot once. -/
  | keyLoad (p tag ctx : Nat) (key : Nat) (material : List Byte)
  /-- KEY_CLEAR (R281): Zeroes a key slot and discards its bank-array lines. -/
  | keyClear (p tag ctx : Nat) (key : Nat)
  /-- TIME_MODE (R258): Sets the context's GTIME mode for the next RESUME. -/
  | timeMode (p tag ctx : Nat) (wall : Bool)
  /-- PART_ASSIGN (R244): Assigns a partition after checks and a scrub. -/
  | partAssign (port tag p cbase climit : Nat) (cset : BitVec 32) (grants : List Nat) (quota owner : Nat)
  /-- PART_RELEASE (R250): Releases a partition with no open context, scrubbing it and clearing its keys. -/
  | partRelease (port tag p : Nat)
  /-- DOMAIN_FORM (R223): Assigns the device number and forms the scale-up domain. -/
  | domainForm (port tag number : Nat) (members : List Nat)
  /-- RETIRE (R277): Retires a core, an HBM row or a bank. -/
  | retire (port tag : Nat) (kind : RetireKind) (unit : Nat)
  /-- MONITOR_PERIODIC (R286): Every 1 ms of changed counts, a monitor appends a chained log entry. -/
  | monitorPeriodic (p m : Nat)
  /-- LEVEL_SAMPLE (R285): Every 1 µs, level monitors of sources 4 to 6 sample their source. -/
  | levelSample (p m x : Nat)
  /-- FABRIC_LINK_DOWN (R225): A direct link is declared down after 16 consecutive CRC failures or 10 µs without a flit, and traffic detours through a relay. -/
  | fabricLinkDown (seat : Nat)
  /-- FABRIC_LINK_RESTORE (R225): A link that has stayed up for 1 ms is used again. -/
  | fabricLinkRestore (seat : Nat)
  /-- FABRIC_FLIT_RECEIVE (R226): A flit arrives; one that fails its CRC is discarded, and a whole packet is held or performed in sequence order. -/
  | fabricFlitReceive (link dest : Nat) (crcOk : Bool) (packet : Packet)
  /-- REFLECTED_STORE_ARRIVE (R232): The destination translates a reflected store or RST and performs it, holds its path, or loses it. -/
  | reflectedStoreArrive (path : PathKey)
  /-- REMOTE_ATOMIC (R238): The home service wave performs a RATOM group, repeating it once on poison, and replies. -/
  | remoteAtomic (path : PathKey) (firstBad secondBad : Bool)
  /-- RATOM_REPLY (R236): A reply writes old values into the initiator's reply window and completes the token when every group has replied. -/
  | ratomReply (path : PathKey)
  /-- XFER_RECORD_APPLY (R216): The destination applies or refuses an arriving transfer record as one act. -/
  | xferRecordApply (path : PathKey)
  /-- XFER_RECORD_ACK (R217): An acknowledgement adds the amount to ACKED at the source. -/
  | xferRecordAck (path : PathKey)
  /-- XFER_RECORD_REFUSAL (R217): A refusal refunds the amount at the source and marks a refusal pending for the wave. -/
  | xferRecordRefusal (path : PathKey)
  /-- FABRIC_ACK_RECEIVE (R227, R233): An acknowledgement bitmap arrives, and the sender retransmits the packets it shows missing; `lost` is the destination's report of discarded stores: the destination VA of the first, the source VA of its image, and the count. -/
  | fabricAckReceive (route : AckRoute) (next : Nat) (held : Word64) (lost : Option (Nat × Nat × Nat))
  /-- FABRIC_RETRANSMIT_TIMEOUT (R227): An unacknowledged packet is retransmitted 4 µs after it was sent. -/
  | fabricRetransmitTimeout (path : PathKey) (seq : Nat)
  /-- FABRIC_PATH_FAILED (R227): A path whose oldest packet stays unacknowledged for 100 ms is declared failed, and its packets are lost. -/
  | fabricPathFailed (path : PathKey)
  /-- PATH_FAULT_SERVICED (R233): The destination service resolves or declines a held path's fault; the path resumes, or its held stores are lost. -/
  | pathFaultServiced (path : PathKey) (resolved : Bool)
  /-- COMBINING_BUFFER_DRAIN (R171): A reflected store leaves the combining buffer onto its path, or is lost at once if its destination is unreachable. -/
  | combiningBufferDrain (p entry : Nat)
  /-- NETWORK_PACKET_RECEIVE (R241): A transport packet arrives; its payload is performed, and on the last packet the immediate is queued and acknowledged. -/
  | networkPacketReceive (p : Nat) (packet : NetPacket)
  /-- NETWORK_ACK_RECEIVE (R241): A network acknowledgement arrives, retransmissions follow its bitmap, and the final one completes the NWRI. -/
  | networkAckReceive (p : Nat) (head : NetAckHead) (next : Nat) (held : BitVec 128) (refusal : Nat)
  /-- NETWORK_RETRANSMIT_TIMEOUT (R241): A missing packet is retransmitted after the flow's timeout. -/
  | networkRetransmitTimeout (p flow psn : Nat)
  /-- NETWORK_FLOW_SILENT (R242): A flow silent for 100 ms ends its NWRI with FAULT. -/
  | networkFlowSilent (p flow : Nat)
  /-- NEIGHBOUR_DISCOVERY (R239): The management complex answers neighbour discovery and ICMPv6. -/
  | neighbourDiscovery
  /-- ENGINE_COMMAND_START (R169): An engine queue starts its next unheld command. -/
  | engineCommandStart (core queue : Nat)
  /-- ENGINE_COMMAND_COMPLETE (R190): A command completes with a status, releasing chained successors and waking waiters. -/
  | engineCommandComplete (core queue : Nat)
  /-- MATRIX_STEP_START (R181): The matrix engine starts a K-step chosen between wave and MXLOOP steps. -/
  | matrixStepStart (core : Nat)
  /-- MATRIX_STEP_ROUND (R181): A K-step rounds into its tile 32 cycles after it starts. -/
  | matrixStepRound (core : Nat)
  /-- NETWORK_ACK_TIMER (R241): A network receiver that has not acknowledged for 2 µs sends an acknowledgement with its expected PSN and bitmap. -/
  | networkAckTimer (p flow : Nat)
  /-- UPLINK_DOWN (R224): An uplink goes down, and traffic that would leave on it leaves on the next higher good uplink. -/
  | uplinkDown (link : Nat)
  /-- UPLINK_UP (R224): An uplink that was down becomes good again, and traffic with its path number leaves on it once more. -/
  | uplinkUp (link : Nat)
  /-- HOST_LINK_UP (R31): A host port's PCIe link trains again after a port reset or a link down, and the port's interface resumes. -/
  | hostLinkUp (port : Nat)
  /-- VIRTIO_COMMON_CONFIG_WRITE (R246): A driver write to a VF's virtio common configuration sets feature, queue or device-status fields, including a device reset. -/
  | virtioCommonConfigWrite (port p : Nat) (field : VirtioField) (value : Word64)
  deriving DecidableEq, Repr

end Sys2Proof
end

