-- ==== Sys2Proof/WellFormed.lean ====
section
/-!
DEFINITION. Which instructions are well formed: the reserved values of fields, the register fields that no state
accepts, and the limits of counts and offsets (R107). Rules that depend on the state (a register outside the
launch's window, an e register outside a run, the level) are checked where the instruction executes.
-/

namespace Sys2Proof

/-- A designator of RUNEND: s0 to s31, v0 to v55, or 0x7F for none (R71). -/
abbrev designatorOk (d : BitVec 7) : Prop :=
  d.toNat ≤ 31 ∨ (64 ≤ d.toNat ∧ d.toNat ≤ 119) ∨ d.toNat = 127

/-- The block select of VLDS and VSTS: 0b0000 own block, 0b10bb block bb (R102). -/
abbrev blockSelectOk (k : BitVec 4) : Prop := k.toNat = 0 ∨ (8 ≤ k.toNat ∧ k.toNat ≤ 11)

/-- The selector of FTOTAL: KIND 0 to 9, and an index only with KIND 1 and 3 to 6 (R213). -/
abbrev totalOk (k x : BitVec 4) : Prop :=
  k.toNat ≤ 9 ∧ (k.toNat = 1 ∨ (3 ≤ k.toNat ∧ k.toNat ≤ 6) ∨ x.toNat = 0)

/-- The operation and type of VLRED and VSCAN (R103): .add, .min and .max with .f32 and .fx32, and every operation
but number 1 with .i32. -/
abbrev reductionOk (t p : BitVec 3) : Prop :=
  (t.toNat = 1 ∧ p.toNat ≠ 1) ∨
    ((t.toNat = 0 ∨ t.toNat = 2) ∧ (p.toNat = 0 ∨ p.toNat = 2 ∨ p.toNat = 3))

/-- Whether an instruction's fields hold no reserved value (R107). Events and commands have no reserved field. -/
def Instr.wellFormed : Instr → Bool
  | .coldReset => true
  | .rstctlWarm _ _ => true
  | .firmwareWarmReset => true
  | .portReset _ => true
  | .functionLevelReset _ => true
  | .bootRomStart _ => true
  | .bootLinkUp => true
  | .bootLinkTimeout => true
  | .bootDhcpReply _ => true
  | .bootDhcpTimeout => true
  | .bootTftpData _ _ _ => true
  | .bootTftpError => true
  | .bootRetryWaitExpiry => true
  | .firmwareReady _ => true
  | .thermalThrottle _ => true
  | .thermalTrip => true
  | .powerSample _ => true
  | .powerStepDown => true
  | .powerClockGate _ => true
  | .operatingPointChange _ _ => true
  | .islandOff _ => true
  | .islandWake _ => true
  | .islandActive _ => true
  | .semRead _ _ _ => true
  | .semWrite _ _ _ => true
  | .errstatClear _ _ => true
  | .registerWrite _ _ _ _ => true
  | .correctedError _ _ => true
  | .uncorrectableError _ _ => true
  | .patrolScrub _ _ => true
  | .spanRelaunch _ => true
  | .trapDelivery _ => true
  | .instructionReplay _ => true
  | .faultTimeout _ _ => true
  | .sleepExpiry _ => true
  | .cpwaitPromiseExpiry _ => true
  | .sliceEnd _ _ => true
  | .preemptionTimeout _ => true
  | .priorityAging _ _ => true
  | .bindDispatch _ _ => true
  | .graphFlushTimeout _ _ => true
  | .scrubComplete _ => true
  | .queue0Notify _ _ => true
  | .queue1Notify _ _ => true
  | .ctxOpen _ _ _ _ _ _ _ => true
  | .ctxClose _ _ _ => true
  | .invalidate _ _ _ _ _ => true
  | .launch _ _ _ _ => true
  | .node _ _ _ _ _ => true
  | .records _ _ _ _ _ _ => true
  | .pause _ _ _ => true
  | .resume _ _ _ _ => true
  | .faultReply _ _ _ _ _ => true
  | .domainRelease _ _ _ _ => true
  | .txwin _ _ _ _ _ => true
  | .rat _ _ _ _ _ => true
  | .flow _ _ _ _ _ => true
  | .cellRepair _ _ _ _ _ => true
  | .monitor _ _ _ _ _ => true
  | .logRead _ _ _ _ _ _ => true
  | .keyLoad _ _ _ _ _ => true
  | .keyClear _ _ _ _ => true
  | .timeMode _ _ _ _ => true
  | .partAssign _ _ _ _ _ _ _ _ _ => true
  | .partRelease _ _ _ => true
  | .domainForm _ _ _ _ => true
  | .retire _ _ _ _ => true
  | .monitorPeriodic _ _ => true
  | .levelSample _ _ _ => true
  | .fabricLinkDown _ => true
  | .fabricLinkRestore _ => true
  | .fabricFlitReceive _ _ _ _ => true
  | .reflectedStoreArrive _ => true
  | .remoteAtomic _ _ _ => true
  | .ratomReply _ => true
  | .xferRecordApply _ => true
  | .xferRecordAck _ => true
  | .xferRecordRefusal _ => true
  | .fabricAckReceive _ _ _ _ => true
  | .fabricRetransmitTimeout _ _ => true
  | .fabricPathFailed _ => true
  | .pathFaultServiced _ _ => true
  | .combiningBufferDrain _ _ => true
  | .networkPacketReceive _ _ => true
  | .networkAckReceive _ _ _ _ _ => true
  | .networkRetransmitTimeout _ _ _ => true
  | .networkFlowSilent _ _ => true
  | .neighbourDiscovery => true
  | .engineCommandStart _ _ => true
  | .engineCommandComplete _ _ => true
  | .matrixStepStart _ => true
  | .matrixStepRound _ => true
  | .nop _ => true
  | .bra _ _ => true
  | .bcc _ c _ _ => decide (c.toNat ≤ 5)
  | .call _ _ => true
  | .ret _ _ => true
  | .jmpr _ _ => true
  | .ifm o _ _ => decide (1 ≤ o.toInt)
  | .els o _ => decide (1 ≤ o.toInt)
  | .endif _ => true
  | .loop _ => true
  | .brk _ _ => true
  | .cont _ _ => true
  | .endl o _ => decide (o.toInt ≤ 0)
  | .exitm _ _ => true
  | .endw _ => true
  | .run c _ => decide (1 ≤ c.toNat ∧ c.toNat ≤ 24)
  | .runend z y x _ => decide (designatorOk z ∧ designatorOk y ∧ designatorOk x)
  | .yield _ => true
  | .sleepu _ _ => true
  | .waitk _ _ => true
  | .trap _ _ => true
  | .eret _ => true
  | .sigchk _ _ => true
  | .scsr _ _ _ => true
  | .scsw _ _ _ => true
  | .scss _ _ _ => true
  | .scsc _ _ _ => true
  | .sadd _ _ _ _ => true
  | .ssub _ _ _ _ => true
  | .smul _ _ _ _ => true
  | .smulh _ _ _ _ => true
  | .sand _ _ _ _ => true
  | .sor _ _ _ _ => true
  | .sxor _ _ _ _ => true
  | .sshl _ _ _ _ => true
  | .sshr _ _ _ _ => true
  | .ssar _ _ _ _ => true
  | .smin _ _ _ _ => true
  | .smax _ _ _ _ => true
  | .snmin _ _ _ _ => true
  | .snmax _ _ _ _ => true
  | .sclz _ _ _ => true
  | .spopc _ _ _ => true
  | .sbfx _ _ _ _ => true
  | .sbfi _ _ _ _ => true
  | .smov _ _ _ => true
  | .scmp _ _ _ _ _ => true
  | .saddi _ _ _ => true
  | .smovi _ _ _ => true
  | .slui _ _ _ => true
  | .sld _ _ _ _ => true
  | .sst _ _ _ _ => true
  | .bar _ => true
  | .sbar _ => true
  | .gbar _ => true
  | .fence c _ => decide (c.toNat ≤ 5)
  | .qlock _ _ => true
  | .qunlock _ _ => true
  | .send _ _ _ _ => true
  | .recv _ _ _ _ => true
  | .abind _ _ _ => true
  | .vld _ _ _ _ _ _ => true
  | .vst _ _ _ _ _ _ => true
  | .vlds _ w k _ _ _ => decide (w.toNat ≠ 3 ∧ blockSelectOk k)
  | .vsts _ w k _ _ _ => decide (w.toNat ≠ 3 ∧ blockSelectOk k)
  | .atom _ _ _ _ _ _ d _ => decide (d.toNat ≠ 31)
  | .red _ _ _ _ _ _ _ _ => true
  | .wfence _ => true
  | .rst _ _ _ _ _ _ => true
  | .ratom _ _ _ _ _ _ _ => true
  | .xfer _ _ _ _ _ => true
  | .xferx _ _ _ _ _ => true
  | .ftotal k x _ _ => decide (totalOk k x)
  | .fbind _ _ => true
  | .fbindSeal _ _ => true
  | .mxloop _ _ t _ => decide (t.toNat ≠ 31)
  | .cpy _ _ t _ => decide (t.toNat ≠ 31)
  | .bload _ _ t _ => decide (t.toNat ≠ 31)
  | .cbld _ _ t _ => decide (t.toNat ≠ 31)
  | .qfence _ _ t _ => decide (t.toNat ≠ 31)
  | .nwri _ _ t _ => decide (t.toNat ≠ 31)
  | .cpwait r _ => decide (r.toNat ≠ 31)
  | .emit _ n _ _ => decide (n.toNat ≤ 31)
  | .recin _ _ _ => true
  | .mxmma f _ a _ _ => decide (f.toNat ≤ 5) && (decide (a.toNat ≤ 48) || a == 56)
  | .mxzero _ _ => true
  | .mxldz _ _ _ => true
  | .mxstz _ _ _ => true
  | .mxrdz _ _ _ _ => true
  | .mxchk _ _ _ _ => true
  | .viadd _ _ _ _ _ => true
  | .visub _ _ _ _ _ => true
  | .vimul _ _ _ _ _ => true
  | .vimulh _ _ _ _ _ => true
  | .vimad _ _ _ _ _ => true
  | .vimin _ _ _ _ _ => true
  | .vimax _ _ _ _ _ => true
  | .vand _ _ _ _ _ => true
  | .vor _ _ _ _ _ => true
  | .vxor _ _ _ _ _ => true
  | .vshl _ _ _ _ _ => true
  | .vshr _ _ _ _ _ => true
  | .vsar _ _ _ _ _ => true
  | .vbfx _ _ _ _ _ => true
  | .vbfi _ _ _ _ _ => true
  | .vicmp _ _ _ _ k _ => decide (k.toNat ≠ 0)
  | .vsel _ _ _ _ _ => true
  | .vmov _ _ _ _ => true
  | .vmovi _ _ _ => true
  | .vbcast _ _ _ _ => true
  | .vxadd _ _ _ _ _ => true
  | .vxsub _ _ _ _ _ => true
  | .vxmul _ _ _ _ _ => true
  | .vxmulRz _ _ _ _ _ => true
  | .vnot _ _ _ _ => true
  | .vabsI32 _ _ _ _ => true
  | .vpopc _ _ _ _ => true
  | .vclz _ _ _ _ => true
  | .laneid _ _ _ => true
  | .vfclass _ _ _ _ => true
  | .vfkey _ _ _ _ _ => true
  | .vfrcp _ _ _ _ => true
  | .vfrsq _ _ _ _ => true
  | .vfex2 _ _ _ _ => true
  | .vfexp _ _ _ _ => true
  | .vflg2 _ _ _ _ => true
  | .vfsin _ _ _ _ => true
  | .vfcos _ _ _ _ => true
  | .vabsF32 _ _ _ _ => true
  | .vfcvt _ _ _ _ _ => true
  | .vxcvt _ c _ _ _ => decide (c.toNat ≤ 13)
  | .vfadd _ _ _ _ _ => true
  | .vfsub _ _ _ _ _ => true
  | .vfmul _ _ _ _ _ => true
  | .vffma _ _ _ _ _ => true
  | .vfmin _ _ _ _ _ => true
  | .vfmax _ _ _ _ _ => true
  | .vfcmp _ _ _ _ k _ => decide (k.toNat ≠ 0)
  | .vhfma _ _ _ _ _ => true
  | .vfaddDirected _ r _ _ _ _ => decide (r.toNat ≠ 0)
  | .vfsubDirected _ r _ _ _ _ => decide (r.toNat ≠ 0)
  | .vfmulDirected _ r _ _ _ _ => decide (r.toNat ≠ 0)
  | .vffmaDirected _ r _ _ _ _ => decide (r.toNat ≠ 0)
  | .vshfl _ _ _ _ _ => true
  | .vshfx _ _ _ _ _ => true
  | .vshfr _ _ _ _ _ => true
  | .vballot _ _ _ _ _ => true
  | .vvote _ c _ _ _ => decide (c.toNat ≤ 2)
  | .vlred _ t p _ _ _ => decide (reductionOk t p)
  | .vscan _ t p _ _ _ => decide (reductionOk t p)
  | .vrdlane _ _ _ _ => true
  | .vwrlane _ _ _ _ => true
  | .mset _ d _ => decide (d.toNat ≠ 0)
  | .mget _ _ _ => true
  | .mlog _ _ _ d _ => decide (d.toNat ≠ 0)
  | .mpopc _ _ _ => true
  | .vmov16 _ _ => true
  | .viadd16 _ _ => true
  | .visub16 _ _ => true
  | .vimul16 _ _ => true
  | .vand16 _ _ => true
  | .vor16 _ _ => true
  | .vxor16 _ _ => true
  | .vshl16 _ _ => true
  | .vshr16 _ _ => true
  | .vsar16 _ _ => true
  | .vfadd16 _ _ => true
  | .vfsub16 _ _ => true
  | .vfmul16 _ _ => true
  | .vfmax16 _ _ => true
  | .vfmin16 _ _ => true
  | .vxadd16 _ _ => true
  | .networkAckTimer _ _ => true
  | .uplinkDown _ => true
  | .uplinkUp _ => true
  | .hostLinkUp _ => true
  | .virtioCommonConfigWrite _ _ _ _ => true

end Sys2Proof
end

