-- ==== Sys2Proof/Decode.lean ====
section
/-!
DEFINITION. From bytes to an instruction or a named refusal, and back (R89, R92 to R109). Decoding is total. The
fields of a word are cut out here once; what is read is checked by `Instr.wellFormed`.
-/

namespace Sys2Proof

/-- Why bytes are not an instruction (R107). -/
inductive DecodeError where
  /-- Fewer bytes than the length bit asks for (R89). -/
  | truncated
  /-- A primary opcode that the map reserves (R96). -/
  | reservedOpcode (op : Nat)
  /-- A function number that its group reserves (R97 to R101). -/
  | reservedFunction (op fn : Nat)
  /-- A 1 in a field that must be 0 (R94, R96). -/
  | mustBeZero (mnemonic : String)
  /-- A reserved value of a field, or a register that no state accepts (R93, R107). -/
  | reservedField (i : Instr)
  deriving DecidableEq, Repr

/-- The `n` bits of `w` from bit `lo` up (R2). -/
def bits (w lo n : Nat) : BitVec n := BitVec.ofNat n (w / 2 ^ lo)

/-- An instruction that was read, if its fields hold no reserved value. -/
def checked (i : Instr) : Except DecodeError Instr :=
  if i.wellFormed then .ok i else .error (.reservedField i)

/-- The CSR group (R101, R326), by the function number in [31:28]. -/
def decodeCsr (w : Nat) : Except DecodeError Instr :=
  match w / 2 ^ 28 % 2 ^ 4 with
  | 0x0 => checked (.scsr (bits w 16 12) (bits w 11 5) (bits w 1 3))
  | 0x1 => checked (.scsw (bits w 16 12) (bits w 11 5) (bits w 1 3))
  | 0x2 => checked (.scss (bits w 16 12) (bits w 11 5) (bits w 1 3))
  | 0x3 => checked (.scsc (bits w 16 12) (bits w 11 5) (bits w 1 3))
  | fn => .error (.reservedFunction 0x17 fn)

/-- The scalar ALU group (R98), by the function number in [31:26]. -/
def decodeSalu (w : Nat) : Except DecodeError Instr :=
  match w / 2 ^ 26 % 2 ^ 6 with
  | 0x0 => checked (.sadd (bits w 21 5) (bits w 16 5) (bits w 11 5) (bits w 1 3))
  | 0x1 => checked (.ssub (bits w 21 5) (bits w 16 5) (bits w 11 5) (bits w 1 3))
  | 0x2 => checked (.smul (bits w 21 5) (bits w 16 5) (bits w 11 5) (bits w 1 3))
  | 0x3 => checked (.smulh (bits w 21 5) (bits w 16 5) (bits w 11 5) (bits w 1 3))
  | 0x4 => checked (.sand (bits w 21 5) (bits w 16 5) (bits w 11 5) (bits w 1 3))
  | 0x5 => checked (.sor (bits w 21 5) (bits w 16 5) (bits w 11 5) (bits w 1 3))
  | 0x6 => checked (.sxor (bits w 21 5) (bits w 16 5) (bits w 11 5) (bits w 1 3))
  | 0x7 => checked (.sshl (bits w 21 5) (bits w 16 5) (bits w 11 5) (bits w 1 3))
  | 0x8 => checked (.sshr (bits w 21 5) (bits w 16 5) (bits w 11 5) (bits w 1 3))
  | 0x9 => checked (.ssar (bits w 21 5) (bits w 16 5) (bits w 11 5) (bits w 1 3))
  | 0xa => checked (.smin (bits w 21 5) (bits w 16 5) (bits w 11 5) (bits w 1 3))
  | 0xb => checked (.smax (bits w 21 5) (bits w 16 5) (bits w 11 5) (bits w 1 3))
  | 0xc => checked (.snmin (bits w 21 5) (bits w 16 5) (bits w 11 5) (bits w 1 3))
  | 0xd => checked (.snmax (bits w 21 5) (bits w 16 5) (bits w 11 5) (bits w 1 3))
  | 0xe => if w / 2 ^ 21 % 2 ^ 5 = 0 then checked (.sclz (bits w 16 5) (bits w 11 5) (bits w 1 3)) else .error (.mustBeZero "SCLZ")
  | 0xf => if w / 2 ^ 21 % 2 ^ 5 = 0 then checked (.spopc (bits w 16 5) (bits w 11 5) (bits w 1 3)) else .error (.mustBeZero "SPOPC")
  | 0x10 => checked (.sbfx (bits w 21 5) (bits w 16 5) (bits w 11 5) (bits w 1 3))
  | 0x11 => checked (.sbfi (bits w 21 5) (bits w 16 5) (bits w 11 5) (bits w 1 3))
  | 0x12 => if w / 2 ^ 21 % 2 ^ 5 = 0 then checked (.smov (bits w 16 5) (bits w 11 5) (bits w 1 3)) else .error (.mustBeZero "SMOV")
  | 0x18 | 0x19 | 0x1a | 0x1b | 0x1c | 0x1d | 0x1e | 0x1f => checked (.scmp (bits w 26 3) (bits w 21 5) (bits w 16 5) (bits w 11 5) (bits w 1 3))
  | fn => .error (.reservedFunction 0x18 fn)

/-- The engine group (R101, R296), by the function number in [31:26]. -/
def decodeEng (w : Nat) : Except DecodeError Instr :=
  match w / 2 ^ 26 % 2 ^ 6 with
  | 0x0 => checked (.mxloop (bits w 21 5) (bits w 16 5) (bits w 11 5) (bits w 1 3))
  | 0x1 => checked (.cpy (bits w 21 5) (bits w 16 5) (bits w 11 5) (bits w 1 3))
  | 0x2 => checked (.bload (bits w 21 5) (bits w 16 5) (bits w 11 5) (bits w 1 3))
  | 0x3 => checked (.cbld (bits w 21 5) (bits w 16 5) (bits w 11 5) (bits w 1 3))
  | 0x4 => checked (.qfence (bits w 21 5) (bits w 16 5) (bits w 11 5) (bits w 1 3))
  | 0x5 => checked (.nwri (bits w 21 5) (bits w 16 5) (bits w 11 5) (bits w 1 3))
  | fn => .error (.reservedFunction 0x34 fn)

/-- The FBIND group (R101, R204), by the function number in [31:28]. -/
def decodeFbind (w : Nat) : Except DecodeError Instr :=
  match w / 2 ^ 28 % 2 ^ 4 with
  | 0x0 => if w / 2 ^ 16 % 2 ^ 12 = 0 then checked (.fbind (bits w 11 5) (bits w 1 3)) else .error (.mustBeZero "FBIND")
  | 0x1 => if w / 2 ^ 16 % 2 ^ 12 = 0 then checked (.fbindSeal (bits w 11 5) (bits w 1 3)) else .error (.mustBeZero "FBIND_SEAL")
  | fn => .error (.reservedFunction 0x33 fn)

/-- The VUN group (R100), by the function number in [28:23]. -/
def decodeVun (w : Nat) : Except DecodeError Instr :=
  match w / 2 ^ 23 % 2 ^ 6 with
  | 0x0 => checked (.vnot (bits w 29 3) (bits w 17 6) (bits w 11 6) (bits w 1 3))
  | 0x1 => checked (.vabsI32 (bits w 29 3) (bits w 17 6) (bits w 11 6) (bits w 1 3))
  | 0x2 => checked (.vpopc (bits w 29 3) (bits w 17 6) (bits w 11 6) (bits w 1 3))
  | 0x3 => checked (.vclz (bits w 29 3) (bits w 17 6) (bits w 11 6) (bits w 1 3))
  | 0x4 => if w / 2 ^ 17 % 2 ^ 6 = 0 then checked (.laneid (bits w 29 3) (bits w 11 6) (bits w 1 3)) else .error (.mustBeZero "LANEID")
  | 0x5 => checked (.vfclass (bits w 29 3) (bits w 17 6) (bits w 11 6) (bits w 1 3))
  | 0x6 | 0x7 => checked (.vfkey (bits w 29 3) (bits w 23 1) (bits w 17 6) (bits w 11 6) (bits w 1 3))
  | 0x8 => checked (.vfrcp (bits w 29 3) (bits w 17 6) (bits w 11 6) (bits w 1 3))
  | 0x9 => checked (.vfrsq (bits w 29 3) (bits w 17 6) (bits w 11 6) (bits w 1 3))
  | 0xa => checked (.vfex2 (bits w 29 3) (bits w 17 6) (bits w 11 6) (bits w 1 3))
  | 0xb => checked (.vfexp (bits w 29 3) (bits w 17 6) (bits w 11 6) (bits w 1 3))
  | 0xc => checked (.vflg2 (bits w 29 3) (bits w 17 6) (bits w 11 6) (bits w 1 3))
  | 0xd => checked (.vfsin (bits w 29 3) (bits w 17 6) (bits w 11 6) (bits w 1 3))
  | 0xe => checked (.vfcos (bits w 29 3) (bits w 17 6) (bits w 11 6) (bits w 1 3))
  | 0xf => checked (.vabsF32 (bits w 29 3) (bits w 17 6) (bits w 11 6) (bits w 1 3))
  | 0x10 | 0x11 | 0x12 | 0x13 | 0x14 | 0x15 | 0x16 | 0x17 => checked (.vfcvt (bits w 29 3) (bits w 23 3) (bits w 17 6) (bits w 11 6) (bits w 1 3))
  | 0x20 | 0x21 | 0x22 | 0x23 | 0x24 | 0x25 | 0x26 | 0x27 | 0x28 | 0x29 | 0x2a | 0x2b | 0x2c | 0x2d | 0x2e | 0x2f => checked (.vxcvt (bits w 29 3) (bits w 23 4) (bits w 17 6) (bits w 11 6) (bits w 1 3))
  | fn => .error (.reservedFunction 0x57 fn)

/-- VXMUL with directed rounding: RM 1 only (R104), by the function number in [29:28]. -/
def decodeVxmulRz (w : Nat) : Except DecodeError Instr :=
  match w / 2 ^ 28 % 2 ^ 2 with
  | 0x1 => checked (.vxmulRz (bits w 30 2) (bits w 23 5) (bits w 17 6) (bits w 11 6) (bits w 1 3))
  | fn => .error (.reservedFunction 0x6C fn)

/-- A 32-bit word, by its primary opcode (R96). -/
def decode32 (w : Nat) : Except DecodeError Instr :=
  match w / 2 ^ 4 % 2 ^ 7 with
  | 0x00 => if w / 2 ^ 11 % 2 ^ 21 = 0 then checked (.nop (bits w 1 3)) else .error (.mustBeZero "NOP")
  | 0x01 => checked (.bra (bits w 11 21) (bits w 1 3))
  | 0x02 => checked (.bcc (bits w 19 13) (bits w 16 3) (bits w 11 5) (bits w 1 3))
  | 0x03 => checked (.call (bits w 11 21) (bits w 1 3))
  | 0x04 => if w / 2 ^ 16 % 2 ^ 16 = 0 then checked (.ret (bits w 11 5) (bits w 1 3)) else .error (.mustBeZero "RET")
  | 0x05 => if w / 2 ^ 16 % 2 ^ 16 = 0 then checked (.jmpr (bits w 11 5) (bits w 1 3)) else .error (.mustBeZero "JMPR")
  | 0x06 => checked (.ifm (bits w 14 18) (bits w 11 3) (bits w 1 3))
  | 0x07 => if w / 2 ^ 11 % 2 ^ 3 = 0 then checked (.els (bits w 14 18) (bits w 1 3)) else .error (.mustBeZero "ELSE")
  | 0x08 => if w / 2 ^ 11 % 2 ^ 21 = 0 then checked (.endif (bits w 1 3)) else .error (.mustBeZero "ENDIF")
  | 0x09 => if w / 2 ^ 11 % 2 ^ 21 = 0 then checked (.loop (bits w 1 3)) else .error (.mustBeZero "LOOP")
  | 0x0A => if w / 2 ^ 14 % 2 ^ 18 = 0 then checked (.brk (bits w 11 3) (bits w 1 3)) else .error (.mustBeZero "BRK")
  | 0x0B => if w / 2 ^ 14 % 2 ^ 18 = 0 then checked (.cont (bits w 11 3) (bits w 1 3)) else .error (.mustBeZero "CONT")
  | 0x0C => if w / 2 ^ 11 % 2 ^ 3 = 0 then checked (.endl (bits w 14 18) (bits w 1 3)) else .error (.mustBeZero "ENDL")
  | 0x0D => if w / 2 ^ 14 % 2 ^ 18 = 0 then checked (.exitm (bits w 11 3) (bits w 1 3)) else .error (.mustBeZero "EXIT")
  | 0x0E => if w / 2 ^ 11 % 2 ^ 21 = 0 then checked (.endw (bits w 1 3)) else .error (.mustBeZero "END")
  | 0x0F => if w / 2 ^ 16 % 2 ^ 16 = 0 then checked (.run (bits w 11 5) (bits w 1 3)) else .error (.mustBeZero "RUN")
  | 0x10 => checked (.runend (bits w 25 7) (bits w 18 7) (bits w 11 7) (bits w 1 3))
  | 0x11 => if w / 2 ^ 11 % 2 ^ 21 = 0 then checked (.yield (bits w 1 3)) else .error (.mustBeZero "YIELD")
  | 0x12 => if w / 2 ^ 16 % 2 ^ 16 = 0 then checked (.sleepu (bits w 11 5) (bits w 1 3)) else .error (.mustBeZero "SLEEPU")
  | 0x13 => if w / 2 ^ 16 % 2 ^ 16 = 0 then checked (.waitk (bits w 11 5) (bits w 1 3)) else .error (.mustBeZero "WAITK")
  | 0x14 => if w / 2 ^ 11 % 2 ^ 5 = 0 then checked (.trap (bits w 16 16) (bits w 1 3)) else .error (.mustBeZero "TRAP")
  | 0x15 => if w / 2 ^ 11 % 2 ^ 21 = 0 then checked (.eret (bits w 1 3)) else .error (.mustBeZero "ERET")
  | 0x16 => checked (.sigchk (bits w 11 21) (bits w 1 3))
  | 0x17 => decodeCsr w
  | 0x18 => decodeSalu w
  | 0x19 => checked (.saddi (bits w 16 16) (bits w 11 5) (bits w 1 3))
  | 0x1A => checked (.smovi (bits w 16 16) (bits w 11 5) (bits w 1 3))
  | 0x1B => checked (.slui (bits w 16 16) (bits w 11 5) (bits w 1 3))
  | 0x1C => checked (.sld (bits w 21 11) (bits w 16 5) (bits w 11 5) (bits w 1 3))
  | 0x1D => checked (.sst (bits w 21 11) (bits w 16 5) (bits w 11 5) (bits w 1 3))
  | 0x1E => if w / 2 ^ 11 % 2 ^ 21 = 0 then checked (.bar (bits w 1 3)) else .error (.mustBeZero "BAR")
  | 0x1F => if w / 2 ^ 11 % 2 ^ 21 = 0 then checked (.sbar (bits w 1 3)) else .error (.mustBeZero "SBAR")
  | 0x20 => if w / 2 ^ 11 % 2 ^ 21 = 0 then checked (.gbar (bits w 1 3)) else .error (.mustBeZero "GBAR")
  | 0x21 => if w / 2 ^ 14 % 2 ^ 18 = 0 then checked (.fence (bits w 11 3) (bits w 1 3)) else .error (.mustBeZero "FENCE")
  | 0x22 => if w / 2 ^ 16 % 2 ^ 16 = 0 then checked (.qlock (bits w 11 5) (bits w 1 3)) else .error (.mustBeZero "QLOCK")
  | 0x23 => if w / 2 ^ 16 % 2 ^ 16 = 0 then checked (.qunlock (bits w 11 5) (bits w 1 3)) else .error (.mustBeZero "QUNLOCK")
  | 0x24 => if w / 2 ^ 23 % 2 ^ 6 = 0 then checked (.send (bits w 29 3) (bits w 17 6) (bits w 11 6) (bits w 1 3)) else .error (.mustBeZero "SEND")
  | 0x25 => if w / 2 ^ 23 % 2 ^ 6 = 0 then checked (.recv (bits w 29 3) (bits w 17 6) (bits w 11 6) (bits w 1 3)) else .error (.mustBeZero "RECV")
  | 0x26 => if w / 2 ^ 15 % 2 ^ 1 = 0 ∧ w / 2 ^ 21 % 2 ^ 11 = 0 then checked (.abind (bits w 16 5) (bits w 11 4) (bits w 1 3)) else .error (.mustBeZero "ABIND")
  | 0x27 => checked (.vld (bits w 29 3) (bits w 27 2) (bits w 23 4) (bits w 17 6) (bits w 11 6) (bits w 1 3))
  | 0x28 => checked (.vst (bits w 29 3) (bits w 27 2) (bits w 23 4) (bits w 17 6) (bits w 11 6) (bits w 1 3))
  | 0x29 => checked (.vlds (bits w 29 3) (bits w 27 2) (bits w 23 4) (bits w 17 6) (bits w 11 6) (bits w 1 3))
  | 0x2A => checked (.vsts (bits w 29 3) (bits w 27 2) (bits w 23 4) (bits w 17 6) (bits w 11 6) (bits w 1 3))
  | 0x2B => checked (.atom (bits w 29 3) (bits w 27 2) (bits w 24 3) (bits w 23 1) (bits w 21 2) (bits w 16 5) (bits w 11 5) (bits w 1 3))
  | 0x2C => checked (.red (bits w 29 3) (bits w 27 2) (bits w 24 3) (bits w 23 1) (bits w 21 2) (bits w 16 5) (bits w 11 5) (bits w 1 3))
  | 0x2D => if w / 2 ^ 11 % 2 ^ 21 = 0 then checked (.wfence (bits w 1 3)) else .error (.mustBeZero "WFENCE")
  | 0x2E => if w / 2 ^ 27 % 2 ^ 2 = 0 then checked (.rst (bits w 29 3) (bits w 26 1) (bits w 21 5) (bits w 16 5) (bits w 11 5) (bits w 1 3)) else .error (.mustBeZero "RST")
  | 0x2F => checked (.ratom (bits w 29 3) (bits w 27 2) (bits w 26 1) (bits w 21 5) (bits w 16 5) (bits w 11 5) (bits w 1 3))
  | 0x30 => checked (.xfer (bits w 29 3) (bits w 23 6) (bits w 17 6) (bits w 11 6) (bits w 1 3))
  | 0x31 => checked (.xferx (bits w 29 3) (bits w 23 6) (bits w 17 6) (bits w 11 6) (bits w 1 3))
  | 0x32 => if w / 2 ^ 20 % 2 ^ 8 = 0 then checked (.ftotal (bits w 28 4) (bits w 16 4) (bits w 11 5) (bits w 1 3)) else .error (.mustBeZero "FTOTAL")
  | 0x33 => decodeFbind w
  | 0x34 => decodeEng w
  | 0x35 => if w / 2 ^ 16 % 2 ^ 16 = 0 then checked (.cpwait (bits w 11 5) (bits w 1 3)) else .error (.mustBeZero "CPWAIT")
  | 0x36 => if w / 2 ^ 23 % 2 ^ 6 = 0 then checked (.emit (bits w 29 3) (bits w 17 6) (bits w 11 6) (bits w 1 3)) else .error (.mustBeZero "EMIT")
  | 0x37 => if w / 2 ^ 17 % 2 ^ 12 = 0 then checked (.recin (bits w 29 3) (bits w 11 6) (bits w 1 3)) else .error (.mustBeZero "RECIN")
  | 0x38 => checked (.mxmma (bits w 28 4) (bits w 23 5) (bits w 17 6) (bits w 11 6) (bits w 1 3))
  | 0x39 => if w / 2 ^ 17 % 2 ^ 15 = 0 then checked (.mxzero (bits w 11 6) (bits w 1 3)) else .error (.mustBeZero "MXZERO")
  | 0x3A => if w / 2 ^ 17 % 2 ^ 6 = 0 ∧ w / 2 ^ 28 % 2 ^ 4 = 0 then checked (.mxldz (bits w 23 5) (bits w 11 6) (bits w 1 3)) else .error (.mustBeZero "MXLDZ")
  | 0x3B => if w / 2 ^ 17 % 2 ^ 6 = 0 ∧ w / 2 ^ 28 % 2 ^ 4 = 0 then checked (.mxstz (bits w 23 5) (bits w 11 6) (bits w 1 3)) else .error (.mustBeZero "MXSTZ")
  | 0x3C => if w / 2 ^ 27 % 2 ^ 5 = 0 then checked (.mxrdz (bits w 23 4) (bits w 17 6) (bits w 11 6) (bits w 1 3)) else .error (.mustBeZero "MXRDZ")
  | 0x3D => if w / 2 ^ 22 % 2 ^ 1 = 0 ∧ w / 2 ^ 28 % 2 ^ 4 = 0 then checked (.mxchk (bits w 23 5) (bits w 17 5) (bits w 11 6) (bits w 1 3)) else .error (.mustBeZero "MXCHK")
  | 0x40 => checked (.viadd (bits w 29 3) (bits w 23 6) (bits w 17 6) (bits w 11 6) (bits w 1 3))
  | 0x41 => checked (.visub (bits w 29 3) (bits w 23 6) (bits w 17 6) (bits w 11 6) (bits w 1 3))
  | 0x42 => checked (.vimul (bits w 29 3) (bits w 23 6) (bits w 17 6) (bits w 11 6) (bits w 1 3))
  | 0x43 => checked (.vimulh (bits w 29 3) (bits w 23 6) (bits w 17 6) (bits w 11 6) (bits w 1 3))
  | 0x44 => checked (.vimad (bits w 29 3) (bits w 23 6) (bits w 17 6) (bits w 11 6) (bits w 1 3))
  | 0x45 => checked (.vimin (bits w 29 3) (bits w 23 6) (bits w 17 6) (bits w 11 6) (bits w 1 3))
  | 0x46 => checked (.vimax (bits w 29 3) (bits w 23 6) (bits w 17 6) (bits w 11 6) (bits w 1 3))
  | 0x47 => checked (.vand (bits w 29 3) (bits w 23 6) (bits w 17 6) (bits w 11 6) (bits w 1 3))
  | 0x48 => checked (.vor (bits w 29 3) (bits w 23 6) (bits w 17 6) (bits w 11 6) (bits w 1 3))
  | 0x49 => checked (.vxor (bits w 29 3) (bits w 23 6) (bits w 17 6) (bits w 11 6) (bits w 1 3))
  | 0x4A => checked (.vshl (bits w 29 3) (bits w 23 6) (bits w 17 6) (bits w 11 6) (bits w 1 3))
  | 0x4B => checked (.vshr (bits w 29 3) (bits w 23 6) (bits w 17 6) (bits w 11 6) (bits w 1 3))
  | 0x4C => checked (.vsar (bits w 29 3) (bits w 23 6) (bits w 17 6) (bits w 11 6) (bits w 1 3))
  | 0x4D => checked (.vbfx (bits w 29 3) (bits w 23 6) (bits w 17 6) (bits w 11 6) (bits w 1 3))
  | 0x4E => checked (.vbfi (bits w 29 3) (bits w 23 6) (bits w 17 6) (bits w 11 6) (bits w 1 3))
  | 0x4F => checked (.vicmp (bits w 29 3) (bits w 23 6) (bits w 17 6) (bits w 14 3) (bits w 11 3) (bits w 1 3))
  | 0x50 => checked (.vsel (bits w 29 3) (bits w 23 6) (bits w 17 6) (bits w 11 6) (bits w 1 3))
  | 0x51 => if w / 2 ^ 17 % 2 ^ 6 = 0 then checked (.vmov (bits w 29 3) (bits w 23 6) (bits w 11 6) (bits w 1 3)) else .error (.mustBeZero "VMOV")
  | 0x52 => checked (.vmovi (bits w 17 15) (bits w 11 6) (bits w 1 3))
  | 0x53 => if w / 2 ^ 22 % 2 ^ 7 = 0 then checked (.vbcast (bits w 29 3) (bits w 17 5) (bits w 11 6) (bits w 1 3)) else .error (.mustBeZero "VBCAST")
  | 0x54 => checked (.vxadd (bits w 29 3) (bits w 23 6) (bits w 17 6) (bits w 11 6) (bits w 1 3))
  | 0x55 => checked (.vxsub (bits w 29 3) (bits w 23 6) (bits w 17 6) (bits w 11 6) (bits w 1 3))
  | 0x56 => checked (.vxmul (bits w 29 3) (bits w 23 6) (bits w 17 6) (bits w 11 6) (bits w 1 3))
  | 0x57 => decodeVun w
  | 0x60 => checked (.vfadd (bits w 29 3) (bits w 23 6) (bits w 17 6) (bits w 11 6) (bits w 1 3))
  | 0x61 => checked (.vfsub (bits w 29 3) (bits w 23 6) (bits w 17 6) (bits w 11 6) (bits w 1 3))
  | 0x62 => checked (.vfmul (bits w 29 3) (bits w 23 6) (bits w 17 6) (bits w 11 6) (bits w 1 3))
  | 0x63 => checked (.vffma (bits w 29 3) (bits w 23 6) (bits w 17 6) (bits w 11 6) (bits w 1 3))
  | 0x64 => checked (.vfmin (bits w 29 3) (bits w 23 6) (bits w 17 6) (bits w 11 6) (bits w 1 3))
  | 0x65 => checked (.vfmax (bits w 29 3) (bits w 23 6) (bits w 17 6) (bits w 11 6) (bits w 1 3))
  | 0x66 => checked (.vfcmp (bits w 29 3) (bits w 23 6) (bits w 17 6) (bits w 14 3) (bits w 11 3) (bits w 1 3))
  | 0x67 => checked (.vhfma (bits w 29 3) (bits w 23 6) (bits w 17 6) (bits w 11 6) (bits w 1 3))
  | 0x68 => checked (.vfaddDirected (bits w 30 2) (bits w 28 2) (bits w 23 5) (bits w 17 6) (bits w 11 6) (bits w 1 3))
  | 0x69 => checked (.vfsubDirected (bits w 30 2) (bits w 28 2) (bits w 23 5) (bits w 17 6) (bits w 11 6) (bits w 1 3))
  | 0x6A => checked (.vfmulDirected (bits w 30 2) (bits w 28 2) (bits w 23 5) (bits w 17 6) (bits w 11 6) (bits w 1 3))
  | 0x6B => checked (.vffmaDirected (bits w 30 2) (bits w 28 2) (bits w 23 5) (bits w 17 6) (bits w 11 6) (bits w 1 3))
  | 0x6C => decodeVxmulRz w
  | 0x70 => checked (.vshfl (bits w 29 3) (bits w 23 6) (bits w 17 6) (bits w 11 6) (bits w 1 3))
  | 0x71 => checked (.vshfx (bits w 29 3) (bits w 23 6) (bits w 17 6) (bits w 11 6) (bits w 1 3))
  | 0x72 => checked (.vshfr (bits w 29 3) (bits w 23 6) (bits w 17 6) (bits w 11 6) (bits w 1 3))
  | 0x73 => if w / 2 ^ 16 % 2 ^ 1 = 0 ∧ w / 2 ^ 28 % 2 ^ 1 = 0 then checked (.vballot (bits w 29 3) (bits w 23 5) (bits w 17 6) (bits w 11 5) (bits w 1 3)) else .error (.mustBeZero "VBALLOT")
  | 0x74 => if w / 2 ^ 16 % 2 ^ 1 = 0 ∧ w / 2 ^ 28 % 2 ^ 1 = 0 then checked (.vvote (bits w 29 3) (bits w 23 5) (bits w 17 6) (bits w 11 5) (bits w 1 3)) else .error (.mustBeZero "VVOTE")
  | 0x75 => checked (.vlred (bits w 29 3) (bits w 26 3) (bits w 23 3) (bits w 17 6) (bits w 11 6) (bits w 1 3))
  | 0x76 => checked (.vscan (bits w 29 3) (bits w 26 3) (bits w 23 3) (bits w 17 6) (bits w 11 6) (bits w 1 3))
  | 0x77 => if w / 2 ^ 16 % 2 ^ 1 = 0 ∧ w / 2 ^ 29 % 2 ^ 3 = 0 then checked (.vrdlane (bits w 23 6) (bits w 17 6) (bits w 11 5) (bits w 1 3)) else .error (.mustBeZero "VRDLANE")
  | 0x78 => if w / 2 ^ 22 % 2 ^ 1 = 0 ∧ w / 2 ^ 29 % 2 ^ 3 = 0 then checked (.vwrlane (bits w 23 6) (bits w 17 5) (bits w 11 6) (bits w 1 3)) else .error (.mustBeZero "VWRLANE")
  | 0x79 => if w / 2 ^ 14 % 2 ^ 2 = 0 ∧ w / 2 ^ 21 % 2 ^ 11 = 0 then checked (.mset (bits w 16 5) (bits w 11 3) (bits w 1 3)) else .error (.mustBeZero "MSET")
  | 0x7A => if w / 2 ^ 19 % 2 ^ 13 = 0 then checked (.mget (bits w 16 3) (bits w 11 5) (bits w 1 3)) else .error (.mustBeZero "MGET")
  | 0x7B => if w / 2 ^ 22 % 2 ^ 10 = 0 then checked (.mlog (bits w 20 2) (bits w 17 3) (bits w 14 3) (bits w 11 3) (bits w 1 3)) else .error (.mustBeZero "MLOG")
  | 0x7C => if w / 2 ^ 19 % 2 ^ 13 = 0 then checked (.mpopc (bits w 16 3) (bits w 11 5) (bits w 1 3)) else .error (.mustBeZero "MPOPC")
  | op => .error (.reservedOpcode op)

/-- A 16-bit halfword, by OP16 in [4:1] (R95): all sixteen values are assigned. -/
def decode16 (w : Nat) : Except DecodeError Instr :=
  match w / 2 ^ 1 % 2 ^ 4 with
  | 0x0 => checked (.vmov16 (bits w 11 5) (bits w 5 6))
  | 0x1 => checked (.viadd16 (bits w 11 5) (bits w 5 6))
  | 0x2 => checked (.visub16 (bits w 11 5) (bits w 5 6))
  | 0x3 => checked (.vimul16 (bits w 11 5) (bits w 5 6))
  | 0x4 => checked (.vand16 (bits w 11 5) (bits w 5 6))
  | 0x5 => checked (.vor16 (bits w 11 5) (bits w 5 6))
  | 0x6 => checked (.vxor16 (bits w 11 5) (bits w 5 6))
  | 0x7 => checked (.vshl16 (bits w 11 5) (bits w 5 6))
  | 0x8 => checked (.vshr16 (bits w 11 5) (bits w 5 6))
  | 0x9 => checked (.vsar16 (bits w 11 5) (bits w 5 6))
  | 0xa => checked (.vfadd16 (bits w 11 5) (bits w 5 6))
  | 0xb => checked (.vfsub16 (bits w 11 5) (bits w 5 6))
  | 0xc => checked (.vfmul16 (bits w 11 5) (bits w 5 6))
  | 0xd => checked (.vfmax16 (bits w 11 5) (bits w 5 6))
  | 0xe => checked (.vfmin16 (bits w 11 5) (bits w 5 6))
  | _ => checked (.vxadd16 (bits w 11 5) (bits w 5 6))

/-- The number whose bytes, least significant first, are given (R2). -/
def leNat : List Byte → Nat
  | [] => 0
  | b :: bs => b.toNat + 256 * leNat bs

/-- The `n` low bytes of a number, least significant first (R2). -/
def leBytes : Nat → Nat → List Byte
  | 0, _ => []
  | n + 1, x => BitVec.ofNat 8 x :: leBytes n (x / 256)

/-- Reads one instruction from the front of a list of bytes, and gives the bytes after it (R89, R92). -/
def decode : List Byte → Except DecodeError (Instr × List Byte)
  | b0 :: b1 :: rest =>
    if b0.toNat % 2 = 0 then
      (decode16 (leNat [b0, b1])).map fun i => (i, rest)
    else
      match rest with
      | b2 :: b3 :: rest' => (decode32 (leNat [b0, b1, b2, b3])).map fun i => (i, rest')
      | _ => .error .truncated
  | _ => .error .truncated

/-- The instruction read from a table row's word: its bits as the hardware stores them, zeros above (R2, R89). -/
def decodeTableWord (nbits w : Nat) : Option Instr :=
  match decode (leBytes 4 (w % 2 ^ nbits)) with
  | .ok (i, _) => some i
  | .error _ => none

/-- The word `w` with the field `x` in place from bit `lo` up; `w` has zeros there (R2, R94). -/
def put {n : Nat} (x : BitVec n) (lo w : Nat) : Nat := w + x.toNat * 2 ^ lo

/-- The word of an encoded instruction: how many bits it has and their value (R92 to R96). Events and commands have
no word. -/
def encode : Instr → Option (Nat × Nat)
  | .coldReset => none
  | .rstctlWarm _ _ => none
  | .firmwareWarmReset => none
  | .portReset _ => none
  | .functionLevelReset _ => none
  | .bootRomStart _ => none
  | .bootLinkUp => none
  | .bootLinkTimeout => none
  | .bootDhcpReply _ => none
  | .bootDhcpTimeout => none
  | .bootTftpData _ _ _ => none
  | .bootTftpError => none
  | .bootRetryWaitExpiry => none
  | .firmwareReady _ => none
  | .thermalThrottle _ => none
  | .thermalTrip => none
  | .powerSample _ => none
  | .powerStepDown => none
  | .powerClockGate _ => none
  | .operatingPointChange _ _ => none
  | .islandOff _ => none
  | .islandWake _ => none
  | .islandActive _ => none
  | .semRead _ _ _ => none
  | .semWrite _ _ _ => none
  | .errstatClear _ _ => none
  | .registerWrite _ _ _ _ => none
  | .correctedError _ _ => none
  | .uncorrectableError _ _ => none
  | .patrolScrub _ _ => none
  | .spanRelaunch _ => none
  | .trapDelivery _ => none
  | .instructionReplay _ => none
  | .faultTimeout _ _ => none
  | .sleepExpiry _ => none
  | .cpwaitPromiseExpiry _ => none
  | .sliceEnd _ _ => none
  | .preemptionTimeout _ => none
  | .priorityAging _ _ => none
  | .bindDispatch _ _ => none
  | .graphFlushTimeout _ _ => none
  | .scrubComplete _ => none
  | .queue0Notify _ _ => none
  | .queue1Notify _ _ => none
  | .ctxOpen _ _ _ _ _ _ _ => none
  | .ctxClose _ _ _ => none
  | .invalidate _ _ _ _ _ => none
  | .launch _ _ _ _ => none
  | .node _ _ _ _ _ => none
  | .records _ _ _ _ _ _ => none
  | .pause _ _ _ => none
  | .resume _ _ _ _ => none
  | .faultReply _ _ _ _ _ => none
  | .domainRelease _ _ _ _ => none
  | .txwin _ _ _ _ _ => none
  | .rat _ _ _ _ _ => none
  | .flow _ _ _ _ _ => none
  | .cellRepair _ _ _ _ _ => none
  | .monitor _ _ _ _ _ => none
  | .logRead _ _ _ _ _ _ => none
  | .keyLoad _ _ _ _ _ => none
  | .keyClear _ _ _ _ => none
  | .timeMode _ _ _ _ => none
  | .partAssign _ _ _ _ _ _ _ _ _ => none
  | .partRelease _ _ _ => none
  | .domainForm _ _ _ _ => none
  | .retire _ _ _ _ => none
  | .monitorPeriodic _ _ => none
  | .levelSample _ _ _ => none
  | .fabricLinkDown _ => none
  | .fabricLinkRestore _ => none
  | .fabricFlitReceive _ _ _ _ => none
  | .reflectedStoreArrive _ => none
  | .remoteAtomic _ _ _ => none
  | .ratomReply _ => none
  | .xferRecordApply _ => none
  | .xferRecordAck _ => none
  | .xferRecordRefusal _ => none
  | .fabricAckReceive _ _ _ _ => none
  | .fabricRetransmitTimeout _ _ => none
  | .fabricPathFailed _ => none
  | .pathFaultServiced _ _ => none
  | .combiningBufferDrain _ _ => none
  | .networkPacketReceive _ _ => none
  | .networkAckReceive _ _ _ _ _ => none
  | .networkRetransmitTimeout _ _ _ => none
  | .networkFlowSilent _ _ => none
  | .neighbourDiscovery => none
  | .engineCommandStart _ _ => none
  | .engineCommandComplete _ _ => none
  | .matrixStepStart _ => none
  | .matrixStepRound _ => none
  | .nop st => some (32, (put st 1 0x00000001))
  | .bra o st => some (32, (put o 11 (put st 1 0x00000011)))
  | .bcc o c r st => some (32, (put o 19 (put c 16 (put r 11 (put st 1 0x00000021)))))
  | .call o st => some (32, (put o 11 (put st 1 0x00000031)))
  | .ret r st => some (32, (put r 11 (put st 1 0x00000041)))
  | .jmpr r st => some (32, (put r 11 (put st 1 0x00000051)))
  | .ifm o k st => some (32, (put o 14 (put k 11 (put st 1 0x00000061))))
  | .els o st => some (32, (put o 14 (put st 1 0x00000071)))
  | .endif st => some (32, (put st 1 0x00000081))
  | .loop st => some (32, (put st 1 0x00000091))
  | .brk k st => some (32, (put k 11 (put st 1 0x000000A1)))
  | .cont k st => some (32, (put k 11 (put st 1 0x000000B1)))
  | .endl o st => some (32, (put o 14 (put st 1 0x000000C1)))
  | .exitm k st => some (32, (put k 11 (put st 1 0x000000D1)))
  | .endw st => some (32, (put st 1 0x000000E1))
  | .run c st => some (32, (put c 11 (put st 1 0x000000F1)))
  | .runend z y x st => some (32, (put z 25 (put y 18 (put x 11 (put st 1 0x00000101)))))
  | .yield st => some (32, (put st 1 0x00000111))
  | .sleepu r st => some (32, (put r 11 (put st 1 0x00000121)))
  | .waitk r st => some (32, (put r 11 (put st 1 0x00000131)))
  | .trap i st => some (32, (put i 16 (put st 1 0x00000141)))
  | .eret st => some (32, (put st 1 0x00000151))
  | .sigchk i st => some (32, (put i 11 (put st 1 0x00000161)))
  | .scsr c r st => some (32, (put c 16 (put r 11 (put st 1 0x00000171))))
  | .scsw c r st => some (32, (put c 16 (put r 11 (put st 1 0x10000171))))
  | .scss c r st => some (32, (put c 16 (put r 11 (put st 1 0x20000171))))
  | .scsc c r st => some (32, (put c 16 (put r 11 (put st 1 0x30000171))))
  | .sadd b a d st => some (32, (put b 21 (put a 16 (put d 11 (put st 1 0x00000181)))))
  | .ssub b a d st => some (32, (put b 21 (put a 16 (put d 11 (put st 1 0x04000181)))))
  | .smul b a d st => some (32, (put b 21 (put a 16 (put d 11 (put st 1 0x08000181)))))
  | .smulh b a d st => some (32, (put b 21 (put a 16 (put d 11 (put st 1 0x0C000181)))))
  | .sand b a d st => some (32, (put b 21 (put a 16 (put d 11 (put st 1 0x10000181)))))
  | .sor b a d st => some (32, (put b 21 (put a 16 (put d 11 (put st 1 0x14000181)))))
  | .sxor b a d st => some (32, (put b 21 (put a 16 (put d 11 (put st 1 0x18000181)))))
  | .sshl b a d st => some (32, (put b 21 (put a 16 (put d 11 (put st 1 0x1C000181)))))
  | .sshr b a d st => some (32, (put b 21 (put a 16 (put d 11 (put st 1 0x20000181)))))
  | .ssar b a d st => some (32, (put b 21 (put a 16 (put d 11 (put st 1 0x24000181)))))
  | .smin b a d st => some (32, (put b 21 (put a 16 (put d 11 (put st 1 0x28000181)))))
  | .smax b a d st => some (32, (put b 21 (put a 16 (put d 11 (put st 1 0x2C000181)))))
  | .snmin b a d st => some (32, (put b 21 (put a 16 (put d 11 (put st 1 0x30000181)))))
  | .snmax b a d st => some (32, (put b 21 (put a 16 (put d 11 (put st 1 0x34000181)))))
  | .sclz a d st => some (32, (put a 16 (put d 11 (put st 1 0x38000181))))
  | .spopc a d st => some (32, (put a 16 (put d 11 (put st 1 0x3C000181))))
  | .sbfx b a d st => some (32, (put b 21 (put a 16 (put d 11 (put st 1 0x40000181)))))
  | .sbfi b a d st => some (32, (put b 21 (put a 16 (put d 11 (put st 1 0x44000181)))))
  | .smov a d st => some (32, (put a 16 (put d 11 (put st 1 0x48000181))))
  | .scmp c b a d st => some (32, (put c 26 (put b 21 (put a 16 (put d 11 (put st 1 0x60000181))))))
  | .saddi i d st => some (32, (put i 16 (put d 11 (put st 1 0x00000191))))
  | .smovi i d st => some (32, (put i 16 (put d 11 (put st 1 0x000001A1))))
  | .slui i d st => some (32, (put i 16 (put d 11 (put st 1 0x000001B1))))
  | .sld o b d st => some (32, (put o 21 (put b 16 (put d 11 (put st 1 0x000001C1)))))
  | .sst o b d st => some (32, (put o 21 (put b 16 (put d 11 (put st 1 0x000001D1)))))
  | .bar st => some (32, (put st 1 0x000001E1))
  | .sbar st => some (32, (put st 1 0x000001F1))
  | .gbar st => some (32, (put st 1 0x00000201))
  | .fence c st => some (32, (put c 11 (put st 1 0x00000211)))
  | .qlock r st => some (32, (put r 11 (put st 1 0x00000221)))
  | .qunlock r st => some (32, (put r 11 (put st 1 0x00000231)))
  | .send m c d st => some (32, (put m 29 (put c 17 (put d 11 (put st 1 0x00000241)))))
  | .recv m c d st => some (32, (put m 29 (put c 17 (put d 11 (put st 1 0x00000251)))))
  | .abind r n st => some (32, (put r 16 (put n 11 (put st 1 0x00000261))))
  | .vld m w t o d st => some (32, (put m 29 (put w 27 (put t 23 (put o 17 (put d 11 (put st 1 0x00000271)))))))
  | .vst m w t o d st => some (32, (put m 29 (put w 27 (put t 23 (put o 17 (put d 11 (put st 1 0x00000281)))))))
  | .vlds m w k o d st => some (32, (put m 29 (put w 27 (put k 23 (put o 17 (put d 11 (put st 1 0x00000291)))))))
  | .vsts m w k o d st => some (32, (put m 29 (put w 27 (put k 23 (put o 17 (put d 11 (put st 1 0x000002A1)))))))
  | .atom m r p c t o d st => some (32, (put m 29 (put r 27 (put p 24 (put c 23 (put t 21 (put o 16 (put d 11 (put st 1 0x000002B1)))))))))
  | .red m r p c t o d st => some (32, (put m 29 (put r 27 (put p 24 (put c 23 (put t 21 (put o 16 (put d 11 (put st 1 0x000002C1)))))))))
  | .wfence st => some (32, (put st 1 0x000002D1))
  | .rst m v p o d st => some (32, (put m 29 (put v 26 (put p 21 (put o 16 (put d 11 (put st 1 0x000002E1)))))))
  | .ratom m r v p o d st => some (32, (put m 29 (put r 27 (put v 26 (put p 21 (put o 16 (put d 11 (put st 1 0x000002F1))))))))
  | .xfer m b a d st => some (32, (put m 29 (put b 23 (put a 17 (put d 11 (put st 1 0x00000301))))))
  | .xferx m b a d st => some (32, (put m 29 (put b 23 (put a 17 (put d 11 (put st 1 0x00000311))))))
  | .ftotal k x d st => some (32, (put k 28 (put x 16 (put d 11 (put st 1 0x00000321)))))
  | .fbind r st => some (32, (put r 11 (put st 1 0x00000331)))
  | .fbindSeal r st => some (32, (put r 11 (put st 1 0x10000331)))
  | .mxloop u e t st => some (32, (put u 21 (put e 16 (put t 11 (put st 1 0x00000341)))))
  | .cpy u e t st => some (32, (put u 21 (put e 16 (put t 11 (put st 1 0x04000341)))))
  | .bload u e t st => some (32, (put u 21 (put e 16 (put t 11 (put st 1 0x08000341)))))
  | .cbld u e t st => some (32, (put u 21 (put e 16 (put t 11 (put st 1 0x0C000341)))))
  | .qfence u e t st => some (32, (put u 21 (put e 16 (put t 11 (put st 1 0x10000341)))))
  | .nwri u e t st => some (32, (put u 21 (put e 16 (put t 11 (put st 1 0x14000341)))))
  | .cpwait r st => some (32, (put r 11 (put st 1 0x00000351)))
  | .emit m n d st => some (32, (put m 29 (put n 17 (put d 11 (put st 1 0x00000361)))))
  | .recin m d st => some (32, (put m 29 (put d 11 (put st 1 0x00000371))))
  | .mxmma f b a z st => some (32, (put f 28 (put b 23 (put a 17 (put z 11 (put st 1 0x00000381))))))
  | .mxzero z st => some (32, (put z 11 (put st 1 0x00000391)))
  | .mxldz b z st => some (32, (put b 23 (put z 11 (put st 1 0x000003A1))))
  | .mxstz b z st => some (32, (put b 23 (put z 11 (put st 1 0x000003B1))))
  | .mxrdz n d z st => some (32, (put n 23 (put d 17 (put z 11 (put st 1 0x000003C1)))))
  | .mxchk c d z st => some (32, (put c 23 (put d 17 (put z 11 (put st 1 0x000003D1)))))
  | .viadd m b a d st => some (32, (put m 29 (put b 23 (put a 17 (put d 11 (put st 1 0x00000401))))))
  | .visub m b a d st => some (32, (put m 29 (put b 23 (put a 17 (put d 11 (put st 1 0x00000411))))))
  | .vimul m b a d st => some (32, (put m 29 (put b 23 (put a 17 (put d 11 (put st 1 0x00000421))))))
  | .vimulh m b a d st => some (32, (put m 29 (put b 23 (put a 17 (put d 11 (put st 1 0x00000431))))))
  | .vimad m b a d st => some (32, (put m 29 (put b 23 (put a 17 (put d 11 (put st 1 0x00000441))))))
  | .vimin m b a d st => some (32, (put m 29 (put b 23 (put a 17 (put d 11 (put st 1 0x00000451))))))
  | .vimax m b a d st => some (32, (put m 29 (put b 23 (put a 17 (put d 11 (put st 1 0x00000461))))))
  | .vand m b a d st => some (32, (put m 29 (put b 23 (put a 17 (put d 11 (put st 1 0x00000471))))))
  | .vor m b a d st => some (32, (put m 29 (put b 23 (put a 17 (put d 11 (put st 1 0x00000481))))))
  | .vxor m b a d st => some (32, (put m 29 (put b 23 (put a 17 (put d 11 (put st 1 0x00000491))))))
  | .vshl m b a d st => some (32, (put m 29 (put b 23 (put a 17 (put d 11 (put st 1 0x000004A1))))))
  | .vshr m b a d st => some (32, (put m 29 (put b 23 (put a 17 (put d 11 (put st 1 0x000004B1))))))
  | .vsar m b a d st => some (32, (put m 29 (put b 23 (put a 17 (put d 11 (put st 1 0x000004C1))))))
  | .vbfx m b a d st => some (32, (put m 29 (put b 23 (put a 17 (put d 11 (put st 1 0x000004D1))))))
  | .vbfi m b a d st => some (32, (put m 29 (put b 23 (put a 17 (put d 11 (put st 1 0x000004E1))))))
  | .vicmp m b a c k st => some (32, (put m 29 (put b 23 (put a 17 (put c 14 (put k 11 (put st 1 0x000004F1)))))))
  | .vsel m b a d st => some (32, (put m 29 (put b 23 (put a 17 (put d 11 (put st 1 0x00000501))))))
  | .vmov m b d st => some (32, (put m 29 (put b 23 (put d 11 (put st 1 0x00000511)))))
  | .vmovi i d st => some (32, (put i 17 (put d 11 (put st 1 0x00000521))))
  | .vbcast m a d st => some (32, (put m 29 (put a 17 (put d 11 (put st 1 0x00000531)))))
  | .vxadd m b a d st => some (32, (put m 29 (put b 23 (put a 17 (put d 11 (put st 1 0x00000541))))))
  | .vxsub m b a d st => some (32, (put m 29 (put b 23 (put a 17 (put d 11 (put st 1 0x00000551))))))
  | .vxmul m b a d st => some (32, (put m 29 (put b 23 (put a 17 (put d 11 (put st 1 0x00000561))))))
  | .vxmulRz m b a d st => some (32, (put m 30 (put b 23 (put a 17 (put d 11 (put st 1 0x100006C1))))))
  | .vnot m a d st => some (32, (put m 29 (put a 17 (put d 11 (put st 1 0x00000571)))))
  | .vabsI32 m a d st => some (32, (put m 29 (put a 17 (put d 11 (put st 1 0x00800571)))))
  | .vpopc m a d st => some (32, (put m 29 (put a 17 (put d 11 (put st 1 0x01000571)))))
  | .vclz m a d st => some (32, (put m 29 (put a 17 (put d 11 (put st 1 0x01800571)))))
  | .laneid m d st => some (32, (put m 29 (put d 11 (put st 1 0x02000571))))
  | .vfclass m a d st => some (32, (put m 29 (put a 17 (put d 11 (put st 1 0x02800571)))))
  | .vfkey m t a d st => some (32, (put m 29 (put t 23 (put a 17 (put d 11 (put st 1 0x03000571))))))
  | .vfrcp m a d st => some (32, (put m 29 (put a 17 (put d 11 (put st 1 0x04000571)))))
  | .vfrsq m a d st => some (32, (put m 29 (put a 17 (put d 11 (put st 1 0x04800571)))))
  | .vfex2 m a d st => some (32, (put m 29 (put a 17 (put d 11 (put st 1 0x05000571)))))
  | .vfexp m a d st => some (32, (put m 29 (put a 17 (put d 11 (put st 1 0x05800571)))))
  | .vflg2 m a d st => some (32, (put m 29 (put a 17 (put d 11 (put st 1 0x06000571)))))
  | .vfsin m a d st => some (32, (put m 29 (put a 17 (put d 11 (put st 1 0x06800571)))))
  | .vfcos m a d st => some (32, (put m 29 (put a 17 (put d 11 (put st 1 0x07000571)))))
  | .vabsF32 m a d st => some (32, (put m 29 (put a 17 (put d 11 (put st 1 0x07800571)))))
  | .vfcvt m c a d st => some (32, (put m 29 (put c 23 (put a 17 (put d 11 (put st 1 0x08000571))))))
  | .vxcvt m c a d st => some (32, (put m 29 (put c 23 (put a 17 (put d 11 (put st 1 0x10000571))))))
  | .vfadd m b a d st => some (32, (put m 29 (put b 23 (put a 17 (put d 11 (put st 1 0x00000601))))))
  | .vfsub m b a d st => some (32, (put m 29 (put b 23 (put a 17 (put d 11 (put st 1 0x00000611))))))
  | .vfmul m b a d st => some (32, (put m 29 (put b 23 (put a 17 (put d 11 (put st 1 0x00000621))))))
  | .vffma m b a d st => some (32, (put m 29 (put b 23 (put a 17 (put d 11 (put st 1 0x00000631))))))
  | .vfmin m b a d st => some (32, (put m 29 (put b 23 (put a 17 (put d 11 (put st 1 0x00000641))))))
  | .vfmax m b a d st => some (32, (put m 29 (put b 23 (put a 17 (put d 11 (put st 1 0x00000651))))))
  | .vfcmp m b a c k st => some (32, (put m 29 (put b 23 (put a 17 (put c 14 (put k 11 (put st 1 0x00000661)))))))
  | .vhfma m b a d st => some (32, (put m 29 (put b 23 (put a 17 (put d 11 (put st 1 0x00000671))))))
  | .vfaddDirected m r b a d st => some (32, (put m 30 (put r 28 (put b 23 (put a 17 (put d 11 (put st 1 0x00000681)))))))
  | .vfsubDirected m r b a d st => some (32, (put m 30 (put r 28 (put b 23 (put a 17 (put d 11 (put st 1 0x00000691)))))))
  | .vfmulDirected m r b a d st => some (32, (put m 30 (put r 28 (put b 23 (put a 17 (put d 11 (put st 1 0x000006A1)))))))
  | .vffmaDirected m r b a d st => some (32, (put m 30 (put r 28 (put b 23 (put a 17 (put d 11 (put st 1 0x000006B1)))))))
  | .vshfl m b a d st => some (32, (put m 29 (put b 23 (put a 17 (put d 11 (put st 1 0x00000701))))))
  | .vshfx m b a d st => some (32, (put m 29 (put b 23 (put a 17 (put d 11 (put st 1 0x00000711))))))
  | .vshfr m b a d st => some (32, (put m 29 (put b 23 (put a 17 (put d 11 (put st 1 0x00000721))))))
  | .vballot m n a d st => some (32, (put m 29 (put n 23 (put a 17 (put d 11 (put st 1 0x00000731))))))
  | .vvote m c a d st => some (32, (put m 29 (put c 23 (put a 17 (put d 11 (put st 1 0x00000741))))))
  | .vlred m t p a d st => some (32, (put m 29 (put t 26 (put p 23 (put a 17 (put d 11 (put st 1 0x00000751)))))))
  | .vscan m t p a d st => some (32, (put m 29 (put t 26 (put p 23 (put a 17 (put d 11 (put st 1 0x00000761)))))))
  | .vrdlane n a d st => some (32, (put n 23 (put a 17 (put d 11 (put st 1 0x00000771)))))
  | .vwrlane n a d st => some (32, (put n 23 (put a 17 (put d 11 (put st 1 0x00000781)))))
  | .mset a d st => some (32, (put a 16 (put d 11 (put st 1 0x00000791))))
  | .mget a d st => some (32, (put a 16 (put d 11 (put st 1 0x000007A1))))
  | .mlog f b a d st => some (32, (put f 20 (put b 17 (put a 14 (put d 11 (put st 1 0x000007B1))))))
  | .mpopc a d st => some (32, (put a 16 (put d 11 (put st 1 0x000007C1))))
  | .vmov16 b d => some (16, (put b 11 (put d 5 0x0000)))
  | .viadd16 b d => some (16, (put b 11 (put d 5 0x0002)))
  | .visub16 b d => some (16, (put b 11 (put d 5 0x0004)))
  | .vimul16 b d => some (16, (put b 11 (put d 5 0x0006)))
  | .vand16 b d => some (16, (put b 11 (put d 5 0x0008)))
  | .vor16 b d => some (16, (put b 11 (put d 5 0x000A)))
  | .vxor16 b d => some (16, (put b 11 (put d 5 0x000C)))
  | .vshl16 b d => some (16, (put b 11 (put d 5 0x000E)))
  | .vshr16 b d => some (16, (put b 11 (put d 5 0x0010)))
  | .vsar16 b d => some (16, (put b 11 (put d 5 0x0012)))
  | .vfadd16 b d => some (16, (put b 11 (put d 5 0x0014)))
  | .vfsub16 b d => some (16, (put b 11 (put d 5 0x0016)))
  | .vfmul16 b d => some (16, (put b 11 (put d 5 0x0018)))
  | .vfmax16 b d => some (16, (put b 11 (put d 5 0x001A)))
  | .vfmin16 b d => some (16, (put b 11 (put d 5 0x001C)))
  | .vxadd16 b d => some (16, (put b 11 (put d 5 0x001E)))
  | .networkAckTimer _ _ => none
  | .uplinkDown _ => none
  | .uplinkUp _ => none
  | .hostLinkUp _ => none
  | .virtioCommonConfigWrite _ _ _ _ => none

/-- How many bytes an encoded instruction occupies; 0 for an event (R89). -/
def Instr.length (i : Instr) : Nat :=
  match encode i with
  | some (nbits, _) => nbits / 8
  | none => 0

/-- The bytes of an encoded instruction as memory holds them (R2, R89). -/
def encodeBytes (i : Instr) : List Byte :=
  match encode i with
  | some (nbits, w) => leBytes (nbits / 8) w
  | none => []

end Sys2Proof
end

