-- ==== Sys2Proof/Machine/State.lean ====
section
/-!
DEFINITION. The state of the device as plain data: the wave that issues and every other wave, blocks and spans,
cores, memory, partitions, and the device around them. Every register has one home. The functions that read and
write this data stand in the other files of this folder.
-/

namespace Sys2Proof.Machine

/-! ### The wave -/

/-- User level, or supervisor level between a trap's delivery and its ERET (R288). -/
inductive Level where
  | user | supervisor
  deriving DecidableEq, Repr

/-- The kinds of reconvergence token (R62). -/
inductive TokenKind where
  | ifThen | ifElse | loop
  deriving DecidableEq, Repr

/-- A reconvergence token (R62). -/
structure Token where
  kind  : TokenKind
  saved : Word64
  brkm  : Word64
  contm : Word64
  deriving DecidableEq, Repr

/-- A translation register (R151): BASE, LIMIT, the page's PA base and size, and the two words of its leaf. -/
structure TReg where
  base  : Word64
  limit : Nat
  frame : Nat
  size  : Nat
  attr0 : Word64
  attr1 : Word64
  deriving DecidableEq, Repr

/-- A register that the scoreboard follows (R72, R73). `v 56` to `v 63` are e0 to e7; `z` is the slot whose ACCOWN waits for a
result (R262), and `tile` its tile, which a K-step of the wave has to round (R181). -/
inductive RegId where
  | s (r : Nat) | v (r : Nat) | m (r : Nat) | a (r : Nat) | z (slot : Nat) | tile (slot : Nat) | csr (n : Nat)
  deriving DecidableEq, Repr

/-- A result not yet readable: its register, the cycle at which it becomes so, what the register holds until then
(by lane; index 0 for a scalar or a mask), whether readers are held rather than served the old value (R72 to R74), and which of
the old value's elements are poisoned (R264; by lane, index 0 for another register). -/
structure Pend where
  reg         : RegId
  due         : Nat
  old         : Sparse 64
  interlocked : Bool
  bad         : Sparse 1
  deriving DecidableEq, Repr

/-- The position in a run and how many of its instructions are left (R69, R303). -/
structure RunState where
  pos  : Nat
  left : Nat
  deriving DecidableEq, Repr

/-- The three barriers (R77). -/
inductive BarrierKind where
  | block | span | grid
  deriving DecidableEq, Repr

/-- What a wave waits for (R85). The waits `retry…` execute their instruction again when their condition holds:
`retryReflected true` waits until the wave's reflected stores have left the combining buffer, `false` until they and its
requests and records are performed at their receivers (R174, R299). `locking` names the lock's word and the VA by which the
wave asked for it (R314). -/
inductive Wait where
  | running
  | sleeping (until_ : Nat)
  | barrier (k : BarrierKind) (arrival : Nat)
  | sending (channel : Nat) (packet : List Word32) (arrival : Nat)
  | receiving (channel dest : Nat) (mask : Word64) (arrival : Nat)
  | locking (pa va : Nat)
  | notification (queue sreg arrival : Nat)
  | retryToken (token : Word64) (promise : Option Nat)
  | retryOwner (slot : Nat)
  | retryTile (slot : Nat)
  | posting (queue fn token : Nat) (desc : List Byte) (succ : Option Word64) (arrival : Nat)
  | retryReflected (leaving : Bool)
  | retryService
  | vacant
  deriving DecidableEq, Repr

/-- One lane of a memory instruction: its lane, its offset or address, and the value it stores. -/
structure LaneReq where
  lane : Nat
  off  : Nat
  data : Word32
  deriving DecidableEq, Repr

/-- One lane of XFER or XFERX: amount, source and destination designators, and which of the three were poisoned when it
read them (R207, R210). -/
structure XferLane where
  lane      : Nat
  amount    : Word32
  source    : Word32
  dest      : Word32
  badAmount : Bool
  badSource : Bool
  badDest   : Bool
  deriving DecidableEq, Repr

/-- One lane of RATOM or RST with its peer value (R235). -/
structure PeerLane where
  lane : Nat
  peer : Word64
  off  : Nat
  data : Word32
  deriving DecidableEq, Repr

/-- A memory instruction with every source value read: what the operand log keeps, and what a replay performs
(R156). Widths are in bytes. `frame` is ERET's reading of its frame (R304). -/
inductive MemReq where
  | vload (dest width : Nat) (t : TReg) (lanes : List LaneReq)
  | vloadE (dest : Nat) (t : TReg) (lanes : List LaneReq)
  | vstore (width : Nat) (t : TReg) (lanes : List LaneReq)
  | vstoreE (t : TReg) (lanes : List LaneReq)
  | atom (dest aop : Nat) (t : TReg) (lanes : List LaneReq)
  | red (aop : Nat) (t : TReg) (lanes : List LaneReq)
  | sload (dest : Nat) (va : Word64)
  | sstore (va data : Word64)
  | qlock (va : Word64)
  | qunlock (va : Word64)
  | mxldz (slot : Nat) (va : Word64)
  | mxstz (slot : Nat) (va : Word64)
  | post (fn token : Nat) (desc : Word64) (succ : Option Word64)
  | seal (va : Word64)
  | xfer (cross : Bool) (t : TReg) (lanes : List XferLane)
  | remote (atomic : Bool) (rop : Nat) (lanes : List PeerLane)
  | frame (va : Word64)
  deriving DecidableEq, Repr

/-- A wave's registers, masks, run, scoreboard and poison as they stood before an instruction issued (R132, R156,
R271). -/
structure Checkpoint where
  pc        : Word64
  run       : Option RunState
  s         : Sparse 64
  v         : Sparse 32
  m         : Sparse 64
  active    : Word64
  retired   : Word64
  stack     : List Token
  a         : Tab TReg
  satf      : Word64
  satctl    : Word64
  sig       : Word64
  sigctl    : Word64
  sbchk     : Word64
  trapvec   : Word64
  trapframe : Word64
  xdom      : Word64
  pend      : List Pend
  poisonV   : Sparse 1
  poisonS   : Sparse 1
  poisonM   : Sparse 1
  poisonA   : Sparse 1
  poisonC   : Sparse 1
  deriving DecidableEq, Repr

/-- The instruction a wave has in page-fault service (R156): what it asks for, the instruction, its effective mask,
the registers it writes, the log's source values as a PAGE_FAULT frame shows them (R336), the state before it issued,
the number of its PAGE_REQUEST, the first faulting lane, VA and cause, the CYC of its issue, and whether its fault was
declined while the wave was out. -/
structure Service where
  req     : MemReq
  instr   : Instr
  mask    : Word64
  writes  : List RegId
  sources : List Word64
  before  : Checkpoint
  fault   : Nat
  lane    : Nat
  va      : Word64
  cause   : Nat
  issued  : Nat
  declined : Bool
  deriving DecidableEq, Repr

/-- A trap: its code (R335), the lanes and the VA concerned (R336), whether ERET continues after the instruction
(R303), its detail in doublewords from frame byte 128 (R336), and the instruction's word and length in bytes (R303). -/
structure Trap where
  code   : Nat
  lanes  : Word64
  va     : Word64
  next   : Bool
  detail : List Word64
  word   : Nat
  length : Nat
  deriving DecidableEq, Repr

/-- A refused transfer record that the wave has not yet been told of (R217). -/
structure RefusedXfer where
  source : Nat
  dest   : Nat
  link   : Nat
  amount : Int
  reason : Nat
  deriving DecidableEq, Repr

/-- One group of a RATOM (R235, R236): its device, its lanes, the status of its reply once it has come, and how many
RATOMs the wave had issued when it came (R237). -/
structure RatomGroup where
  group  : Nat
  device : Nat
  lanes  : Word64
  status : Option Nat
  heard  : Nat
  deriving DecidableEq, Repr

/-- A fused sequence in progress (R132, R133): how many of its instructions are left, the first one's word, and the
state before it. -/
structure FusePoint where
  left   : Nat
  word   : Nat
  before : Checkpoint
  deriving DecidableEq, Repr

/-- A wave (R54, R62, R86): its identity and placement, its registers and CSRs, its mask stack, its run and scoreboard, what it waits
for, and since which CYC. `halting` is the CYC since which it is to halt for a save, and `full` whether a full save is due (R87, R88).
`performed` is the cycle by which the accesses that it has issued are performed as R73 times them. `inWait` is whether its next
instruction is a CPWAIT or WAITK that has made its checks and waits (R160, R373), and `issued` whether its next instruction has issued
and waits to act (R68, R85). `id` counts placements, so a smaller `id` is an older wave (R68). -/
structure Wave where
  id        : Nat
  span      : SpanId
  block     : Nat
  index     : Nat
  core      : Nat
  quad      : Nat
  place     : Nat
  regs      : Nat
  resident  : Bool
  full      : Bool
  halting   : Option Nat
  wait      : Wait
  pc        : Word64
  level     : Level
  s         : Sparse 64
  v         : Sparse 32
  m         : Sparse 64
  active    : Word64
  retired   : Word64
  stack     : List Token
  a         : Tab TReg
  satf      : Word64
  satctl    : Word64
  sig       : Word64
  sigctl    : Word64
  sbchk     : Word64
  trapvec   : Word64
  trapframe : Word64
  xdom      : Word64
  wid       : Word64
  widfmt    : Word64
  run       : Option RunState
  pend      : List Pend
  now       : Nat
  readyAt   : Nat
  performed : Nat
  service   : Option Service
  trap      : Option Trap
  refused   : List RefusedXfer
  ratoms    : Nat
  tokens    : Tab (List RatomGroup)
  poisonV   : Sparse 1
  poisonS   : Sparse 1
  poisonM   : Sparse 1
  poisonA   : Sparse 1
  poisonC   : Sparse 1
  fuse      : Option FusePoint
  yielded   : Bool
  inWait    : Bool
  issued    : Bool
  since     : Nat
  deriving DecidableEq, Repr

/-! ### Blocks and spans -/

/-- The status record of a completed command (R190); `va` is the first failing VA where the manual gives one. -/
structure DoneRec where
  queue  : Nat
  seq    : Nat
  status : Nat
  count  : Nat
  va     : Option Nat
  deriving DecidableEq, Repr

/-- A block (R54): its core, register base, quads by wave and scratchpad base (R253), its scratchpad, what it has emitted,
the records its lanes were launched for, the core that holds its accumulators (R84, R142, R263), and the status records
saved with it, by the core whose queues issued their tokens (R190, R257). -/
structure Block where
  span     : SpanId
  index    : Nat
  core     : Nat
  rbase    : Nat
  quads    : List Nat
  sbase    : Nat
  size     : Nat
  scratch  : Sparse 8
  poison   : Sparse 1
  emitted  : Nat
  records  : Option (List (List Byte))
  accHome  : Option Nat
  kept     : List (Nat × List DoneRec)
  ended    : Bool
  deriving DecidableEq, Repr

/-- Where a span stands between its first placement and its SPAN_DONE: `killed` is killed and may be launched again,
`again` waits for its new bind records, and `closed` was killed with its context (R87, R250, R273, R275). -/
inductive SpanPhase where
  | live | saved | killed | again | ended | closed
  deriving DecidableEq, Repr

/-- The frame a kill leaves for SPAN_DONE (R273, R336): trap code, PC, lane mask, address and detail. -/
structure KillFrame where
  code   : Nat
  pc     : Nat
  lanes  : Nat
  addr   : Nat
  detail : List Nat
  deriving DecidableEq, Repr

/-- A span (R54): its channels (R80), whether it may be relaunched (R274), how often it was, and the frame of its
kill; the placement numbers of its waves; the records of its blocks, and the blocks whose share of them has been returned
(R84). -/
structure Span where
  id         : SpanId
  phase      : SpanPhase
  channels   : Tab (List (List Word32))
  replayable : Bool
  relaunched : Nat
  frame      : Option KillFrame
  badCores   : List Nat
  refused    : List RefusedXfer
  members    : List Nat
  records    : List (Nat × List (List Byte))
  returned   : List Nat
  deriving DecidableEq, Repr

/-! ### The core's engines -/

/-- The kind of a slot's checksum state (R184). -/
inductive CheckKind where
  | none | float | integer | mixed
  deriving DecidableEq, Repr

/-- The hidden checksum state of an accumulator slot (R184): predicted sums, bounds and the K count. -/
structure Check where
  rows  : Sparse 32
  cols  : Sparse 32
  rowsB : Sparse 32
  colsB : Sparse 32
  k     : Nat
  kind  : CheckKind
  deriving DecidableEq, Repr

/-- How far an engine command has come (R169, R190). -/
inductive CmdPhase where
  | waiting | running | finished (status count : Nat) (va : Option Nat)
  deriving DecidableEq, Repr

/-- A command in an engine queue (R188 to R197): its function, the descriptor read at posting, the block it belongs
to, HOLD, the token it has claimed, whether it has been claimed, whether its own successor could not be claimed, the
fences it stands behind, and how far it has come. `posted` is the CYC of its acceptance. `step` counts what it has
performed: the K-steps of an MXLOOP, the elements of a copy or BLOAD, the packets of an NWRI. `started` counts the K-steps
of an MXLOOP that have started; `buffer` holds the bytes of an unfinished metadata entry; `stall` is the
open page request that it waits for, with its VA (R190); `flow` is the flow of an NWRI and the PSN of its last packet. -/
structure Cmd where
  seq      : Nat
  fn       : Nat
  desc     : List Byte
  span     : SpanId
  block    : Nat
  held     : Bool
  succ     : Option Word64
  claimed  : Bool
  chain    : Bool
  behind   : List Nat
  phase    : CmdPhase
  step     : Nat
  started  : Nat
  posted   : Nat
  buffer   : List Byte
  stall    : Option (Nat × Nat)
  flow     : Option (Nat × Nat)
  deriving DecidableEq, Repr

/-- A QFENCE that has not completed (R197): its SEQ, the block it belongs to, the queues it holds, the commands and
fences it waits for, the token it has claimed, and whether its own successor could not be claimed. -/
structure Fence where
  seq    : Nat
  span   : SpanId
  block  : Nat
  mask   : Nat
  waits  : List (Nat × Nat)
  succ   : Option Word64
  chain  : Bool
  deriving DecidableEq, Repr

/-- What a K-step works on (R180, R181): the wave that issued it or for which it runs, its span, the accumulator slot, the
pairing, the first register of the wave's fragment, the rows of A as positions and codes, and its lines of B with the tag, bytes
and scales of each slice; and whether an MXZERO or MXLDZ of the wave has taken the tile's place since, so that nothing of the step
stays (R181, R262). -/
structure StepInput where
  wave  : Nat
  span  : SpanId
  slot  : Nat
  fmt   : Nat
  first : Nat
  rows  : List (List (Nat × Nat))
  lines : List (Nat × List (Nat × List Byte × List Byte))
  gone  : Bool
  deriving DecidableEq, Repr

/-- A K-step that has started and not yet rounded (R181): whether it is an MXLOOP's, and the CYC of its start. -/
structure Flight where
  loop  : Bool
  start : Nat
  input : StepInput
  deriving DecidableEq, Repr

/-- A core's engines and stores (R177 to R190). `steps` are the K-steps of waves that wait for the matrix engine, in issue
order, `flight` those that have started, oldest first, `lastLoop` whether the last one to start was an MXLOOP's, and `stepAt`
the CYC from which the next may start (R181). Tile bytes are indexed by (line x 32 + slice) x 64 + byte, scales by
(line x 32 + slice) x 2 + half, tags by line x 32 + slice, accumulator words by slot x 1024 + 32 i + j; the poison of ACCOWN by
slot (R264). -/
structure Core where
  tile     : Sparse 8
  scales   : Sparse 8
  tags     : Sparse 4
  acc      : Sparse 32
  accown   : Sparse 64
  checks   : Tab Check
  queues   : Tab (List Cmd)
  fences   : List Fence
  nextSeq  : Tab Nat
  done     : List DoneRec
  mdq      : Tab (List (List Byte))
  steps    : List StepInput
  flight   : List Flight
  lastLoop : Bool
  stepAt   : Nat
  poisonT  : Sparse 1
  poisonZ  : Sparse 1
  poisonO  : Sparse 1
  deriving DecidableEq, Repr

/-! ### Memory -/

/-- The byte memory of the device by physical address (R140), in canonical form: an unlisted address reads as zero
(R33). -/
abbrev Memory := List Host.Cell

/-- A line that the bank array holds (R143, R144, R377): the key id under which it was filled, its bank, and whether it holds
a write that is not yet in HBM. -/
structure ArrayLine where
  key     : Nat
  bank    : Nat
  written : Bool
  deriving DecidableEq, Repr

/-- The canonical form of a sparse array: strictly rising indexes, all above `lo`, and no zero entry. -/
def sparseWfFrom {w : Nat} : Nat → Sparse w → Bool
  | _, [] => true
  | lo, (k, x) :: rest => decide (lo ≤ k) && x != 0 && sparseWfFrom (k + 1) rest

/-- The canonical form of memory: addresses strictly rising, no entry equal to what an unlisted address reads as. -/
def Memory.wf (m : Memory) : Bool := sparseWfFrom 0 m

/-- A queue lock (R312 to R314), by the PA of its word and the key of its page: the holder's wave, partition and context, and the
waiters in order of arrival. In `lockQ` the holder is the wave that waits for an entry of its unit (R314). -/
structure Lock where
  pa      : Nat
  key     : Nat
  va      : Nat
  holder  : Nat
  part    : Nat
  ctx     : Nat
  waiters : List Nat
  deriving DecidableEq, Repr

/-! ### Partitions -/

/-- A link of a conserved domain (R201, R203). -/
structure Link where
  valid    : Bool
  peer     : Nat
  peerDom  : Nat
  sent     : Int
  acked    : Int
  refunded : Int
  applied  : Int
  deriving DecidableEq, Repr

/-- A leaf entry that a walk has found: the page's physical base and size, and the entry's two words (R146, R147). -/
structure Leaf where
  frame : Nat
  size  : Nat
  attr0 : Nat
  attr1 : Nat
  deriving DecidableEq, Repr

/-- A SEALED conserved domain (R201). `ctx` is the context that sealed it, and `homes` the leaf of each 32 KiB of virtual
addresses at which the seal found its cells. `lost` are the cells that an uncorrectable error has taken: POISONED is their
number (R220, R283). -/
structure Domain where
  ctx      : Nat
  base     : Nat
  ncell    : Nat
  interior : Int
  bal      : List Int
  residue  : Int
  links    : List Link
  homes    : List (Nat × Leaf)
  lost     : List Nat
  deriving DecidableEq, Repr

/-- A launch header as read (R252), with the node descriptor and argument block retained (R252). -/
structure Launch where
  regs      : Nat
  waves     : Nat
  blocks    : Nat
  gbar      : Bool
  nonreplay : Bool
  graph     : Bool
  prio      : Nat
  scratch   : Nat
  widths    : List Nat
  grid      : List Nat
  entry     : Word64
  args      : Word64
  coalesce  : Nat
  flush     : Nat
  succ      : List Nat
  emitMax   : Nat
  node      : Option Nat
  argBytes  : List Byte
  finished  : Nat
  deriving DecidableEq, Repr

/-- A declared graph node (R84, R252): its launch record, its input queue and the CYC since which its flush timeout runs,
the number of its next block, and the blocks launched and not yet placed, by number. -/
structure Node where
  launch : Nat
  since  : Nat
  queue  : List (List Byte)
  batch  : Nat
  ready  : List (Nat × List (List Byte))
  deriving DecidableEq, Repr

/-- Why a context leaves its cores: the end of a slice, PAUSE or CTX_CLOSE (R257). -/
inductive Leaving where
  | slice | pause | close
  deriving DecidableEq, Repr

/-- What a held command waits for (R230, R252, R257, R260): the answer to a fault, the save of its context, the end of
its context, the emptying of a path, that of the RSTs by a remote-access entry, the end of a scrub, or only for the commands before it. -/
inductive Await where
  | fault | save | close | path (key : PathKey) | entry (n : Nat) | scrub | turn
  deriving DecidableEq, Repr

/-- A command that has been accepted and has not completed: whether its completion is discarded (R31), what it waits
for, and its outcome once it has taken effect or its fault has been declined. -/
structure HeldCmd where
  mute     : Bool
  cmd      : VfCmd
  await    : Await
  result   : Option (Nat × List Nat)
  deriving DecidableEq, Repr

/-- An open context (R250, R256, R258): page-table root, save area, weight, GTIME mode and offset, whether it is
paused and the GTIME then, its raised priority and the CYC from which its next rise counts, the CYC since which it holds its
placement, why it is leaving its cores and, while it ends, how many spans were killed, its launch records and graph nodes, and the
commands that have not completed, oldest first (R249, R252). -/
structure Ctx where
  root     : Nat
  save     : Nat
  weight   : Nat
  wall     : Bool
  off      : Int
  paused   : Option (Nat × Nat)
  raised   : Nat
  agedAt   : Nat
  placedAt : Nat
  leaving  : Option Leaving
  closing  : Option Nat
  launches : Tab Launch
  nodes    : Tab Node
  waiting  : List HeldCmd
  deriving DecidableEq, Repr

/-- A record on queue 1 (R249): completion or event, its code, context, TAG, CYC and detail; and, for a completion, the port of its
command (R31). -/
structure Record where
  event  : Bool
  code   : Nat
  ctx    : Nat
  tag    : Nat
  cyc    : Nat
  detail : List Nat
  port   : Nat
  deriving DecidableEq, Repr

/-- An open page fault (R156, R251): its number, who waits for it, and when it was raised. -/
inductive FaultOwner where
  | wave (id : Nat)
  | command (ctx : Nat)
  | engine (core queue : Nat)
  | path (key : PathKey)
  | flow (n : Nat)
  deriving DecidableEq, Repr

/-- An open PAGE_REQUEST (R251). -/
structure OpenFault where
  id     : Nat
  owner  : FaultOwner
  raised : Nat
  deriving DecidableEq, Repr

/-- A monitor (R284, R285): its configuration, the twelve counts or the sixteen bins, and the stamps. -/
structure MonitorState where
  fields  : MonitorFields
  counts  : Tab Nat
  first   : Nat
  last    : Nat
  changed : Bool
  deriving DecidableEq, Repr

/-- A packet that has been sent and not acknowledged, with the CYC of its first and of its latest sending, and the link on
which it left, if there was one (R224, R227, R241). Links 0 to 15 are the direct links by seat, 16 to 31 the uplinks, 32 is the
device itself, and 40 to 47 are the Ethernet ports. -/
structure Sent (α : Type) where
  first  : Nat
  last   : Nat
  via    : Option Nat
  packet : α
  deriving DecidableEq, Repr

/-- An acknowledgement of the network transport (R239, R241, R242): its headers, the next expected PSN, the bitmap of those received
beyond it, and the status of the message it ends, 0 where no payload of it was refused. -/
structure NetAck where
  head   : NetAckHead
  next   : BitVec 16
  held   : BitVec 128
  status : Nat
  deriving DecidableEq, Repr

/-- A flow of the network transport (R240, R241): its fields and its timeout, what it has sent and not had acknowledged, the PSN
it expects, the PSNs it has received beyond that, how many packets it has received since it last acknowledged and the CYC of
that, the acknowledgements it has sent, the kind-1 packets that wait for their payload, the CYC at which it last heard from its peer, the
PSNs whose payload it refused with the status of each, the status of the first refused payload of the message that it is
receiving, or 0, that of the message it received last, and the open fault that holds it with the PSN of its packet (R232,
R242). -/
structure Flow where
  fields   : FlowFields
  timeout  : Nat
  unacked  : List (Sent NetPacket)
  expected : BitVec 16
  beyond   : List (BitVec 16)
  sinceAck : Nat
  ackedAt  : Nat
  acks     : List NetAck
  holding  : List NetPacket
  heard    : Nat
  bad      : List (BitVec 16 × Nat)
  spoiled  : Nat
  ended    : Nat
  fault    : Option (Nat × BitVec 16)
  deriving DecidableEq, Repr

/-- A scrub (R259, R260): its reason (R282), its place in the order of scrubs, whether it has started and when, the TAG
and port of the admin command that waits for it, with whether its completion is discarded (R31), and what it covers. -/
structure Scrub where
  reason  : Nat
  order   : Nat
  running : Bool
  start   : Nat
  tag     : Nat
  port    : Nat
  admin   : Bool
  mute    : Bool
  cbase   : Nat
  climit  : Nat
  cset    : BitVec 32
  owner   : Nat
  deriving DecidableEq, Repr

/-- A virtqueue as the driver configured it (R246). -/
structure VirtQueue where
  size    : Nat
  vector  : Nat
  enabled : Bool
  desc    : Nat
  driver  : Nat
  device  : Nat
  deriving DecidableEq, Repr

/-- An MSI-X table by 32-bit words, four to a vector, and its pending bits (R17, R247). A vector's fourth word is kept with its
mask bit inverted, since it starts masked (log 81). -/
structure Msix where
  entries : Sparse 32
  pending : Sparse 1
  deriving DecidableEq, Repr

/-- What a driver has written to a VF's virtio common configuration (R246), the port it is reached through, the ISR status byte
and the MSI-X table (R247). -/
structure Virtio where
  port      : Nat
  status    : Nat
  features  : Word64
  devSel    : Nat
  drvSel    : Nat
  queueSel  : Nat
  vectorCfg : Nat
  queues    : Tab VirtQueue
  isr       : BitVec 8
  msix      : Msix
  deriving DecidableEq, Repr

/-- A partition (R244 and the tables that belong to one). `late` is how many records of the ring wait for an unreserved
place (R248), `flr` the contexts that a Function Level Reset is still closing (R259), and `turns` the context that each priority
level's round robin placed last (R256). `gathered` are bind records that have left the ring and wait for the rest of
their grid (R79). -/
structure Partition where
  owner     : Option Nat
  cbase     : Nat
  climit    : Nat
  cset      : BitVec 32
  grants    : List Nat
  quota     : Nat
  charged   : Nat
  ctxs      : Tab Ctx
  slots     : Tab BindWords
  slotHead  : Nat
  slotTail  : Nat
  gathered  : List BindWords
  txwin     : Tab EntryWords
  rat       : Tab EntryWords
  domains   : Tab Domain
  codebooks : Sparse 8
  flows     : Tab Flow
  notif     : Tab (List (Word32 × Nat))
  queue0    : List VfCmd
  buffers   : Nat
  delivered : List Record
  held      : List Record
  ring      : List Record
  late      : Nat
  declined  : Nat
  unlogged  : Nat
  faults    : List OpenFault
  monitors  : Tab MonitorState
  log       : List (List Byte)
  logSeq    : Nat
  chain     : List Byte
  scrubs    : List Scrub
  flr       : List Nat
  turns     : Tab Nat
  virtio    : Virtio
  combining : List (PathKey × Payload)
  deriving DecidableEq, Repr

/-! ### The device around -/

/-- The states of an island (R12). -/
inductive IslandState where
  | active | idle | off
  deriving DecidableEq, Repr

/-- An island: its state, its operating point (R376), the CYC at which the limiter last gated its clock, for 1 us (R15), and
whether it is being brought to ACTIVE (R13). -/
structure Island where
  state   : IslandState
  point   : Nat
  gatedAt : Option Nat
  waking  : Bool
  deriving DecidableEq, Repr

/-- An error bank (R265 to R267). -/
structure Bank where
  valid : Bool
  uc    : Bool
  ovf   : Bool
  kind  : Nat
  uecnt : Nat
  cecnt : Nat
  addr  : Nat
  loc   : ErrLoc
  cyc   : Nat
  lanes : Word64
  deriving DecidableEq, Repr

/-- A path on the sending side (R226 to R228): the next sequence number and the packets not yet acknowledged. -/
structure OutPath where
  key     : PathKey
  next    : BitVec 32
  unacked : List (Sent Packet)
  deriving DecidableEq, Repr

/-- A path on the receiving side: the next expected number, the packets held beyond a gap, those in order and not
yet performed, and the open fault that holds the path (R226, R227, R233). -/
structure InPath where
  key      : PathKey
  expected : BitVec 32
  held     : List Packet
  ready    : List Packet
  fault    : Option Nat
  deriving DecidableEq, Repr

/-- A direct link as this device receives on it (R225): how many flits have failed their CRC one after another, the CYC of the
latest flit, and, for a link declared down, the CYC since which flits have come without fail. -/
structure LinkState where
  fails : Nat
  flit  : Nat
  since : Option Nat
  deriving DecidableEq, Repr

/-- An acknowledgement of a path as it leaves this device (R227, R233): the link, if there is one, the device it is for, the path, the
next expected number and the bitmap, and the report of discarded stores: the destination VA of the first, the source VA of its image,
and the count. -/
structure PathAck where
  via  : Option Nat
  dest : Nat
  path : PathKey
  next : BitVec 32
  held : Word64
  lost : Option (Nat × Nat × Nat)
  deriving DecidableEq, Repr

/-- The scale-up fabric (R223 to R228). `links` are the direct links by seat, `relayed` the packets that this device's crossbar
has forwarded for others, by link, with their destination, and `acks` the acknowledgements it has sent or forwarded. -/
structure Fabric where
  number  : Option Nat
  members : List Nat
  down    : List Nat
  upDown  : List Nat
  links   : Tab LinkState
  outs    : List OutPath
  ins     : List InPath
  relayed : List (Nat × Nat × Packet)
  acks    : List PathAck
  deriving DecidableEq, Repr

/-- The boot ROM (R25 to R30): BOOTSTAT's fields, the block size of the transfer, 0 before one is negotiated, the image received
so far, the payload in management SRAM, the fuses it
checks against, and whether it has halted, waits its 30 s, or runs after a warm reset. -/
structure Boot where
  stage    : Nat
  port     : Nat
  err      : Nat
  attempt  : Nat
  blksize  : Nat
  image    : List Byte
  sramCopy : List Byte
  mlHash   : List Byte
  ecHash   : List Byte
  rollback : Nat
  serial   : Nat
  halted   : Bool
  waiting  : Bool
  warm     : Bool
  deriving DecidableEq, Repr

/-- The host ports and the management complex's registers (R17 to R24). Semaphores hold their register value;
`order` is a semaphore's rotating priority (R22). `portUp` is whether a port's link is up. `readData` holds what each
requester's last read returned: 0 and 1 the ports, 2 the management complex. `msix` counts the raisings of the physical
function's vector 0, and `tables` are the MSI-X tables of the ports' physical functions (R17, R269). -/
structure HostRegs where
  sem      : Sparse 32
  order    : Tab (List Requester)
  semerr   : BitVec 32
  portUp   : List Bool
  readData : Tab (BitVec 32)
  msix     : Nat
  tables   : Tab Msix
  failed   : Bool
  deriving DecidableEq, Repr

/-- The power limiter (R15): the samples of the last 100 us, whether their average exceeds the cap, and the island whose turn to be
gated is next; and by die the CYC at which the management complex last lowered its islands for heat (R16). -/
structure Power where
  samples : List Nat
  above   : Bool
  turn    : Nat
  hot     : Tab Nat
  deriving DecidableEq, Repr

/-- An error that has been recorded, as the retirement policy weighs it (R277): its KIND and UNIT, the core, the address, the bank of
the bank array in which a sector of it lay, and its CYC. -/
structure ErrorNote where
  kind : Nat
  unit : Nat
  core : Nat
  addr : Nat
  bank : Option Nat
  cyc  : Nat
  deriving DecidableEq, Repr

/-- A scrub receipt (R282): its SEQ, its offset in the receipt store, and its bytes, signatures included. -/
structure Receipt where
  seq    : Nat
  offset : Nat
  bytes : List Byte
  deriving DecidableEq, Repr

/-- A move of the device: an event or command that takes place, some ticks of CYC that pass, or an issue by one of
a quad's waves. -/
inductive Move where
  | event (i : Instr)
  | tick (n : Nat)
  | issue (quad : Nat)
  deriving DecidableEq, Repr

/-- The state of the device (R9, R54, R139, R244). `wave` is the wave whose instruction issues; `waves` are all the others, resident or
saved. `fused` holds the complement of each quad's LANEMAP (R59). `quads` holds the cycle at which each quad's issue slot is next free
(R68). `unanswered` counts each wave's XFERX records that have no answer yet (R218). `evidence` is what the retirement policy has seen
(R277). The fields from `agenda` to `arrivals` are the model's own. -/
structure State where
  wave     : Wave
  waves    : List Wave
  blocks   : List Block
  spans    : List Span
  cores    : Tab Core
  mem      : Memory
  lineKey  : Sparse 12
  array    : Tab ArrayLine
  poison   : Sparse 1
  marks    : Tab (Nat × Nat)
  locks    : List Lock
  lockQ    : List Lock
  keys     : Tab (List Byte)
  parts    : Tab Partition
  admin    : List (Nat × Record)
  adminQueue : List (Bool × Instr)
  adminBusy : Bool
  cyc      : Nat
  islands  : Tab Island
  power    : Power
  fused    : Sparse 16
  retCores : List Nat
  retRows  : List Nat
  retBanks : List Nat
  boot     : Boot
  host     : HostRegs
  banks    : Tab Bank
  evidence : List ErrorNote
  fabric   : Fabric
  receipts : List Receipt
  receiptN : Nat
  sram     : List Byte
  hostMem  : List (Nat × List Byte)
  fw       : Firmware
  quads    : Tab Nat
  agenda   : List Move
  pace     : Nat
  quadTurn : Nat
  fresh    : Nat
  placed   : Nat
  arrivals : Nat
  unanswered : Tab Nat
  deriving DecidableEq, Repr

/-! ### Why a step can stop -/

/-- The reasons a step stops with a fault. -/
inductive Fault where
  /-- A wave, an engine or a front end accesses a physical address from 2^51 up: a device register whose effect the
  manual does not give (R140). Raised by the access operations. Safe: the device goes on. -/
  | deviceRegister (pa : Nat)
  deriving DecidableEq, Repr

/-- The reasons an instruction is refused. -/
inductive Refusal where
  /-- The instruction has no meaning in this model. Raised by the dispatcher only. Safe. -/
  | notModelled (mnemonic : String)
  deriving DecidableEq, Repr

/-! ### Reset -/

/-- The issuing place with no wave in it, its registers as a wave's start gives them (R33, R58, R86). Values the
manual does not give are zero (log 1). -/
def Wave.vacant : Wave :=
  { id := 0, span := ⟨0, 0, 0, 0⟩, block := 0, index := 0, core := 0, quad := 0, place := 0, regs := 56,
    resident := false, full := false, halting := none, wait := .vacant, pc := 0, level := .user,
    s := [], v := [], m := [], active := BitVec.allOnes 64, retired := 0, stack := [], a := [],
    satf := 0, satctl := 0, sig := 0, sigctl := 0, sbchk := 0, trapvec := 0, trapframe := 0, xdom := 0,
    wid := 0, widfmt := 6, run := none, pend := [], now := 0, readyAt := 0, performed := 0, service := none, trap := none,
    refused := [], ratoms := 0, tokens := [], poisonV := [], poisonS := [], poisonM := [], poisonA := [],
    poisonC := [], fuse := none, yielded := false, inWait := false, issued := false, since := 0 }

/-- The state when BOOTSTAT.STAGE reaches 0x08 after a cold reset (R33): memory reads as zero, no partition has an
owner, every island is IDLE, every semaphore is free and no wave is resident. -/
def State.reset : State :=
  { wave := Wave.vacant, waves := [], blocks := [], spans := [], cores := [], mem := [], lineKey := [], array := [],
    poison := [], marks := [], locks := [], lockQ := [], keys := [], parts := [], admin := [], adminQueue := [], adminBusy := false, cyc := 0,
    islands := [], power := ⟨[], false, 0, []⟩, fused := [], retCores := [], retRows := [],
    retBanks := [],
    boot := ⟨8, 0, 0, 0, 0, [], [], [], [], 0, 0, false, false, false⟩,
    host := ⟨[], [], 0, [true, true], [], 0, [], false⟩, banks := [], evidence := [],
    fabric := ⟨none, [], [], [], [], [], [], [], []⟩, receipts := [], receiptN := 0, sram := [], hostMem := [],
    fw := ⟨2000000, 50000, 10000000, 2, 50000, 3000000⟩, quads := [], agenda := [], pace := 1, quadTurn := 0, fresh := 0, placed := 0,
    arrivals := 0, unanswered := [] }

end Sys2Proof.Machine
end

