-- ==== Sys2Proof/Machine/Store.lean ====
section
/-!
DEFINITION. Reading and writing the two plain-data containers of State: sparse arrays of words, in canonical form,
and finite maps by number; and little-endian words made of bytes (R2).
-/

namespace Sys2Proof.Machine

/-- The entry of a sparse array at an index; an unlisted index reads as zero. -/
def sget {w : Nat} : Sparse w → Nat → BitVec w
  | [], _ => 0
  | (k, x) :: rest, i => if k = i then x else sget rest i

/-- Drop an index from a sparse array. -/
def serase {w : Nat} (m : Sparse w) (i : Nat) : Sparse w := m.filter (fun e => e.1 != i)

/-- Put an entry at an index, keeping the indexes rising. -/
def sput {w : Nat} : Sparse w → Nat → BitVec w → Sparse w
  | [], i, x => [(i, x)]
  | (k, y) :: rest, i, x =>
    if i < k then (i, x) :: (k, y) :: rest
    else if i = k then (i, x) :: rest
    else (k, y) :: sput rest i x

/-- Write an entry: zero removes it, so equal arrays are equal data. -/
def sset {w : Nat} (m : Sparse w) (i : Nat) (x : BitVec w) : Sparse w :=
  if x = 0 then serase m i else sput m i x

/-- Write the entries from `base` up, one for each word of a list. -/
def ssetFrom {w : Nat} (m : Sparse w) (base : Nat) : List (BitVec w) → Sparse w
  | [] => m
  | x :: xs => ssetFrom (sset m base x) (base + 1) xs

/-- Read `n` entries from `base` up. -/
def sgetFrom {w : Nat} (m : Sparse w) (base : Nat) : Nat → List (BitVec w)
  | 0 => []
  | n + 1 => sget m base :: sgetFrom m (base + 1) n

/-- Zero the entries from `lo` up to but not at `hi`. -/
def sclear {w : Nat} (m : Sparse w) (lo hi : Nat) : Sparse w :=
  m.filter (fun e => decide (e.1 < lo) || decide (hi ≤ e.1))

/-- Write one entry for each index of a list, its word given by the index. -/
def ssetAll {w : Nat} (m : Sparse w) (f : Nat → BitVec w) : List Nat → Sparse w
  | [] => m
  | i :: is => ssetAll (sset m i (f i)) f is

/-- The value of a finite map at a key. -/
def tget {α : Type} : Tab α → Nat → Option α
  | [], _ => none
  | (k, x) :: rest, i => if k = i then some x else tget rest i

/-- Remove a key. -/
def terase {α : Type} (m : Tab α) (i : Nat) : Tab α := m.filter (fun e => e.1 != i)

/-- Set the value at a key, keeping the keys rising. -/
def tset {α : Type} : Tab α → Nat → α → Tab α
  | [], i, x => [(i, x)]
  | (k, y) :: rest, i, x =>
    if i < k then (i, x) :: (k, y) :: rest
    else if i = k then (i, x) :: rest
    else (k, y) :: tset rest i x

/-- The value at a key, or a default. -/
def tgetD {α : Type} (m : Tab α) (i : Nat) (d : α) : α := (tget m i).getD d

/-- Change the value at a key, if the key is present. -/
def tmod {α : Type} (m : Tab α) (i : Nat) (f : α → α) : Tab α :=
  match tget m i with
  | some x => tset m i (f x)
  | none => m

/-- Change the first element that a test accepts. -/
def modFirst {α : Type} (p : α → Bool) (f : α → α) : List α → List α
  | [] => []
  | x :: xs => if p x then f x :: xs else x :: modFirst p f xs

/-- Remove the first element that a test accepts. -/
def dropFirst {α : Type} (p : α → Bool) : List α → List α
  | [] => []
  | x :: xs => if p x then xs else x :: dropFirst p xs

/-- The little-endian value of a list of bytes (R2). -/
def leValue : List Byte → Nat
  | [] => 0
  | b :: bs => b.toNat + 256 * leValue bs

/-- The `n` bytes of a value, least significant first (R2). -/
def leSplit : Nat → Nat → List Byte
  | 0, _ => []
  | n + 1, x => BitVec.ofNat 8 x :: leSplit n (x / 256)

/-- The natural number in `len` bits of `x` from bit `lo` up (R2). -/
def field (x lo len : Nat) : Nat := x / 2 ^ lo % 2 ^ len

/-- The bytes `at` to `at + n - 1` of a byte list as a little-endian value; bytes beyond the list read as zero. -/
def fieldBytes (bs : List Byte) (pos n : Nat) : Nat := leValue ((bs.drop pos).take n)

/-- The lanes of a mask, ascending (R61). -/
def lanesOf (m : Word64) : List Nat := (List.range laneCount).filter (fun l => m.getLsbD l)

/-- The mask that holds the lanes of a list. -/
def maskOf : List Nat → Word64
  | [] => 0
  | l :: ls => (1#64 <<< l) ||| maskOf ls

/-- The number of lanes of a mask. -/
def popcount (m : Word64) : Nat := (lanesOf m).length

end Sys2Proof.Machine
end

