-- ==== Sys2Proof/Machine/Fp.lean ====
section
/-!
DEFINITION. Number formats and arithmetic, exact and rounded once (R111 to R121, R125, R126, R131). A finite value
is a sign, a magnitude and a power of two; every operation computes with these exactly and rounds at its end.
-/

namespace Sys2Proof.Machine

/-! ### The sticky flags (R122) -/

/-- SATF.X: a result was rounded inexactly (R122). -/
abbrev flagX : Word64 := 1
/-- SATF.O: an FP32 result overflowed (R122). -/
abbrev flagO : Word64 := 2
/-- SATF.I: an invalid operation, or a NaN narrowed (R122). -/
abbrev flagI : Word64 := 4
/-- SATF.S: a result saturated, or an infinity was narrowed (R122). -/
abbrev flagS : Word64 := 8

/-- A flag if a condition holds. -/
def flagIf (c : Bool) (f : Word64) : Word64 := if c then f else 0

/-! ### Values and formats (R111) -/

/-- A floating-point datum: a NaN, an infinity, or (-1)^neg x mag x 2^exp. -/
inductive FVal where
  | nan
  | inf (neg : Bool)
  | fin (neg : Bool) (mag : Nat) (exp : Int)
  deriving DecidableEq, Repr

/-- A floating-point format (R111): exponent and fraction bits, bias, the code of the largest finite magnitude, the
code of infinity if it has one, and the canonical NaN (R112). -/
structure FFormat where
  eb      : Nat
  fb      : Nat
  bias    : Nat
  maxCode : Nat
  infCode : Option Nat
  nan     : Nat
  deriving DecidableEq, Repr

/-- FP32 (R111). -/
def f32 : FFormat := ⟨8, 23, 127, 0x7F7FFFFF, some 0x7F800000, 0x7FC00000⟩
/-- BF16 (R111). -/
def bf16 : FFormat := ⟨8, 7, 127, 0x7F7F, some 0x7F80, 0x7FC0⟩
/-- FP16 (R111). -/
def f16 : FFormat := ⟨5, 10, 15, 0x7BFF, some 0x7C00, 0x7E00⟩
/-- FP8E4M3, which has no infinity (R111). -/
def f8e4 : FFormat := ⟨4, 3, 7, 0x7E, none, 0x7F⟩
/-- FP8E5M2 (R111). -/
def f8e5 : FFormat := ⟨5, 2, 15, 0x7B, some 0x7C, 0x7E⟩

/-- The exponent of the last place of a format's subnormals (R111). -/
def FFormat.qmin (f : FFormat) : Int := 1 - (f.bias : Int) - f.fb

/-- The weight of a format's sign bit. -/
def FFormat.signBit (f : FFormat) : Nat := 2 ^ (f.eb + f.fb)

/-- The magnitude bits of a code: what lies below its sign. -/
def FFormat.body (f : FFormat) (x : Nat) : Nat := x % f.signBit

/-- Whether the sign bit of a code is set. -/
def FFormat.negative (f : FFormat) (x : Nat) : Bool := x / f.signBit % 2 == 1

/-- Whether a code is a NaN (R111). -/
def FFormat.isNan (f : FFormat) (x : Nat) : Bool :=
  match f.infCode with
  | some i => decide (i < f.body x)
  | none => decide (f.maxCode < f.body x)

/-- The datum of a code (R111). -/
def decodeF (f : FFormat) (x : Nat) : FVal :=
  let b := f.body x
  if f.isNan x then .nan
  else if f.infCode = some b then .inf (f.negative x)
  else
    let e := b / 2 ^ f.fb
    if e = 0 then .fin (f.negative x) b f.qmin
    else .fin (f.negative x) (b % 2 ^ f.fb + 2 ^ f.fb) (f.qmin + e - 1)

/-- The sign bit of a code. -/
def FFormat.sign (f : FFormat) (neg : Bool) : Nat := if neg then f.signBit else 0

/-! ### Rounding (R115) -/

/-- The rounding modes (R115). -/
inductive Rounding where
  | rne | rz | rp | rm
  deriving DecidableEq, Repr

/-- The mode of an RM field (R104). -/
def roundingOf (rm : BitVec 2) : Rounding :=
  match rm.toNat with
  | 1 => .rz
  | 2 => .rp
  | 3 => .rm
  | _ => .rne

/-- Whether a magnitude `n` with remainder `rem` of `2^shift` goes up in a mode (R114, R115). -/
def roundsUp (mode : Rounding) (neg : Bool) (n rem shift : Nat) : Bool :=
  match mode with
  | .rne => decide (2 ^ shift < 2 * rem) || (decide (2 ^ shift = 2 * rem) && n % 2 == 1)
  | .rz => false
  | .rp => !neg && rem != 0
  | .rm => neg && rem != 0

/-- A magnitude divided by 2^shift and rounded to an integer, and whether bits were lost. -/
def roundShift (mode : Rounding) (neg : Bool) (mag shift : Nat) : Nat × Bool :=
  let n := mag / 2 ^ shift
  let rem := mag % 2 ^ shift
  (if roundsUp mode neg n rem shift then n + 1 else n, rem != 0)

/-- A magnitude times 2^exp rounded to an integer, and whether bits were lost. -/
def roundInt (mode : Rounding) (neg : Bool) (mag : Nat) (exp : Int) : Nat × Bool :=
  if 0 ≤ exp then (mag * 2 ^ exp.toNat, false) else roundShift mode neg mag (-exp).toNat

/-- The magnitude code of a finite value rounded once to a format's precision, its exponent unbounded above, and
whether bits were lost (R115, R119). Codes count in steps of the last place, so a carry into the next binade needs no
case of its own. -/
def roundCode (f : FFormat) (mode : Rounding) (neg : Bool) (mag : Nat) (exp : Int) : Nat × Bool :=
  if mag = 0 then (0, false)
  else
    let q := max (exp + (Nat.log2 mag : Int) - f.fb) f.qmin
    let r := roundInt mode neg mag (exp - q)
    ((q - f.qmin).toNat * 2 ^ f.fb + r.1, r.2)

/-- The magnitude that an FP32 overflow gives in a mode: infinity or the largest finite value (R116). -/
def overflowCode (f : FFormat) (mode : Rounding) (neg : Bool) : Nat :=
  let toInf := match mode with
    | .rne => true
    | .rz => false
    | .rp => !neg
    | .rm => neg
  if toInf then f.infCode.getD f.maxCode else f.maxCode

/-- A finite value rounded to FP32, and its flags: overflow sets O and X, any other lost bit sets X (R116, R345). -/
def roundF (f : FFormat) (mode : Rounding) (neg : Bool) (mag : Nat) (exp : Int) : Nat × Word64 :=
  let r := roundCode f mode neg mag exp
  if f.maxCode < r.1 then (f.sign neg + overflowCode f mode neg, flagO ||| flagX)
  else (f.sign neg + r.1, flagIf r.2 flagX)

/-- A datum narrowed to a floating-point format: saturating, NaN and infinity as R119. -/
def narrowF (f : FFormat) (x : FVal) : Nat × Word64 :=
  match x with
  | .nan => (f.nan, flagI)
  | .inf neg => (f.sign neg + f.maxCode, flagS)
  | .fin neg mag exp =>
    let r := roundCode f .rne neg mag exp
    if f.maxCode < r.1 then (f.sign neg + f.maxCode, flagS ||| flagIf r.2 flagX)
    else (f.sign neg + r.1, flagIf r.2 flagX)

/-- A datum widened to FP32: exact, with the canonical NaN (R120). -/
def widenF (x : FVal) : Nat :=
  match x with
  | .nan => f32.nan
  | .inf neg => f32.sign neg + 0x7F800000
  | .fin neg mag exp => (roundF f32 .rne neg mag exp).1

/-! ### Exact sums and products -/

/-- The signed integer of a finite value in units of 2^q, for any q not above its exponent. -/
def scaled (neg : Bool) (mag : Nat) (exp q : Int) : Int :=
  let n : Int := mag * 2 ^ (exp - q).toNat
  if neg then -n else n

/-- The negation of a datum. -/
def FVal.negate : FVal → FVal
  | .nan => .nan
  | .inf n => .inf (!n)
  | .fin n m e => .fin (!n) m e

/-- The exact product; `none` is the invalid 0 x infinity (R116). -/
def mulF (a b : FVal) : Option FVal :=
  match a, b with
  | .nan, _ => some .nan
  | _, .nan => some .nan
  | .inf s, .inf t => some (.inf (s != t))
  | .inf s, .fin t m _ => if m = 0 then none else some (.inf (s != t))
  | .fin s m _, .inf t => if m = 0 then none else some (.inf (s != t))
  | .fin s m e, .fin t n g => some (.fin (s != t) (m * n) (e + g))

/-- The exact sum under a mode's rule for a zero of opposite signs; `none` is the invalid infinity minus infinity
(R116). -/
def addF (mode : Rounding) (a b : FVal) : Option FVal :=
  match a, b with
  | .nan, _ => some .nan
  | _, .nan => some .nan
  | .inf s, .inf t => if s = t then some (.inf s) else none
  | .inf s, .fin _ _ _ => some (.inf s)
  | .fin _ _ _, .inf t => some (.inf t)
  | .fin s m e, .fin t n g =>
    let q := min e g
    let x := scaled s m e q + scaled t n g q
    if x = 0 then
      if m = 0 ∧ n = 0 ∧ s = t then some (.fin s 0 q) else some (.fin (mode == .rm) 0 q)
    else some (.fin (decide (x < 0)) x.natAbs q)

/-- An FP32 result of an exact one: an invalid operation gives the canonical NaN and I (R112, R116). -/
def finishF (mode : Rounding) (x : Option FVal) : Word32 × Word64 :=
  match x with
  | none => (0x7FC00000, flagI)
  | some .nan => (0x7FC00000, 0)
  | some (.inf neg) => (BitVec.ofNat 32 (f32.sign neg + 0x7F800000), 0)
  | some (.fin neg mag exp) =>
    let r := roundF f32 mode neg mag exp
    (BitVec.ofNat 32 r.1, r.2)

/-- The datum of an FP32 element. -/
def decode32F (x : Word32) : FVal := decodeF f32 x.toNat

/-- VFADD (R345). -/
def fadd (mode : Rounding) (a b : Word32) : Word32 × Word64 := finishF mode (addF mode (decode32F a) (decode32F b))

/-- VFSUB: a + (-b) (R345). -/
def fsub (mode : Rounding) (a b : Word32) : Word32 × Word64 :=
  finishF mode (addF mode (decode32F a) (decode32F b).negate)

/-- VFMUL (R345). -/
def fmul (mode : Rounding) (a b : Word32) : Word32 × Word64 := finishF mode (mulF (decode32F a) (decode32F b))

/-- The exact a x b + d; invalid when the product is 0 x infinity, whatever d holds (R116). -/
def fmaF (mode : Rounding) (a b d : FVal) : Option FVal := (mulF a b).bind (fun p => addF mode p d)

/-- VFFMA: one rounding of a x b + d (R345). -/
def ffma (mode : Rounding) (a b d : Word32) : Word32 × Word64 :=
  finishF mode (fmaF mode (decode32F a) (decode32F b) (decode32F d))

/-- One half of VHFMA: narrowed to BF16, and a NaN or an invalid operation gives 0x7FC0 and I (R118, R353). -/
def hfmaHalf (a b d : BitVec 16) : BitVec 16 × Word64 :=
  let r := match fmaF .rne (decodeF bf16 a.toNat) (decodeF bf16 b.toNat) (decodeF bf16 d.toNat) with
    | none => (bf16.nan, flagI)
    | some x => narrowF bf16 x
  (BitVec.ofNat 16 r.1, r.2)

/-- VHFMA on a pair of BF16 values (R353). -/
def hfma (a b d : Word32) : Word32 × Word64 :=
  let lo := hfmaHalf (a.extractLsb' 0 16) (b.extractLsb' 0 16) (d.extractLsb' 0 16)
  let hi := hfmaHalf (a.extractLsb' 16 16) (b.extractLsb' 16 16) (d.extractLsb' 16 16)
  (hi.1 ++ lo.1, lo.2 ||| hi.2)

/-! ### Comparing (R99, R117) -/

/-- Whether an FP32 element is a NaN. -/
def isNan32 (x : Word32) : Bool := f32.isNan x.toNat

/-- The order of FP32 elements that puts -0 below +0 (R117). -/
def orderKey (x : Word32) : Int :=
  if x.getLsbD 31 then -(f32.body x.toNat : Int) - 1 else (f32.body x.toNat : Int)

/-- The numeric order of FP32 elements, in which the zeros are equal (R347). -/
def valueKey (x : Word32) : Int :=
  if x.getLsbD 31 then -(f32.body x.toNat : Int) else (f32.body x.toNat : Int)

/-- VFMIN (R117). -/
def fmin (a b : Word32) : Word32 :=
  if isNan32 a then (if isNan32 b then 0x7FC00000 else b)
  else if isNan32 b then a
  else if orderKey b < orderKey a then b else a

/-- VFMAX (R117). -/
def fmax (a b : Word32) : Word32 :=
  if isNan32 a then (if isNan32 b then 0x7FC00000 else b)
  else if isNan32 b then a
  else if orderKey a < orderKey b then b else a

/-- The conditions of VFCMP (R99). -/
def fcompare (cc : BitVec 3) (a b : Word32) : Bool :=
  let unordered := isNan32 a || isNan32 b
  match cc.toNat with
  | 0 => !unordered && decide (valueKey a = valueKey b)
  | 1 => unordered || decide (valueKey a ≠ valueKey b)
  | 2 => !unordered && decide (valueKey a < valueKey b)
  | 3 => !unordered && decide (valueKey a ≤ valueKey b)
  | 4 => !unordered && decide (valueKey b < valueKey a)
  | 5 => !unordered && decide (valueKey b ≤ valueKey a)
  | 6 => unordered
  | _ => !unordered

/-! ### Integers and fixed point (R114, R119, R372) -/

/-- An integer clamped to a range, and whether it was outside. -/
def clamp (lo hi x : Int) : Int × Bool :=
  if hi < x then (hi, true) else if x < lo then (lo, true) else (x, false)

/-- An integer clamped to 32 signed bits, with S when it saturates (R114). -/
def saturate32 (x : Int) (flags : Word64) : Word32 × Word64 :=
  let r := clamp (-2 ^ 31) (2 ^ 31 - 1) x
  (BitVec.ofInt 32 r.1, flags ||| flagIf r.2 flagS)

/-- VXADD (R114). -/
def xadd (a b : Word32) : Word32 × Word64 := saturate32 (a.toInt + b.toInt) 0

/-- VXSUB (R114). -/
def xsub (a b : Word32) : Word32 × Word64 := saturate32 (a.toInt - b.toInt) 0

/-- A signed magnitude as an integer. -/
def signedInt (neg : Bool) (n : Nat) : Int := if neg then -(n : Int) else n

/-- VXMUL: the Q32.32 product rounded to Q16.16 (R114). -/
def xmul (mode : Rounding) (a b : Word32) : Word32 × Word64 :=
  let p := a.toInt * b.toInt
  let neg := decide (p < 0)
  let r := roundShift mode neg p.natAbs 16
  saturate32 (signedInt neg r.1) (flagIf r.2 flagX)

/-- A datum narrowed to an integer range after scaling by 2^scale; a NaN gives 0 and I, an infinity the limit and S
(R119, R372). The model's choice: the least value, -2^31 or -128, is in range and sets no S, although its magnitude exceeds the
largest finite value of R111 (log 80). -/
def narrowInt (mode : Rounding) (lo hi : Int) (scale : Nat) (x : FVal) : Word32 × Word64 :=
  match x with
  | .nan => (0, flagI)
  | .inf neg => (BitVec.ofInt 32 (if neg then lo else hi), flagS)
  | .fin neg mag exp =>
    let r := roundInt mode neg mag (exp + scale)
    let c := clamp lo hi (signedInt neg r.1)
    (BitVec.ofInt 32 c.1, flagIf r.2 flagX ||| flagIf c.2 flagS)

/-- An integer times 2^exp rounded to FP32, with X when inexact (R120, R372). -/
def intToF32 (x : Int) (exp : Int) : Word32 × Word64 :=
  let r := roundF f32 .rne (decide (x < 0)) x.natAbs exp
  (BitVec.ofNat 32 r.1, r.2)

/-- An FX32 value rounded to an integer (R120). -/
def fxToInt (mode : Rounding) (a : Word32) : Word32 × Word64 :=
  let neg := decide (a.toInt < 0)
  let r := roundShift mode neg a.toInt.natAbs 16
  (BitVec.ofInt 32 (signedInt neg r.1), flagIf r.2 flagX)

/-- VXCVT by its function number less 0x20 (R372). -/
def xconvert (c : BitVec 4) (a : Word32) : Word32 × Word64 :=
  match c.toNat with
  | 0 => intToF32 a.toInt 0
  | 1 => intToF32 a.toNat 0
  | 2 => intToF32 a.toInt (-16)
  | 3 => narrowInt .rne (-2 ^ 31) (2 ^ 31 - 1) 0 (decode32F a)
  | 4 => narrowInt .rne 0 (2 ^ 32 - 1) 0 (decode32F a)
  | 5 => narrowInt .rne (-2 ^ 31) (2 ^ 31 - 1) 16 (decode32F a)
  | 6 => fxToInt .rne a
  | 7 => saturate32 (a.toInt * 2 ^ 16) 0
  | 8 => let r := clamp (-128) 127 a.toInt
         (BitVec.ofInt 32 r.1, flagIf r.2 flagS)
  | 9 => let r := clamp 0 255 a.toNat
         (BitVec.ofInt 32 r.1, flagIf r.2 flagS)
  | 10 => narrowInt .rz (-2 ^ 31) (2 ^ 31 - 1) 0 (decode32F a)
  | 11 => narrowInt .rz 0 (2 ^ 32 - 1) 0 (decode32F a)
  | 12 => narrowInt .rz (-2 ^ 31) (2 ^ 31 - 1) 16 (decode32F a)
  | _ => fxToInt .rz a

/-- The format of a VFCVT function number's low two bits (R349). -/
def narrowFormat (c : Nat) : FFormat :=
  match c % 4 with
  | 0 => bf16
  | 1 => f16
  | 2 => f8e4
  | _ => f8e5

/-- The width in bits of a format. -/
def FFormat.width (f : FFormat) : Nat := f.eb + f.fb + 1

/-- VFCVT by its function number less 0x10 (R349). -/
def fconvert (c : BitVec 3) (a : Word32) : Word32 × Word64 :=
  let f := narrowFormat c.toNat
  if c.toNat < 4 then (BitVec.ofNat 32 (widenF (decodeF f (a.toNat % 2 ^ f.width))), 0)
  else
    let r := narrowF f (decode32F a)
    (BitVec.ofNat 32 r.1, r.2)

/-! ### Classes and keys (R131, R346) -/

/-- VFCLASS (R346). -/
def fclass (a : Word32) : Word32 :=
  let neg := a.getLsbD 31
  let b := f32.body a.toNat
  if isNan32 a then 0x100
  else if b = 0x7F800000 then (if neg then 0x001 else 0x080)
  else if b = 0 then (if neg then 0x008 else 0x010)
  else if b < 0x800000 then (if neg then 0x004 else 0x020)
  else (if neg then 0x002 else 0x040)

/-- VFKEY of an FP16 or BF16 value (R131). -/
def fkey (f : FFormat) (a : Word32) : Word32 :=
  let h := a.extractLsb' 0 16
  if f.isNan h.toNat then 0
  else if h.getLsbD 15 then (~~~h).setWidth 32
  else (h ||| 0x8000).setWidth 32

/-! ### Block scales and LQ2 weights (R125, R126) -/

/-- The datum divided by a block scale 2^(e - 127) (R121). -/
def unscale (e : Nat) : FVal → FVal
  | .fin n m x => .fin n m (x - ((e : Int) - 127))
  | y => y

/-- The datum times a block scale 2^(e - 127); 0xFF is the NaN scale (R125). -/
def rescale (e : Nat) (x : FVal) : FVal :=
  if e = 0xFF then .nan
  else
    match x with
    | .fin n m y => .fin n m (y + ((e : Int) - 127))
    | y => y

/-- The unscaled weight `i` of an LQ2 code, given its codebook row (R126, R127). -/
def lq2Weight (row code i : Nat) : FVal :=
  let mag := row / 16 ^ i % 16
  let signBits := (List.range 7).map (fun j => code / 2 ^ j % 2)
  let sign := if i < 7 then code / 2 ^ i % 2 else (signBits.sum + row / 2 ^ 32 % 2) % 2
  .fin (sign == 1) mag (-3)

end Sys2Proof.Machine
end

