-- ==== Sys2Proof/Machine/Special.lean ====
section
/-!
DEFINITION. The special functions VFRCP to VFCOS, each the exact value of its function rounded once to FP32 (R124,
R348). A value that is not representable is computed in fixed point, far below the last place of FP32, and its last
bit is set, so that it never looks like a tie or an exact value.
-/

namespace Sys2Proof.Machine

/-- Fraction bits of the fixed-point numbers of the exponential and the logarithm. -/
abbrev expBits : Nat := 400

/-- Fraction bits of the fixed-point numbers of sine and cosine: room for the largest FP32 argument. -/
abbrev trigBits : Nat := 640

/-- ln 2 in `expBits` fraction bits, rounded down. -/
def lnTwo : Nat :=
  0xb17217f7d1cf79abc9e3b39803f2f6af40f343267298b62d8a0d175b8baafa2be7b876206debac98559552fb4afa1b10ed2e

/-- pi / 2 in `trigBits` fraction bits, rounded down. -/
def halfPi : Nat :=
  0x1921fb54442d18469898cc51701b839a252049c1114cf98e804177d4c76273644a29410f31c6809bbdf2a33679a748636605614dbe4be286e9fc26adadaa3848bc90b6aecc4bcfd8de89885d34c6fdad6

/-- The sum of t^k / k! from term `k` on, its term given, in `bits` fraction bits. -/
def expTail (bits t : Nat) : Nat → Nat → Nat → Nat
  | 0, _, _ => 0
  | fuel + 1, k, term => term + expTail bits t fuel (k + 1) (term * t / 2 ^ bits / (k + 1))

/-- e^t for t in [0, 1), in `expBits` fraction bits. -/
def expFixed (t : Nat) : Nat := expTail expBits t 90 0 (2 ^ expBits)

/-- The sum of z^(2k+1) / (2k+1) from a power of z on. -/
def atanhTail (zz : Nat) : Nat → Nat → Nat → Nat
  | 0, _, _ => 0
  | fuel + 1, k, pow => pow / k + atanhTail zz fuel (k + 2) (pow * zz / 2 ^ expBits)

/-- ln(m) for m = num / den in [1, 2), in `expBits` fraction bits: 2 atanh((m - 1)/(m + 1)). -/
def lnFixed (num den : Nat) : Nat :=
  let z := (num - den) * 2 ^ expBits / (num + den)
  2 * atanhTail (z * z / 2 ^ expBits) 140 1 z

/-- An alternating series: term, then terms that each multiply by -r^2 / (k (k + 1)). -/
def trigTail (rr : Nat) : Nat → Nat → Nat → Bool → Int
  | 0, _, _, _ => 0
  | fuel + 1, k, term, neg =>
    (if neg then -(term : Int) else term) +
      trigTail rr fuel (k + 2) (term * rr / 2 ^ trigBits / (k * (k + 1))) (!neg)

/-- sin r for r in [0, pi/2], in `trigBits` fraction bits. -/
def sinFixed (r : Nat) : Nat := (trigTail (r * r / 2 ^ trigBits) 80 2 r false).toNat

/-- cos r for r in [0, pi/2], in `trigBits` fraction bits. -/
def cosFixed (r : Nat) : Nat := (trigTail (r * r / 2 ^ trigBits) 80 1 (2 ^ trigBits) false).toNat

/-- Round a positive fixed-point value that is not exact, of the sign given, to FP32, with no X (R124). -/
def roundInexact (neg : Bool) (m : Nat) (exp : Int) : Word32 × Word64 :=
  let r := roundF f32 .rne neg (2 * m + 1) (exp - 1)
  (BitVec.ofNat 32 r.1, r.2 &&& flagO)

/-- Round an exact value to FP32, with no X (R124). -/
def roundExact (neg : Bool) (m : Nat) (exp : Int) : Word32 × Word64 :=
  let r := roundF f32 .rne neg m exp
  (BitVec.ofNat 32 r.1, r.2 &&& flagO)

/-- The canonical NaN of FP32 (R112). -/
abbrev nan32 : Word32 := 0x7FC00000
/-- The infinity of a sign. -/
def inf32 (neg : Bool) : Word32 := if neg then 0xFF800000 else 0x7F800000
/-- The zero of a sign. -/
def zero32 (neg : Bool) : Word32 := if neg then 0x80000000 else 0

/-- VFRCP: 1/x (R124). -/
def frcp (a : Word32) : Word32 × Word64 :=
  match decode32F a with
  | .nan => (nan32, 0)
  | .inf neg => (zero32 neg, 0)
  | .fin neg m e =>
    if m = 0 then (inf32 neg, 0)
    else if 2 ^ 80 % m = 0 then roundExact neg (2 ^ 80 / m) (-80 - e)
    else roundInexact neg (2 ^ 80 / m) (-80 - e)

/-- The integer square root, by bits from 2^(n-1) down. -/
def isqrt (x : Nat) : Nat → Nat → Nat
  | 0, r => r
  | n + 1, r => if (r + 2 ^ n) * (r + 2 ^ n) ≤ x then isqrt x n (r + 2 ^ n) else isqrt x n r

/-- VFRSQ: 1/sqrt(x) (R124). -/
def frsq (a : Word32) : Word32 × Word64 :=
  match decode32F a with
  | .nan => (nan32, 0)
  | .inf neg => if neg then (nan32, flagI) else (0, 0)
  | .fin neg m e =>
    if m = 0 then (inf32 neg, 0)
    else if neg then (nan32, flagI)
    else
      let odd := e % 2 == 1
      let m := if odd then 2 * m else m
      let e := if odd then e - 1 else e
      let r := isqrt (2 ^ 160 / m) 81 0
      if r * r * m = 2 ^ 160 then roundExact false r (-80 - e / 2) else roundInexact false r (-80 - e / 2)

/-- 2^n x e^t for t in `expBits` fraction bits; exact when t is 0. -/
def scaleExp (n : Int) (t : Nat) : Word32 × Word64 :=
  if t = 0 then roundExact false 1 n else roundInexact false (expFixed t) (n - expBits)

/-- VFEX2: 2^x (R124). Beyond 256 in magnitude the result is the overflow or the zero. -/
def fex2 (a : Word32) : Word32 × Word64 :=
  match decode32F a with
  | .nan => (nan32, 0)
  | .inf neg => if neg then (0, 0) else (inf32 false, 0)
  | .fin neg m e =>
    if m ≠ 0 ∧ 8 < e + (Nat.log2 m : Int) then (if neg then (0, 0) else (inf32 false, flagO))
    else
      let x := scaled neg m e (-expBits)
      let n := x / 2 ^ expBits
      let f := (x % 2 ^ expBits).toNat
      scaleExp n (f * lnTwo / 2 ^ expBits)

/-- VFEXP: e^x (R124). Beyond 256 in magnitude the result is the overflow or the zero. -/
def fexp (a : Word32) : Word32 × Word64 :=
  match decode32F a with
  | .nan => (nan32, 0)
  | .inf neg => if neg then (0, 0) else (inf32 false, 0)
  | .fin neg m e =>
    if m = 0 then (0x3F800000, 0)
    else if 8 < e + (Nat.log2 m : Int) then (if neg then (0, 0) else (inf32 false, flagO))
    else
      let x := scaled neg m e (-expBits)
      let n := x / (lnTwo : Int)
      let t := (x % (lnTwo : Int)).toNat
      roundInexact false (expFixed t) (n - expBits)

/-- VFLG2: log2 x (R124). -/
def flg2 (a : Word32) : Word32 × Word64 :=
  match decode32F a with
  | .nan => (nan32, 0)
  | .inf neg => if neg then (nan32, flagI) else (inf32 false, 0)
  | .fin neg m e =>
    if m = 0 then (inf32 true, 0)
    else if neg then (nan32, flagI)
    else
      let k := Nat.log2 m
      let whole : Int := e + k
      if m = 2 ^ k then roundExact (decide (whole < 0)) whole.natAbs 0
      else
        let f := lnFixed m (2 ^ k) * 2 ^ expBits / lnTwo
        let x := whole * 2 ^ expBits + f
        roundInexact (decide (x < 0)) (if x < 0 then x.natAbs - 1 else x.natAbs) (-expBits)

/-- The quadrant of |x| and what is left of it in [0, pi/2), in `trigBits` fraction bits. -/
def reduceTrig (m : Nat) (e : Int) : Nat × Nat :=
  let x := m * 2 ^ (e + trigBits).toNat
  (x / halfPi % 4, x % halfPi)

/-- VFSIN (R124). -/
def fsin (a : Word32) : Word32 × Word64 :=
  match decode32F a with
  | .nan => (nan32, 0)
  | .inf _ => (nan32, flagI)
  | .fin neg m e =>
    if m = 0 then (zero32 neg, 0)
    else
      let r := reduceTrig m e
      let v := if r.1 % 2 = 0 then sinFixed r.2 else cosFixed r.2
      roundInexact (neg != decide (2 ≤ r.1)) v (-trigBits)

/-- VFCOS (R124). -/
def fcos (a : Word32) : Word32 × Word64 :=
  match decode32F a with
  | .nan => (nan32, 0)
  | .inf _ => (nan32, flagI)
  | .fin _ m e =>
    if m = 0 then (0x3F800000, 0)
    else
      let r := reduceTrig m e
      let v := if r.1 % 2 = 0 then cosFixed r.2 else sinFixed r.2
      roundInexact (r.1 == 1 || r.1 == 2) v (-trigBits)

end Sys2Proof.Machine
end

