-- ==== Sys2Proof/Machine/Operands.lean ====
section
/-!
DEFINITION. The operands of the instructions: which registers an instruction names, reads and writes, its mask
selector, its stall count, and the reading and writing of the registers of a wave, with the scoreboard's old values
(R70 to R74, R92 to R96, R333).
-/

namespace Sys2Proof

open Sys2Proof.Machine

/-- The register that a mask selector reads; m0 is the active mask, which no scoreboard follows (R62, R93). -/
def maskReads (k : Nat) : List RegId := if k = 0 then [] else [.m k]

/-- Whether an instruction is a control instruction, column C of the opcode map (R96). -/
def Instr.control : Instr → Bool
  | .bra _ _ => true
  | .bcc _ _ _ _ => true
  | .call _ _ => true
  | .ret _ _ => true
  | .jmpr _ _ => true
  | .ifm _ _ _ => true
  | .els _ _ => true
  | .endif _ => true
  | .loop _ => true
  | .brk _ _ => true
  | .cont _ _ => true
  | .endl _ _ => true
  | .exitm _ _ => true
  | .endw _ => true
  | .run _ _ => true
  | .runend _ _ _ _ => true
  | .yield _ => true
  | .sleepu _ _ => true
  | .waitk _ _ => true
  | .trap _ _ => true
  | .eret _ => true
  | .sigchk _ _ => true
  | .bar _ => true
  | .sbar _ => true
  | .gbar _ => true
  | .qlock _ _ => true
  | .qunlock _ _ => true
  | .send _ _ _ _ => true
  | .recv _ _ _ _ => true
  | .wfence _ => true
  | .cpwait _ _ => true
  | _ => false

/-- The registers an instruction reads as sources, in the operand order of its entry, then its mask selector and what
it reads besides. Events read none. -/
def Instr.reads : Instr → List RegId
  | .bcc _ _ r _ => [.s r.toNat]
  | .ret r _ => [.s r.toNat]
  | .jmpr r _ => [.s r.toNat]
  | .ifm _ k _ => maskReads k.toNat
  | .brk k _ => maskReads k.toNat
  | .cont k _ => maskReads k.toNat
  | .exitm k _ => maskReads k.toNat
  | .sleepu r _ => [.s r.toNat]
  | .waitk r _ => [.s r.toNat]
  | .eret _ => [.csr 0x051]
  | .scsr c _ _ => [.csr c.toNat]
  | .scsw _ r _ => [.s r.toNat]
  | .scss c r _ => [.s r.toNat, .csr c.toNat]
  | .scsc c r _ => [.s r.toNat, .csr c.toNat]
  | .sigchk _ _ => [.csr 0x030, .csr 0x031]
  | .sadd b a _ _ => [.s a.toNat, .s b.toNat]
  | .ssub b a _ _ => [.s a.toNat, .s b.toNat]
  | .smul b a _ _ => [.s a.toNat, .s b.toNat]
  | .smulh b a _ _ => [.s a.toNat, .s b.toNat]
  | .sand b a _ _ => [.s a.toNat, .s b.toNat]
  | .sor b a _ _ => [.s a.toNat, .s b.toNat]
  | .sxor b a _ _ => [.s a.toNat, .s b.toNat]
  | .sshl b a _ _ => [.s a.toNat, .s b.toNat]
  | .sshr b a _ _ => [.s a.toNat, .s b.toNat]
  | .ssar b a _ _ => [.s a.toNat, .s b.toNat]
  | .smin b a _ _ => [.s a.toNat, .s b.toNat]
  | .smax b a _ _ => [.s a.toNat, .s b.toNat]
  | .snmin b a _ _ => [.s a.toNat, .s b.toNat]
  | .snmax b a _ _ => [.s a.toNat, .s b.toNat]
  | .sclz a _ _ => [.s a.toNat]
  | .spopc a _ _ => [.s a.toNat]
  | .sbfx b a _ _ => [.s a.toNat, .s b.toNat]
  | .sbfi b a d _ => [.s a.toNat, .s b.toNat, .s d.toNat]
  | .smov a _ _ => [.s a.toNat]
  | .scmp _ b a _ _ => [.s a.toNat, .s b.toNat]
  | .saddi _ d _ => [.s d.toNat]
  | .slui _ d _ => [.s d.toNat]
  | .sld _ b _ _ => [.s b.toNat]
  | .sst _ b d _ => [.s b.toNat, .s d.toNat]
  | .qlock r _ => [.s r.toNat]
  | .qunlock r _ => [.s r.toNat]
  | .send m _ d _ => [.v d.toNat] ++ maskReads m.toNat
  | .recv m _ _ _ => maskReads m.toNat
  | .abind r _ _ => [.s r.toNat]
  | .vld m _ t o _ _ => [.a t.toNat, .v o.toNat] ++ maskReads m.toNat
  | .vst m _ t o d _ => [.a t.toNat, .v o.toNat, .v d.toNat] ++ maskReads m.toNat
  | .vlds m _ _ o _ _ => [.v o.toNat] ++ maskReads m.toNat
  | .vsts m _ _ o d _ => [.v o.toNat, .v d.toNat] ++ maskReads m.toNat
  | .atom m _ _ _ t o d _ => [.a t.toNat, .v o.toNat, .v (d.toNat + 1)] ++ maskReads m.toNat
  | .red m _ _ _ t o d _ => [.a t.toNat, .v o.toNat, .v d.toNat] ++ maskReads m.toNat
  | .rst m v p o d _ => [if v = 0 then .s p.toNat else .v p.toNat, .v o.toNat, .v d.toNat] ++ maskReads m.toNat
  | .ratom m _ v p o d _ => [if v = 0 then .s p.toNat else .v p.toNat, .v o.toNat, .v d.toNat] ++ maskReads m.toNat
  | .xfer m b a d _ => [.v d.toNat, .v a.toNat, .v b.toNat, .a 15, .csr 0x200] ++ maskReads m.toNat
  | .xferx m b a d _ => [.v d.toNat, .v a.toNat, .v b.toNat, .a 15, .csr 0x200] ++ maskReads m.toNat
  | .ftotal _ _ _ _ => [.csr 0x200]
  | .fbind r _ => [.s r.toNat]
  | .fbindSeal r _ => [.s r.toNat]
  | .mxloop u e _ _ => [.s e.toNat] ++ (if u = 0 then [] else [.s u.toNat])
  | .cpy u e _ _ => [.s e.toNat] ++ (if u = 0 then [] else [.s u.toNat])
  | .bload u e _ _ => [.s e.toNat] ++ (if u = 0 then [] else [.s u.toNat])
  | .cbld u e _ _ => [.s e.toNat] ++ (if u = 0 then [] else [.s u.toNat])
  | .qfence u e _ _ => [.s e.toNat] ++ (if u = 0 then [] else [.s u.toNat])
  | .nwri u e _ _ => [.s e.toNat] ++ (if u = 0 then [] else [.s u.toNat])
  | .cpwait r _ => [.s r.toNat, .s (r.toNat + 1)]
  | .emit m n d _ => [.s n.toNat, .v (d.toNat + 0), .v (d.toNat + 1), .v (d.toNat + 2), .v (d.toNat + 3)] ++ maskReads m.toNat
  | .recin m _ _ => maskReads m.toNat
  | .mxmma _ b a _ _ => [.s b.toNat, .v (a.toNat + 0), .v (a.toNat + 1), .v (a.toNat + 2), .v (a.toNat + 3), .v (a.toNat + 4), .v (a.toNat + 5), .v (a.toNat + 6), .v (a.toNat + 7)]
  | .mxldz b _ _ => [.s b.toNat]
  | .mxstz b z _ => [.s b.toNat, .tile z.toNat]
  | .mxrdz _ _ z _ => [.tile z.toNat]
  | .mxchk c _ z _ => [.s c.toNat, .tile z.toNat]
  | .viadd m b a _ _ => [.v a.toNat, .v b.toNat] ++ maskReads m.toNat
  | .visub m b a _ _ => [.v a.toNat, .v b.toNat] ++ maskReads m.toNat
  | .vimul m b a _ _ => [.v a.toNat, .v b.toNat] ++ maskReads m.toNat
  | .vimulh m b a _ _ => [.v a.toNat, .v b.toNat] ++ maskReads m.toNat
  | .vimad m b a d _ => [.v a.toNat, .v b.toNat, .v d.toNat] ++ maskReads m.toNat
  | .vimin m b a _ _ => [.v a.toNat, .v b.toNat] ++ maskReads m.toNat
  | .vimax m b a _ _ => [.v a.toNat, .v b.toNat] ++ maskReads m.toNat
  | .vand m b a _ _ => [.v a.toNat, .v b.toNat] ++ maskReads m.toNat
  | .vor m b a _ _ => [.v a.toNat, .v b.toNat] ++ maskReads m.toNat
  | .vxor m b a _ _ => [.v a.toNat, .v b.toNat] ++ maskReads m.toNat
  | .vshl m b a _ _ => [.v a.toNat, .v b.toNat] ++ maskReads m.toNat
  | .vshr m b a _ _ => [.v a.toNat, .v b.toNat] ++ maskReads m.toNat
  | .vsar m b a _ _ => [.v a.toNat, .v b.toNat] ++ maskReads m.toNat
  | .vbfx m b a _ _ => [.v a.toNat, .v b.toNat] ++ maskReads m.toNat
  | .vbfi m b a d _ => [.v a.toNat, .v b.toNat, .v d.toNat] ++ maskReads m.toNat
  | .vicmp m b a _ _ _ => [.v a.toNat, .v b.toNat] ++ maskReads m.toNat
  | .vsel m b a _ _ => [.v a.toNat, .v b.toNat] ++ maskReads m.toNat
  | .vmov m b _ _ => [.v b.toNat] ++ maskReads m.toNat
  | .vbcast m a _ _ => [.s a.toNat] ++ maskReads m.toNat
  | .vxadd m b a _ _ => [.v a.toNat, .v b.toNat] ++ maskReads m.toNat
  | .vxsub m b a _ _ => [.v a.toNat, .v b.toNat] ++ maskReads m.toNat
  | .vxmul m b a _ _ => [.v a.toNat, .v b.toNat] ++ maskReads m.toNat
  | .vxmulRz m b a _ _ => [.v a.toNat, .v b.toNat] ++ maskReads m.toNat
  | .vnot m a _ _ => [.v a.toNat] ++ maskReads m.toNat
  | .vabsI32 m a _ _ => [.v a.toNat] ++ maskReads m.toNat
  | .vpopc m a _ _ => [.v a.toNat] ++ maskReads m.toNat
  | .vclz m a _ _ => [.v a.toNat] ++ maskReads m.toNat
  | .laneid m _ _ => maskReads m.toNat
  | .vfclass m a _ _ => [.v a.toNat] ++ maskReads m.toNat
  | .vfkey m _ a _ _ => [.v a.toNat] ++ maskReads m.toNat
  | .vfrcp m a _ _ => [.v a.toNat] ++ maskReads m.toNat
  | .vfrsq m a _ _ => [.v a.toNat] ++ maskReads m.toNat
  | .vfex2 m a _ _ => [.v a.toNat] ++ maskReads m.toNat
  | .vfexp m a _ _ => [.v a.toNat] ++ maskReads m.toNat
  | .vflg2 m a _ _ => [.v a.toNat] ++ maskReads m.toNat
  | .vfsin m a _ _ => [.v a.toNat] ++ maskReads m.toNat
  | .vfcos m a _ _ => [.v a.toNat] ++ maskReads m.toNat
  | .vabsF32 m a _ _ => [.v a.toNat] ++ maskReads m.toNat
  | .vfcvt m _ a _ _ => [.v a.toNat] ++ maskReads m.toNat
  | .vxcvt m _ a _ _ => [.v a.toNat] ++ maskReads m.toNat
  | .vfadd m b a _ _ => [.v a.toNat, .v b.toNat] ++ maskReads m.toNat
  | .vfsub m b a _ _ => [.v a.toNat, .v b.toNat] ++ maskReads m.toNat
  | .vfmul m b a _ _ => [.v a.toNat, .v b.toNat] ++ maskReads m.toNat
  | .vffma m b a d _ => [.v a.toNat, .v b.toNat, .v d.toNat] ++ maskReads m.toNat
  | .vfmin m b a _ _ => [.v a.toNat, .v b.toNat] ++ maskReads m.toNat
  | .vfmax m b a _ _ => [.v a.toNat, .v b.toNat] ++ maskReads m.toNat
  | .vfcmp m b a _ _ _ => [.v a.toNat, .v b.toNat] ++ maskReads m.toNat
  | .vhfma m b a d _ => [.v a.toNat, .v b.toNat, .v d.toNat] ++ maskReads m.toNat
  | .vfaddDirected m _ b a _ _ => [.v a.toNat, .v b.toNat] ++ maskReads m.toNat
  | .vfsubDirected m _ b a _ _ => [.v a.toNat, .v b.toNat] ++ maskReads m.toNat
  | .vfmulDirected m _ b a _ _ => [.v a.toNat, .v b.toNat] ++ maskReads m.toNat
  | .vffmaDirected m _ b a d _ => [.v a.toNat, .v b.toNat, .v d.toNat] ++ maskReads m.toNat
  | .vshfl m b a _ _ => [.v a.toNat, .v b.toNat] ++ maskReads m.toNat
  | .vshfx m b a _ _ => [.v a.toNat, .v b.toNat] ++ maskReads m.toNat
  | .vshfr m b a _ _ => [.v a.toNat, .v b.toNat] ++ maskReads m.toNat
  | .vballot m _ a _ _ => [.v a.toNat] ++ maskReads m.toNat
  | .vvote m _ a _ _ => [.v a.toNat] ++ maskReads m.toNat
  | .vlred m _ _ a _ _ => [.v a.toNat] ++ maskReads m.toNat
  | .vscan m _ _ a _ _ => [.v a.toNat] ++ maskReads m.toNat
  | .vrdlane _ a _ _ => [.v a.toNat]
  | .vwrlane _ a _ _ => [.s a.toNat]
  | .mset a _ _ => [.s a.toNat]
  | .mget a _ _ => maskReads a.toNat
  | .mlog _ b a _ _ => maskReads a.toNat ++ maskReads b.toNat
  | .mpopc a _ _ => maskReads a.toNat
  | .vmov16 b _ => [.v b.toNat]
  | .viadd16 b d => [.v d.toNat, .v b.toNat]
  | .visub16 b d => [.v d.toNat, .v b.toNat]
  | .vimul16 b d => [.v d.toNat, .v b.toNat]
  | .vand16 b d => [.v d.toNat, .v b.toNat]
  | .vor16 b d => [.v d.toNat, .v b.toNat]
  | .vxor16 b d => [.v d.toNat, .v b.toNat]
  | .vshl16 b d => [.v d.toNat, .v b.toNat]
  | .vshr16 b d => [.v d.toNat, .v b.toNat]
  | .vsar16 b d => [.v d.toNat, .v b.toNat]
  | .vfadd16 b d => [.v d.toNat, .v b.toNat]
  | .vfsub16 b d => [.v d.toNat, .v b.toNat]
  | .vfmul16 b d => [.v d.toNat, .v b.toNat]
  | .vfmax16 b d => [.v d.toNat, .v b.toNat]
  | .vfmin16 b d => [.v d.toNat, .v b.toNat]
  | .vxadd16 b d => [.v d.toNat, .v b.toNat]
  | _ => []

/-- The accumulator slot whose ACCOWN a CSR number names: a write of it waits for results of the slot (R186, R262). -/
def ownedSlot (n : Nat) : List RegId := if 0x100 ≤ n ∧ n ≤ 0x13F then [.z (n - 0x100)] else []

/-- The registers an instruction writes; RUN clears e0 to e7 (R70). Events write none through the scoreboard. -/
def Instr.writes : Instr → List RegId
  | .call _ _ => [.s 31]
  | .run _ _ => (List.range 8).map (fun j => .v (56 + j))
  | .waitk r _ => [.s r.toNat]
  | .eret _ => [.s 24, .s 25, .s 26, .s 27, .s 28, .s 29, .s 30, .s 31]
  | .scsr _ r _ => [.s r.toNat]
  | .scsw c _ _ => .csr c.toNat :: ownedSlot c.toNat
  | .scss c _ _ => .csr c.toNat :: ownedSlot c.toNat
  | .scsc c _ _ => .csr c.toNat :: ownedSlot c.toNat
  | .sadd _ _ d _ => [.s d.toNat]
  | .ssub _ _ d _ => [.s d.toNat]
  | .smul _ _ d _ => [.s d.toNat]
  | .smulh _ _ d _ => [.s d.toNat]
  | .sand _ _ d _ => [.s d.toNat]
  | .sor _ _ d _ => [.s d.toNat]
  | .sxor _ _ d _ => [.s d.toNat]
  | .sshl _ _ d _ => [.s d.toNat]
  | .sshr _ _ d _ => [.s d.toNat]
  | .ssar _ _ d _ => [.s d.toNat]
  | .smin _ _ d _ => [.s d.toNat]
  | .smax _ _ d _ => [.s d.toNat]
  | .snmin _ _ d _ => [.s d.toNat]
  | .snmax _ _ d _ => [.s d.toNat]
  | .sclz _ d _ => [.s d.toNat]
  | .spopc _ d _ => [.s d.toNat]
  | .sbfx _ _ d _ => [.s d.toNat]
  | .sbfi _ _ d _ => [.s d.toNat]
  | .smov _ d _ => [.s d.toNat]
  | .scmp _ _ _ d _ => [.s d.toNat]
  | .saddi _ d _ => [.s d.toNat]
  | .smovi _ d _ => [.s d.toNat]
  | .slui _ d _ => [.s d.toNat]
  | .sld _ _ d _ => [.s d.toNat]
  | .recv _ _ d _ => [.v d.toNat]
  | .abind _ n _ => [.a n.toNat]
  | .vld _ _ _ _ d _ => [.v d.toNat]
  | .vlds _ _ _ _ d _ => [.v d.toNat]
  | .atom _ _ _ _ _ _ d _ => [.v d.toNat]
  | .ratom _ _ _ _ _ _ _ => [.s 30]
  | .ftotal _ _ d _ => [.s d.toNat]
  | .fbind _ _ => [.csr 0x200, .a 15]
  | .mxloop _ _ t _ => [.s t.toNat, .s (t.toNat + 1)]
  | .cpy _ _ t _ => [.s t.toNat, .s (t.toNat + 1)]
  | .bload _ _ t _ => [.s t.toNat, .s (t.toNat + 1)]
  | .cbld _ _ t _ => [.s t.toNat, .s (t.toNat + 1)]
  | .qfence _ _ t _ => [.s t.toNat, .s (t.toNat + 1)]
  | .nwri _ _ t _ => [.s t.toNat, .s (t.toNat + 1)]
  | .recin _ d _ => [.v (d.toNat + 0), .v (d.toNat + 1), .v (d.toNat + 2), .v (d.toNat + 3)]
  | .mxrdz _ d _ _ => [.v d.toNat]
  | .mxchk _ d _ _ => [.s d.toNat]
  | .viadd _ _ _ d _ => [.v d.toNat]
  | .visub _ _ _ d _ => [.v d.toNat]
  | .vimul _ _ _ d _ => [.v d.toNat]
  | .vimulh _ _ _ d _ => [.v d.toNat]
  | .vimad _ _ _ d _ => [.v d.toNat]
  | .vimin _ _ _ d _ => [.v d.toNat]
  | .vimax _ _ _ d _ => [.v d.toNat]
  | .vand _ _ _ d _ => [.v d.toNat]
  | .vor _ _ _ d _ => [.v d.toNat]
  | .vxor _ _ _ d _ => [.v d.toNat]
  | .vshl _ _ _ d _ => [.v d.toNat]
  | .vshr _ _ _ d _ => [.v d.toNat]
  | .vsar _ _ _ d _ => [.v d.toNat]
  | .vbfx _ _ _ d _ => [.v d.toNat]
  | .vbfi _ _ _ d _ => [.v d.toNat]
  | .vicmp _ _ _ _ k _ => [.m k.toNat]
  | .vsel _ _ _ d _ => [.v d.toNat]
  | .vmov _ _ d _ => [.v d.toNat]
  | .vmovi _ d _ => [.v d.toNat]
  | .vbcast _ _ d _ => [.v d.toNat]
  | .vxadd _ _ _ d _ => [.v d.toNat]
  | .vxsub _ _ _ d _ => [.v d.toNat]
  | .vxmul _ _ _ d _ => [.v d.toNat]
  | .vxmulRz _ _ _ d _ => [.v d.toNat]
  | .vnot _ _ d _ => [.v d.toNat]
  | .vabsI32 _ _ d _ => [.v d.toNat]
  | .vpopc _ _ d _ => [.v d.toNat]
  | .vclz _ _ d _ => [.v d.toNat]
  | .laneid _ d _ => [.v d.toNat]
  | .vfclass _ _ d _ => [.v d.toNat]
  | .vfkey _ _ _ d _ => [.v d.toNat]
  | .vfrcp _ _ d _ => [.v d.toNat]
  | .vfrsq _ _ d _ => [.v d.toNat]
  | .vfex2 _ _ d _ => [.v d.toNat]
  | .vfexp _ _ d _ => [.v d.toNat]
  | .vflg2 _ _ d _ => [.v d.toNat]
  | .vfsin _ _ d _ => [.v d.toNat]
  | .vfcos _ _ d _ => [.v d.toNat]
  | .vabsF32 _ _ d _ => [.v d.toNat]
  | .vfcvt _ _ _ d _ => [.v d.toNat]
  | .vxcvt _ _ _ d _ => [.v d.toNat]
  | .vfadd _ _ _ d _ => [.v d.toNat]
  | .vfsub _ _ _ d _ => [.v d.toNat]
  | .vfmul _ _ _ d _ => [.v d.toNat]
  | .vffma _ _ _ d _ => [.v d.toNat]
  | .vfmin _ _ _ d _ => [.v d.toNat]
  | .vfmax _ _ _ d _ => [.v d.toNat]
  | .vfcmp _ _ _ _ k _ => [.m k.toNat]
  | .vhfma _ _ _ d _ => [.v d.toNat]
  | .vfaddDirected _ _ _ _ d _ => [.v d.toNat]
  | .vfsubDirected _ _ _ _ d _ => [.v d.toNat]
  | .vfmulDirected _ _ _ _ d _ => [.v d.toNat]
  | .vffmaDirected _ _ _ _ d _ => [.v d.toNat]
  | .vshfl _ _ _ d _ => [.v d.toNat]
  | .vshfx _ _ _ d _ => [.v d.toNat]
  | .vshfr _ _ _ d _ => [.v d.toNat]
  | .vballot _ _ _ d _ => [.s d.toNat]
  | .vvote _ _ _ d _ => [.s d.toNat]
  | .vlred _ _ _ _ d _ => [.v d.toNat]
  | .vscan _ _ _ _ d _ => [.v d.toNat]
  | .vrdlane _ _ d _ => [.s d.toNat]
  | .vwrlane _ _ d _ => [.v d.toNat]
  | .mset _ d _ => [.m d.toNat]
  | .mget _ d _ => [.s d.toNat]
  | .mlog _ _ _ d _ => [.m d.toNat]
  | .mpopc _ d _ => [.s d.toNat]
  | .vmov16 _ d => [.v d.toNat]
  | .viadd16 _ d => [.v d.toNat]
  | .visub16 _ d => [.v d.toNat]
  | .vimul16 _ d => [.v d.toNat]
  | .vand16 _ d => [.v d.toNat]
  | .vor16 _ d => [.v d.toNat]
  | .vxor16 _ d => [.v d.toNat]
  | .vshl16 _ d => [.v d.toNat]
  | .vshr16 _ d => [.v d.toNat]
  | .vsar16 _ d => [.v d.toNat]
  | .vfadd16 _ d => [.v d.toNat]
  | .vfsub16 _ d => [.v d.toNat]
  | .vfmul16 _ d => [.v d.toNat]
  | .vfmax16 _ d => [.v d.toNat]
  | .vfmin16 _ d => [.v d.toNat]
  | .vxadd16 _ d => [.v d.toNat]
  | _ => []

/-- Every vector register an instruction names, groups spelt out (R93). -/
def Instr.vectors : Instr → List Nat
  | .send _ _ d _ => [d.toNat]
  | .recv _ _ d _ => [d.toNat]
  | .vld _ _ _ o d _ => [o.toNat, d.toNat]
  | .vst _ _ _ o d _ => [o.toNat, d.toNat]
  | .vlds _ _ _ o d _ => [o.toNat, d.toNat]
  | .vsts _ _ _ o d _ => [o.toNat, d.toNat]
  | .atom _ _ _ _ _ o d _ => [o.toNat, d.toNat]
  | .red _ _ _ _ _ o d _ => [o.toNat, d.toNat]
  | .rst _ v p o d _ => [o.toNat, d.toNat, if v = 0 then o.toNat else p.toNat]
  | .ratom _ _ v p o d _ => [o.toNat, d.toNat, if v = 0 then o.toNat else p.toNat]
  | .xfer _ b a d _ => [d.toNat, a.toNat, b.toNat]
  | .xferx _ b a d _ => [d.toNat, a.toNat, b.toNat]
  | .mxmma _ _ a _ _ => [a.toNat + 0, a.toNat + 1, a.toNat + 2, a.toNat + 3, a.toNat + 4, a.toNat + 5, a.toNat + 6, a.toNat + 7]
  | .mxrdz _ d _ _ => [d.toNat]
  | .viadd _ b a d _ => [a.toNat, b.toNat, d.toNat]
  | .visub _ b a d _ => [a.toNat, b.toNat, d.toNat]
  | .vimul _ b a d _ => [a.toNat, b.toNat, d.toNat]
  | .vimulh _ b a d _ => [a.toNat, b.toNat, d.toNat]
  | .vimad _ b a d _ => [a.toNat, b.toNat, d.toNat]
  | .vimin _ b a d _ => [a.toNat, b.toNat, d.toNat]
  | .vimax _ b a d _ => [a.toNat, b.toNat, d.toNat]
  | .vand _ b a d _ => [a.toNat, b.toNat, d.toNat]
  | .vor _ b a d _ => [a.toNat, b.toNat, d.toNat]
  | .vxor _ b a d _ => [a.toNat, b.toNat, d.toNat]
  | .vshl _ b a d _ => [a.toNat, b.toNat, d.toNat]
  | .vshr _ b a d _ => [a.toNat, b.toNat, d.toNat]
  | .vsar _ b a d _ => [a.toNat, b.toNat, d.toNat]
  | .vbfx _ b a d _ => [a.toNat, b.toNat, d.toNat]
  | .vbfi _ b a d _ => [a.toNat, b.toNat, d.toNat]
  | .vicmp _ b a _ _ _ => [a.toNat, b.toNat]
  | .vsel _ b a d _ => [a.toNat, b.toNat, d.toNat]
  | .vmov _ b d _ => [b.toNat, d.toNat]
  | .vmovi _ d _ => [d.toNat]
  | .vbcast _ _ d _ => [d.toNat]
  | .vxadd _ b a d _ => [a.toNat, b.toNat, d.toNat]
  | .vxsub _ b a d _ => [a.toNat, b.toNat, d.toNat]
  | .vxmul _ b a d _ => [a.toNat, b.toNat, d.toNat]
  | .vxmulRz _ b a d _ => [a.toNat, b.toNat, d.toNat]
  | .vnot _ a d _ => [a.toNat, d.toNat]
  | .vabsI32 _ a d _ => [a.toNat, d.toNat]
  | .vpopc _ a d _ => [a.toNat, d.toNat]
  | .vclz _ a d _ => [a.toNat, d.toNat]
  | .laneid _ d _ => [d.toNat]
  | .vfclass _ a d _ => [a.toNat, d.toNat]
  | .vfkey _ _ a d _ => [a.toNat, d.toNat]
  | .vfrcp _ a d _ => [a.toNat, d.toNat]
  | .vfrsq _ a d _ => [a.toNat, d.toNat]
  | .vfex2 _ a d _ => [a.toNat, d.toNat]
  | .vfexp _ a d _ => [a.toNat, d.toNat]
  | .vflg2 _ a d _ => [a.toNat, d.toNat]
  | .vfsin _ a d _ => [a.toNat, d.toNat]
  | .vfcos _ a d _ => [a.toNat, d.toNat]
  | .vabsF32 _ a d _ => [a.toNat, d.toNat]
  | .vfcvt _ _ a d _ => [a.toNat, d.toNat]
  | .vxcvt _ _ a d _ => [a.toNat, d.toNat]
  | .vfadd _ b a d _ => [a.toNat, b.toNat, d.toNat]
  | .vfsub _ b a d _ => [a.toNat, b.toNat, d.toNat]
  | .vfmul _ b a d _ => [a.toNat, b.toNat, d.toNat]
  | .vffma _ b a d _ => [a.toNat, b.toNat, d.toNat]
  | .vfmin _ b a d _ => [a.toNat, b.toNat, d.toNat]
  | .vfmax _ b a d _ => [a.toNat, b.toNat, d.toNat]
  | .vfcmp _ b a _ _ _ => [a.toNat, b.toNat]
  | .vhfma _ b a d _ => [a.toNat, b.toNat, d.toNat]
  | .vfaddDirected _ _ b a d _ => [a.toNat, b.toNat, d.toNat]
  | .vfsubDirected _ _ b a d _ => [a.toNat, b.toNat, d.toNat]
  | .vfmulDirected _ _ b a d _ => [a.toNat, b.toNat, d.toNat]
  | .vffmaDirected _ _ b a d _ => [a.toNat, b.toNat, d.toNat]
  | .vshfl _ b a d _ => [a.toNat, b.toNat, d.toNat]
  | .vshfx _ b a d _ => [a.toNat, b.toNat, d.toNat]
  | .vshfr _ b a d _ => [a.toNat, b.toNat, d.toNat]
  | .vballot _ _ a _ _ => [a.toNat]
  | .vvote _ _ a _ _ => [a.toNat]
  | .vlred _ _ _ a d _ => [a.toNat, d.toNat]
  | .vscan _ _ _ a d _ => [a.toNat, d.toNat]
  | .vrdlane _ a _ _ => [a.toNat]
  | .vwrlane _ _ d _ => [d.toNat]
  | .vmov16 b d => [b.toNat, d.toNat]
  | .viadd16 b d => [b.toNat, d.toNat]
  | .visub16 b d => [b.toNat, d.toNat]
  | .vimul16 b d => [b.toNat, d.toNat]
  | .vand16 b d => [b.toNat, d.toNat]
  | .vor16 b d => [b.toNat, d.toNat]
  | .vxor16 b d => [b.toNat, d.toNat]
  | .vshl16 b d => [b.toNat, d.toNat]
  | .vshr16 b d => [b.toNat, d.toNat]
  | .vsar16 b d => [b.toNat, d.toNat]
  | .vfadd16 b d => [b.toNat, d.toNat]
  | .vfsub16 b d => [b.toNat, d.toNat]
  | .vfmul16 b d => [b.toNat, d.toNat]
  | .vfmax16 b d => [b.toNat, d.toNat]
  | .vfmin16 b d => [b.toNat, d.toNat]
  | .vxadd16 b d => [b.toNat, d.toNat]
  | _ => []

/-- The registers of a group of consecutive vector registers, all of which must be inside the register count (R93), and
the vector registers that RUNEND names (R71). -/
def Instr.group : Instr → List Nat
  | .atom _ _ _ _ _ _ d _ => [d.toNat, d.toNat + 1]
  | .emit _ _ d _ => [d.toNat + 0, d.toNat + 1, d.toNat + 2, d.toNat + 3]
  | .recin _ d _ => [d.toNat + 0, d.toNat + 1, d.toNat + 2, d.toNat + 3]
  | .runend z y x _ => [z.toNat, y.toNat, x.toNat].filterMap (fun d => if 64 ≤ d ∧ d < 127 then some (d - 64) else none)
  | _ => []

/-- The mask selector of an instruction: k of mk, or 0 for the active mask alone (R93). VSEL reads its M field as a
selector and writes every active lane (R363). -/
def Instr.maskField : Instr → Nat
  | .send m _ _ _ => m.toNat
  | .recv m _ _ _ => m.toNat
  | .vld m _ _ _ _ _ => m.toNat
  | .vst m _ _ _ _ _ => m.toNat
  | .vlds m _ _ _ _ _ => m.toNat
  | .vsts m _ _ _ _ _ => m.toNat
  | .atom m _ _ _ _ _ _ _ => m.toNat
  | .red m _ _ _ _ _ _ _ => m.toNat
  | .rst m _ _ _ _ _ => m.toNat
  | .ratom m _ _ _ _ _ _ => m.toNat
  | .xfer m _ _ _ _ => m.toNat
  | .xferx m _ _ _ _ => m.toNat
  | .emit m _ _ _ => m.toNat
  | .recin m _ _ => m.toNat
  | .viadd m _ _ _ _ => m.toNat
  | .visub m _ _ _ _ => m.toNat
  | .vimul m _ _ _ _ => m.toNat
  | .vimulh m _ _ _ _ => m.toNat
  | .vimad m _ _ _ _ => m.toNat
  | .vimin m _ _ _ _ => m.toNat
  | .vimax m _ _ _ _ => m.toNat
  | .vand m _ _ _ _ => m.toNat
  | .vor m _ _ _ _ => m.toNat
  | .vxor m _ _ _ _ => m.toNat
  | .vshl m _ _ _ _ => m.toNat
  | .vshr m _ _ _ _ => m.toNat
  | .vsar m _ _ _ _ => m.toNat
  | .vbfx m _ _ _ _ => m.toNat
  | .vbfi m _ _ _ _ => m.toNat
  | .vicmp m _ _ _ _ _ => m.toNat
  | .vmov m _ _ _ => m.toNat
  | .vbcast m _ _ _ => m.toNat
  | .vxadd m _ _ _ _ => m.toNat
  | .vxsub m _ _ _ _ => m.toNat
  | .vxmul m _ _ _ _ => m.toNat
  | .vxmulRz m _ _ _ _ => m.toNat
  | .vnot m _ _ _ => m.toNat
  | .vabsI32 m _ _ _ => m.toNat
  | .vpopc m _ _ _ => m.toNat
  | .vclz m _ _ _ => m.toNat
  | .laneid m _ _ => m.toNat
  | .vfclass m _ _ _ => m.toNat
  | .vfkey m _ _ _ _ => m.toNat
  | .vfrcp m _ _ _ => m.toNat
  | .vfrsq m _ _ _ => m.toNat
  | .vfex2 m _ _ _ => m.toNat
  | .vfexp m _ _ _ => m.toNat
  | .vflg2 m _ _ _ => m.toNat
  | .vfsin m _ _ _ => m.toNat
  | .vfcos m _ _ _ => m.toNat
  | .vabsF32 m _ _ _ => m.toNat
  | .vfcvt m _ _ _ _ => m.toNat
  | .vxcvt m _ _ _ _ => m.toNat
  | .vfadd m _ _ _ _ => m.toNat
  | .vfsub m _ _ _ _ => m.toNat
  | .vfmul m _ _ _ _ => m.toNat
  | .vffma m _ _ _ _ => m.toNat
  | .vfmin m _ _ _ _ => m.toNat
  | .vfmax m _ _ _ _ => m.toNat
  | .vfcmp m _ _ _ _ _ => m.toNat
  | .vhfma m _ _ _ _ => m.toNat
  | .vfaddDirected m _ _ _ _ _ => m.toNat
  | .vfsubDirected m _ _ _ _ _ => m.toNat
  | .vfmulDirected m _ _ _ _ _ => m.toNat
  | .vffmaDirected m _ _ _ _ _ => m.toNat
  | .vshfl m _ _ _ _ => m.toNat
  | .vshfx m _ _ _ _ => m.toNat
  | .vshfr m _ _ _ _ => m.toNat
  | .vballot m _ _ _ _ => m.toNat
  | .vvote m _ _ _ _ => m.toNat
  | .vlred m _ _ _ _ _ => m.toNat
  | .vscan m _ _ _ _ _ => m.toNat
  | _ => 0

/-- The stall count of an instruction (R72): 0 for a 16-bit form, an event or a command. -/
def Instr.stall : Instr → Nat
  | .nop st => st.toNat
  | .bra _ st => st.toNat
  | .bcc _ _ _ st => st.toNat
  | .call _ st => st.toNat
  | .ret _ st => st.toNat
  | .jmpr _ st => st.toNat
  | .ifm _ _ st => st.toNat
  | .els _ st => st.toNat
  | .endif st => st.toNat
  | .loop st => st.toNat
  | .brk _ st => st.toNat
  | .cont _ st => st.toNat
  | .endl _ st => st.toNat
  | .exitm _ st => st.toNat
  | .endw st => st.toNat
  | .run _ st => st.toNat
  | .runend _ _ _ st => st.toNat
  | .yield st => st.toNat
  | .sleepu _ st => st.toNat
  | .waitk _ st => st.toNat
  | .trap _ st => st.toNat
  | .eret st => st.toNat
  | .sigchk _ st => st.toNat
  | .scsr _ _ st => st.toNat
  | .scsw _ _ st => st.toNat
  | .scss _ _ st => st.toNat
  | .scsc _ _ st => st.toNat
  | .sadd _ _ _ st => st.toNat
  | .ssub _ _ _ st => st.toNat
  | .smul _ _ _ st => st.toNat
  | .smulh _ _ _ st => st.toNat
  | .sand _ _ _ st => st.toNat
  | .sor _ _ _ st => st.toNat
  | .sxor _ _ _ st => st.toNat
  | .sshl _ _ _ st => st.toNat
  | .sshr _ _ _ st => st.toNat
  | .ssar _ _ _ st => st.toNat
  | .smin _ _ _ st => st.toNat
  | .smax _ _ _ st => st.toNat
  | .snmin _ _ _ st => st.toNat
  | .snmax _ _ _ st => st.toNat
  | .sclz _ _ st => st.toNat
  | .spopc _ _ st => st.toNat
  | .sbfx _ _ _ st => st.toNat
  | .sbfi _ _ _ st => st.toNat
  | .smov _ _ st => st.toNat
  | .scmp _ _ _ _ st => st.toNat
  | .saddi _ _ st => st.toNat
  | .smovi _ _ st => st.toNat
  | .slui _ _ st => st.toNat
  | .sld _ _ _ st => st.toNat
  | .sst _ _ _ st => st.toNat
  | .bar st => st.toNat
  | .sbar st => st.toNat
  | .gbar st => st.toNat
  | .fence _ st => st.toNat
  | .qlock _ st => st.toNat
  | .qunlock _ st => st.toNat
  | .send _ _ _ st => st.toNat
  | .recv _ _ _ st => st.toNat
  | .abind _ _ st => st.toNat
  | .vld _ _ _ _ _ st => st.toNat
  | .vst _ _ _ _ _ st => st.toNat
  | .vlds _ _ _ _ _ st => st.toNat
  | .vsts _ _ _ _ _ st => st.toNat
  | .atom _ _ _ _ _ _ _ st => st.toNat
  | .red _ _ _ _ _ _ _ st => st.toNat
  | .wfence st => st.toNat
  | .rst _ _ _ _ _ st => st.toNat
  | .ratom _ _ _ _ _ _ st => st.toNat
  | .xfer _ _ _ _ st => st.toNat
  | .xferx _ _ _ _ st => st.toNat
  | .ftotal _ _ _ st => st.toNat
  | .fbind _ st => st.toNat
  | .fbindSeal _ st => st.toNat
  | .mxloop _ _ _ st => st.toNat
  | .cpy _ _ _ st => st.toNat
  | .bload _ _ _ st => st.toNat
  | .cbld _ _ _ st => st.toNat
  | .qfence _ _ _ st => st.toNat
  | .nwri _ _ _ st => st.toNat
  | .cpwait _ st => st.toNat
  | .emit _ _ _ st => st.toNat
  | .recin _ _ st => st.toNat
  | .mxmma _ _ _ _ st => st.toNat
  | .mxzero _ st => st.toNat
  | .mxldz _ _ st => st.toNat
  | .mxstz _ _ st => st.toNat
  | .mxrdz _ _ _ st => st.toNat
  | .mxchk _ _ _ st => st.toNat
  | .viadd _ _ _ _ st => st.toNat
  | .visub _ _ _ _ st => st.toNat
  | .vimul _ _ _ _ st => st.toNat
  | .vimulh _ _ _ _ st => st.toNat
  | .vimad _ _ _ _ st => st.toNat
  | .vimin _ _ _ _ st => st.toNat
  | .vimax _ _ _ _ st => st.toNat
  | .vand _ _ _ _ st => st.toNat
  | .vor _ _ _ _ st => st.toNat
  | .vxor _ _ _ _ st => st.toNat
  | .vshl _ _ _ _ st => st.toNat
  | .vshr _ _ _ _ st => st.toNat
  | .vsar _ _ _ _ st => st.toNat
  | .vbfx _ _ _ _ st => st.toNat
  | .vbfi _ _ _ _ st => st.toNat
  | .vicmp _ _ _ _ _ st => st.toNat
  | .vsel _ _ _ _ st => st.toNat
  | .vmov _ _ _ st => st.toNat
  | .vmovi _ _ st => st.toNat
  | .vbcast _ _ _ st => st.toNat
  | .vxadd _ _ _ _ st => st.toNat
  | .vxsub _ _ _ _ st => st.toNat
  | .vxmul _ _ _ _ st => st.toNat
  | .vxmulRz _ _ _ _ st => st.toNat
  | .vnot _ _ _ st => st.toNat
  | .vabsI32 _ _ _ st => st.toNat
  | .vpopc _ _ _ st => st.toNat
  | .vclz _ _ _ st => st.toNat
  | .laneid _ _ st => st.toNat
  | .vfclass _ _ _ st => st.toNat
  | .vfkey _ _ _ _ st => st.toNat
  | .vfrcp _ _ _ st => st.toNat
  | .vfrsq _ _ _ st => st.toNat
  | .vfex2 _ _ _ st => st.toNat
  | .vfexp _ _ _ st => st.toNat
  | .vflg2 _ _ _ st => st.toNat
  | .vfsin _ _ _ st => st.toNat
  | .vfcos _ _ _ st => st.toNat
  | .vabsF32 _ _ _ st => st.toNat
  | .vfcvt _ _ _ _ st => st.toNat
  | .vxcvt _ _ _ _ st => st.toNat
  | .vfadd _ _ _ _ st => st.toNat
  | .vfsub _ _ _ _ st => st.toNat
  | .vfmul _ _ _ _ st => st.toNat
  | .vffma _ _ _ _ st => st.toNat
  | .vfmin _ _ _ _ st => st.toNat
  | .vfmax _ _ _ _ st => st.toNat
  | .vfcmp _ _ _ _ _ st => st.toNat
  | .vhfma _ _ _ _ st => st.toNat
  | .vfaddDirected _ _ _ _ _ st => st.toNat
  | .vfsubDirected _ _ _ _ _ st => st.toNat
  | .vfmulDirected _ _ _ _ _ st => st.toNat
  | .vffmaDirected _ _ _ _ _ st => st.toNat
  | .vshfl _ _ _ _ st => st.toNat
  | .vshfx _ _ _ _ st => st.toNat
  | .vshfr _ _ _ _ st => st.toNat
  | .vballot _ _ _ _ st => st.toNat
  | .vvote _ _ _ _ st => st.toNat
  | .vlred _ _ _ _ _ st => st.toNat
  | .vscan _ _ _ _ _ st => st.toNat
  | .vrdlane _ _ _ st => st.toNat
  | .vwrlane _ _ _ st => st.toNat
  | .mset _ _ st => st.toNat
  | .mget _ _ st => st.toNat
  | .mlog _ _ _ _ st => st.toNat
  | .mpopc _ _ st => st.toNat
  | _ => 0

/-- Instructions that raise ILLOP at supervisor level (R288). -/
def Instr.userOnly : Instr → Bool
  | .run _ _ => true
  | .exitm _ _ => true
  | .bar _ => true
  | .sbar _ => true
  | .gbar _ => true
  | _ => false

/-- The registers that RUNEND names (R71). -/
def Instr.trailer : Instr → List RegId
  | .runend z y x _ => [z.toNat, y.toNat, x.toNat].filterMap (fun d =>
      if d < 32 then some (.s d) else if 64 ≤ d ∧ d < 127 then some (.v (d - 64)) else none)
  | _ => []

/-- The kinds of access that a level grants to a CSR: reading, and writing (R105). -/
def csrGranted (level : Level) (write : Bool) (n : Nat) : Bool :=
  if n ≤ 3 ∨ n = 0x010 ∨ n = 0x011 ∨ n = 0x200 then !write
  else if n = 0x020 ∨ n = 0x021 ∨ n = 0x030 ∨ n = 0x031 ∨ n = 0x040 then true
  else if n = 0x050 ∨ n = 0x051 ∨ (0x100 ≤ n ∧ n ≤ 0x13F) then level == .supervisor
  else false

/-- Whether a CSR instruction's access is granted (R105, R327); true of every other instruction. -/
def Instr.csrOk (level : Level) : Instr → Bool
  | .scsr c _ _ => csrGranted level false c.toNat
  | .scsw c _ _ => csrGranted level true c.toNat
  | .scss c _ _ => csrGranted level true c.toNat
  | .scsc c _ _ => csrGranted level true c.toNat
  | _ => true

/-- Whether an instruction keeps the framing rules of a run at a wave's position in its run (R70, R321). -/
def Instr.framed (i : Instr) (run : Option RunState) : Bool :=
  match i, run with
  | .runend _ _ _ _, some r => r.left == 0
  | .runend _ _ _ _, none => false
  | _, some r => r.left != 0 && !i.control
  | _, none => true

/-- Whether a wave accepts a vector register field: v below the register count, e inside a run only (R93). -/
def Machine.Wave.accepts (w : Wave) (r : Nat) : Bool := decide (r < w.regs) || (decide (56 ≤ r) && w.run.isSome)

/-- The ILLOP conditions of R107 that every instruction shares. -/
def illegal (i : Instr) (w : Wave) : Bool :=
  !i.wellFormed || !i.framed w.run || !i.vectors.all w.accepts || !i.group.all (fun r => decide (r < w.regs)) ||
  (w.level == .supervisor && i.userOnly) || !i.csrOk w.level

/-! ### Reading registers (R62, R72 to R74) -/

/-- The oldest result of a register that is not yet readable at the wave's issue cycle. -/
def Machine.Wave.pending (w : Wave) (r : RegId) : Option Pend := w.pend.find? (fun e => e.reg == r && decide (w.now < e.due))

/-- What a scalar register reads as: its value, or the value before a result that is not ready (R74). -/
def Machine.Wave.sval (w : Wave) (r : Nat) : Word64 :=
  match w.pending (.s r) with
  | some e => sget e.old 0
  | none => sget w.s r

/-- What a vector element reads as (R74); registers 56 to 63 are e0 to e7. -/
def Machine.Wave.vval (w : Wave) (r l : Nat) : Word32 :=
  match w.pending (.v r) with
  | some e => (sget e.old l).setWidth 32
  | none => sget w.v (64 * r + l)

/-- What a mask register reads as; m0 reads as the active mask (R62). -/
def Machine.Wave.mval (w : Wave) (k : Nat) : Word64 :=
  if k = 0 then w.active
  else
    match w.pending (.m k) with
    | some e => sget e.old 0
    | none => sget w.m k

/-- active(M): the active mask ANDed with the named mask (R93). -/
def Machine.Wave.lanes (w : Wave) (k : Nat) : Word64 := w.active &&& w.mval k

/-! ### Writing registers -/

/-- The cycle at which a result written now becomes readable: not before an older result of the same register, since
results are written in program order (R73). -/
def Machine.Wave.dueAt (w : Wave) (r : RegId) (wait : Nat) : Nat :=
  (w.pend.filter (fun e => e.reg == r)).foldl (fun d e => max d e.due) (w.now + wait)

/-- Which elements of a register are poisoned, by lane; index 0 for another register (R264). -/
def Machine.Wave.poisonAt (w : Wave) : RegId → Sparse 1
  | .s n => sset [] 0 (sget w.poisonS n)
  | .m n => sset [] 0 (sget w.poisonM n)
  | .a n => sset [] 0 (sget w.poisonA n)
  | .v n => (w.poisonV.filter (fun e => decide (64 * n ≤ e.1) && decide (e.1 < 64 * n + 64))).map (fun e => (e.1 - 64 * n, e.2))
  | _ => []

/-- Note a result that becomes readable `wait` cycles after the issue cycle (R72, R73), with the value and the poison that the
register has until then. A result that is readable at once, as a fused sequence forwards it, is what readers get from then on,
whatever older result was to come (R73, R132). -/
def Machine.Wave.note (w : Wave) (r : RegId) (old : Sparse 64) (wait : Nat) (held : Bool) : Wave :=
  if wait = 0 then { w with pend := w.pend.filter (fun e => e.reg != r) }
  else { w with pend := w.pend ++ [⟨r, w.dueAt r wait, old, held, w.poisonAt r⟩] }

/-- Write a scalar register; its poison ends (R271). -/
def Machine.Wave.putS (w : Wave) (r : Nat) (x : Word64) (wait : Nat) (held : Bool) : Wave :=
  { w.note (.s r) (sset [] 0 (sget w.s r)) wait held with s := sset w.s r x, poisonS := serase w.poisonS r }

/-- Write a mask register m1 to m7. -/
def Machine.Wave.putM (w : Wave) (k : Nat) (x : Word64) (wait : Nat) (held : Bool) : Wave :=
  { w.note (.m k) (sset [] 0 (sget w.m k)) wait held with m := sset w.m k x, poisonM := serase w.poisonM k }

/-- The 64 elements of a vector register as an array by lane. -/
def Machine.Wave.elements (w : Wave) (r : Nat) : Sparse 64 :=
  (w.v.filter (fun e => decide (64 * r ≤ e.1) && decide (e.1 < 64 * r + 64))).map
    (fun e => (e.1 - 64 * r, e.2.setWidth 64))

/-- Write the lanes of a mask of a vector register; the poison of those elements ends (R271). With no lane in the mask
nothing is written (R333). -/
def Machine.Wave.putV (w : Wave) (r : Nat) (mask : Word64) (f : Nat → Word32) (wait : Nat) (held : Bool) : Wave :=
  if mask = 0 then w
  else
    { w.note (.v r) (w.elements r) wait held with
        v := ssetAll w.v (fun j => f (j - 64 * r)) ((lanesOf mask).map (fun l => 64 * r + l)),
        poisonV := if w.poisonV.isEmpty then w.poisonV
                   else (lanesOf mask).foldl (fun p l => serase p (64 * r + l)) w.poisonV }

/-! ### Consumption (R270) -/

/-- The lanes of each vector register whose elements an instruction reads for its result (R270): those of active(M),
but every lane for the fragment of MXMMA, the source lanes of a shuffle or VRDLANE, and the selected source of VSEL. What
XFER and XFERX read they consume at their act, behind its other traps (R210). -/
def Instr.readLanes (i : Instr) (w : Wave) : List (Nat × Word64) :=
  let active := w.lanes i.maskField
  let sources (a b : Nat) (f : Nat → Nat → Nat) : List (Nat × Word64) :=
    [(a, maskOf ((lanesOf active).map (fun l => f l (w.vval b l).toNat % 64))), (b, active)]
  match i with
  | .vshfl _ b a _ _ => sources a.toNat b.toNat (fun _ x => x)
  | .vshfx _ b a _ _ => sources a.toNat b.toNat (fun l x => l ^^^ (x % 64))
  | .vshfr _ b a _ _ => sources a.toNat b.toNat (fun l x => l + x)
  | .vrdlane n a _ _ => [(a.toNat, 1#64 <<< n.toNat)]
  | .vsel m b a _ _ => [(a.toNat, w.active &&& w.mval m.toNat), (b.toNat, w.active &&& ~~~w.mval m.toNat)]
  | .mxmma _ _ a _ _ => (List.range 8).map (fun j => (a.toNat + j, BitVec.allOnes 64))
  | .xfer _ _ _ _ _ => []
  | .xferx _ _ _ _ _ => []
  | _ => i.reads.filterMap (fun r => match r with | .v n => some (n, active) | _ => none)

/-- Whether what a vector element reads as is poisoned: while a result is not readable, what the register held before it (R74,
R264). -/
def Machine.Wave.badLane (w : Wave) (r l : Nat) : Bool :=
  match w.pending (.v r) with
  | some e => sget e.bad l != 0
  | none => sget w.poisonV (64 * r + l) != 0

/-- The lanes of a mask in which a vector register reads as poisoned. -/
def Machine.Wave.poisonedLanes (w : Wave) (r : Nat) (mask : Word64) : Word64 :=
  maskOf ((lanesOf mask).filter (w.badLane r))

/-- Whether a register other than a vector register is poisoned (R264). -/
def Machine.Wave.poisoned (w : Wave) (r : RegId) : Bool :=
  match r with
  | .s n => sget w.poisonS n != 0
  | .m n => sget w.poisonM n != 0
  | .a n => sget w.poisonA n != 0
  | .csr n => sget w.poisonC n != 0
  | _ => false

/-- Whether what a register other than a vector register reads as is poisoned (R74, R264). -/
def Machine.Wave.tainted (w : Wave) (r : RegId) : Bool :=
  match w.pending r with
  | some e => sget e.bad 0 != 0
  | none => w.poisoned r

/-- The registers other than vector registers whose poison an instruction consumes before it acts (R270): XFER and XFERX
consume their mask and a15 behind the checks of their traps (R210), and SIGCHK does not read SIG while SIGCTL.EN is 0 (R109). -/
def Instr.firstReads (i : Instr) (w : Wave) : List RegId :=
  match i with
  | .xfer _ _ _ _ _ => [.csr 0x200]
  | .xferx _ _ _ _ _ => [.csr 0x200]
  | .sigchk _ _ => if w.sigctl.getLsbD 0 then [.csr 0x030, .csr 0x031] else [.csr 0x031]
  | _ => i.reads

/-- The poison an instruction consumes from registers: the unit kind of R267 and the consuming lanes (R270). -/
def Instr.consumed (i : Instr) (w : Wave) : Option (Nat × Word64) :=
  if w.poisonV.isEmpty && w.poisonS.isEmpty && w.poisonM.isEmpty && w.poisonA.isEmpty && w.poisonC.isEmpty &&
      w.pend.all (fun e => e.bad.isEmpty) then none
  else
    let lanes := (i.readLanes w).foldl (fun acc e => acc ||| w.poisonedLanes e.1 e.2) 0
    if lanes ≠ 0 then some (0, lanes)
    else if (i.firstReads w).any w.tainted then some (1, 0)
    else none

/-! ### The scoreboard (R72 to R75) -/

/-- The first source of an instruction that has a fixed-latency result not ready (R74). -/
def Instr.shortSource (i : Instr) (w : Wave) : Option RegId :=
  i.reads.find? (fun r => match w.pending r with | some e => !e.interlocked | none => false)

/-- The number of a source in the detail of STALL_SHORT (R336). -/
def Machine.RegId.designator : RegId → Nat
  | .s r => r
  | .v r => 0x40 + r
  | .m r => 0x80 + r
  | _ => 0

/-- Instructions that wait until the wave's earlier accesses are performed: fences, barriers and other releases, and END (R165 to
R167, R299). -/
def Instr.settles : Instr → Bool
  | .fence _ _ => true
  | .bar _ => true
  | .sbar _ => true
  | .gbar _ => true
  | .send _ _ _ _ => true
  | .qunlock _ _ => true
  | .endw _ => true
  | .atom _ r _ _ _ _ _ _ => r.getLsbD 1
  | .red _ r _ _ _ _ _ _ => r.getLsbD 1
  | .mxloop _ _ _ _ => true
  | .cpy _ _ _ _ => true
  | .bload _ _ _ _ => true
  | .cbld _ _ _ _ => true
  | .nwri _ _ _ _ => true
  | _ => false

/-- The cycle before which an instruction may not issue, for the interlocked results that it reads or writes and those
that an older RUNEND awaits (R71, R73), and for the accesses that it waits for. -/
def Instr.interlock (i : Instr) (w : Wave) : Nat :=
  max (if i.settles then w.performed else 0) <| (w.pend.filter (fun e => e.interlocked && (i.reads.contains e.reg || i.writes.contains e.reg))).foldl
    (fun t e => max t e.due) 0

end Sys2Proof
end

