-- ==== Sys2Proof/Config.lean ====
section
/-!
DEFINITION. What an implementation fixes and what the manual leaves open: constants without a body, so that
nothing proved of the model rests on a value of theirs. Each is named in the assumption log.
-/

namespace Sys2Proof.Config

/-- A byte the manual gives no value: the contents of a line that KEY_CLEAR discarded (R144, R281). The argument is
State's counter of free values (log 5). -/
opaque freeByte : Nat → Byte

/-- AES-256-XTS encryption of one 32-byte sector under a key slot's material (R281): named by the manual, defined
by a standard outside it (log 6). Arguments: key material, tweak PA[51:5], plaintext. -/
opaque xtsEncrypt : List Byte → Nat → List Byte → List Byte
/-- AES-256-XTS decryption of one 32-byte sector (R281, log 6). -/
opaque xtsDecrypt : List Byte → Nat → List Byte → List Byte
/-- SHA-384 of a list of bytes (R30, R286, log 6). -/
opaque sha384 : List Byte → List Byte
/-- Whether an ML-DSA-87 signature (key, message, signature) verifies (R30, log 6). -/
opaque mlDsaVerifies : List Byte → List Byte → List Byte → Bool
/-- Whether an ECDSA P-384 signature (key, message, signature) verifies (R30, log 6). -/
opaque ecdsaVerifies : List Byte → List Byte → List Byte → Bool
/-- The device attestation key's ML-DSA-87 signature of a receipt (R282, log 6). -/
opaque mlDsaSign : List Byte → List Byte
/-- The device attestation key's ECDSA P-384 signature of a receipt (R282, log 6). -/
opaque ecdsaSign : List Byte → List Byte

/-- How far beyond the CYC at acceptance a queue's estimate lies (R380: at least the CYC at acceptance; how it is
formed is left to the implementation; log 7). -/
opaque estimateAhead : Nat → Nat
/-- How far beyond the present CYC the new estimate of COPY_LATE lies, less one (R380; log 7). -/
opaque lateAhead : Nat → Nat

/-- A figure of an engine's status record for which the manual gives no value: the first failing VA where none is at
fault, and what a status that is no longer kept would have held (R190; log 16). -/
opaque engineFigure : Nat → Nat

/-- The HBM stack, modulo 12, that holds a physical address (R11: the address is hashed across the stacks; no
formula is given; log 9). -/
opaque hbmStack : Nat → Nat

/-- VLD.e of an FP8 element whose value, with its block scale, lies beyond FP32 (R120 calls the load exact; log 13).
Arguments: the scale byte, the element's code. -/
opaque wideElement : Nat → Nat → BitVec 32

/-- The 16 bytes in which a log entry of a level monitor holds SOURCE, BASE and SHIFT (R286 names the three and gives
no places; log 8). -/
opaque levelWords : Nat → Nat → Nat → List Byte

/-- The spare rows of an HBM stack that RETIRE can still use, given the rows already retired (R277 gives no count;
log 17). Arguments: the rows retired, the row to retire. -/
opaque spareRow : List Nat → Nat → Bool

/-- What TRAPVEC and TRAPFRAME start from where the trap record of a context cannot be read (R261 requires it to be
mapped; log 18). -/
opaque trapRecord : Nat → BitVec 64

/-- The IPv6 flow label of a flow's packets, modulo 2^20: a hash of the flow (R239 gives no formula; log 86). The argument is the
flow's addresses and UDP ports. -/
opaque flowLabel : List Nat → Nat

/-- The device attestation key's ML-DSA-87 public key, 2,592 bytes, as the receipt store holds it (R282, log 6). -/
opaque attestMlDsa : List Byte
/-- Its ECDSA P-384 public key, 96 bytes (R282, log 6). -/
opaque attestEcdsa : List Byte

/-- Which line leaves a full bank of the bank array, as its place among the lines that the bank holds (R144 fixes no policy; log
76). The argument is the numbers of those lines. -/
opaque victim : List Nat → Nat

/-- How many bytes the argument block at an address has: the front end reads and retains them, and the manual gives the block no length
(R252; log 19). -/
opaque argumentLength : BitVec 64 → Nat

end Sys2Proof.Config
end

