-- ==== Sys2Proof/Machine/Monitor.lean ====
section
/-!
DEFINITION. Access monitors, level monitors and the protected log of a partition (R284 to R286).
-/

namespace Sys2Proof.Machine

/-- Change a partition, if the device has a record of it. -/
def setPart (s : State) (p : Nat) (f : Partition → Partition) : State := { s with parts := tmod s.parts p f }

/-- A list of bytes cut or filled with zeros to a length. -/
def fitBytes (n : Nat) (bs : List Byte) : List Byte := (bs ++ List.replicate n 0).take n

/-- The bytes 0 to 95 of a log entry (R286); `reason` is 0 periodic, 1 disable, 2 saturation. -/
def logBytes (seq m reason cyc : Nat) (d : MonitorState) : List Byte :=
  let count (k : Nat) : Nat := tgetD d.counts k 0
  match d.fields with
  | .disable => List.replicate 96 0
  | .range base length ctx =>
    leSplit 4 seq ++ leSplit 1 m ++
    leSplit 3 (match ctx with | some c => c % 16 + reason * 2 ^ 8 | none => 2 ^ 4 + reason * 2 ^ 8) ++
    leSplit 8 base ++ leSplit 8 length ++ leSplit 8 d.first ++ leSplit 8 d.last ++
    (List.range 12).flatMap (fun k => leSplit 4 (count k)) ++ leSplit 8 cyc
  | .level source base shift =>
    leSplit 4 seq ++ leSplit 1 m ++ leSplit 3 (reason * 2 ^ 8) ++
    fitBytes 16 (Config.levelWords source base shift) ++ leSplit 8 d.first ++ leSplit 8 d.last ++
    leSplit 8 (count 0) ++ (List.range 16).flatMap (fun k => leSplit 2 (count (k + 1))) ++
    List.replicate 8 0 ++ leSplit 8 cyc

/-- Append an entry of monitor `m` to the protected log, chained to the one before, in a ring of 65,536 (R286). -/
def appendLog (cyc m reason : Nat) (p : Partition) : Partition :=
  match tget p.monitors m with
  | none => p
  | some d =>
    let body := logBytes p.logSeq m reason cyc d
    let chain := fitBytes 16 (Config.sha384 (p.chain ++ body))
    let entry := body ++ chain ++ List.replicate 16 0
    let log := p.log ++ [entry]
    { p with log := log.drop (log.length - 65536), logSeq := (p.logSeq + 1) % 2 ^ 32, chain := chain,
             monitors := tset p.monitors m { d with changed := false } }

/-- The largest value of a saturating 32-bit count (R284). -/
abbrev countMax : Nat := 2 ^ 32 - 1

/-- Count one access in one monitor, if a VA of it and its context fall in the monitor's range (R284): kind 0 read,
1 write, 2 transfer; source 0 wave, 1 engine, 2 fabric, 3 network. -/
def countOne (cyc ctx : Nat) (vas : List Nat) (source kind : Nat) (p : Partition) (m : Nat) : Partition :=
  match tget p.monitors m with
  | some d =>
    match d.fields with
    | .range base length only =>
      if vas.any (fun va => decide (base ≤ va) && decide (va < base + length)) ∧ (only = none ∨ only = some ctx) then
        let k := 3 * source + kind
        let n := tgetD d.counts k 0
        let fresh := d.counts.all (fun e => e.2 == 0)
        let d' := { d with counts := tset d.counts k (min countMax (n + 1)),
                           first := if fresh then cyc else d.first, last := cyc, changed := true }
        let p := { p with monitors := tset p.monitors m d' }
        if n + 1 = countMax then appendLog cyc m 2 p else p
      else p
    | _ => p
  | none => p

/-- Count one access, which names some VAs, once in every monitor of its partition (R284). -/
def countAny (s : State) (part ctx : Nat) (vas : List Nat) (source kind : Nat) : State :=
  match tget s.parts part with
  | none => s
  | some p =>
    if p.monitors.isEmpty then s
    else { s with parts := tset s.parts part
                    ((p.monitors.map (·.1)).foldl (countOne s.cyc ctx vas source kind) p) }

/-- Count one access at one VA (R284). -/
def countAccess (s : State) (part ctx va source kind : Nat) : State := countAny s part ctx [va] source kind

/-- The bin of a sample: min(15, max(0, (x - BASE) >> SHIFT)) (R285). -/
def levelBin (x base shift : Nat) : Nat := min 15 ((x - base) / 2 ^ shift)

/-- The largest value of a level monitor's COUNT, and of one of its bins (R286). -/
abbrev levelMax : Nat := 2 ^ 64 - 1
/-- The largest value of a bin (R286). -/
abbrev binMax : Nat := 2 ^ 16 - 1

/-- Add a sample to a level monitor (R285): MIN and MAX, COUNT (count 0) and the bins (counts 1 to 16). -/
def sampleLevel (x : Nat) (d : MonitorState) : MonitorState :=
  match d.fields with
  | .level _ base shift =>
    let k := levelBin x base shift + 1
    let n := tgetD d.counts 0 0
    { d with counts := tset (tset d.counts 0 (min levelMax (n + 1))) k (min binMax (tgetD d.counts k 0 + 1)),
             first := if n = 0 then x else min d.first x, last := if n = 0 then x else max d.last x,
             changed := true }
  | _ => d

/-- Whether a sample makes COUNT or its bin saturate (R286). -/
def sampleSaturates (x : Nat) (d : MonitorState) : Bool :=
  match d.fields with
  | .level _ base shift =>
    tgetD d.counts 0 0 + 1 == levelMax || tgetD d.counts (levelBin x base shift + 1) 0 + 1 == binMax
  | _ => false

/-- Add a sample to one level monitor of a partition; a count that saturates appends an entry (R285, R286). -/
def sampleMonitor (cyc m x : Nat) (p : Partition) : Partition :=
  match tget p.monitors m with
  | some d =>
    let p := { p with monitors := tset p.monitors m (sampleLevel x d) }
    if sampleSaturates x d then appendLog cyc m 2 p else p
  | none => p

/-- Whether a monitor samples a source (R285). -/
def MonitorState.samples (d : MonitorState) (source : Nat) : Bool :=
  match d.fields with
  | .level src _ _ => src == source
  | _ => false

/-- Add a sample to every level monitor of a partition that has the source (R285). -/
def sampleSource (s : State) (part source x : Nat) : State :=
  setPart s part (fun p =>
    ((p.monitors.filter (fun e => e.2.samples source)).map (·.1)).foldl (fun p m => sampleMonitor s.cyc m x p) p)

end Sys2Proof.Machine
end

