-- ==== Sys2Proof/Machine/Access.lean ====
section
/-!
DEFINITION. Physical memory under its keys, page tables, and the checks of an access (R139 to R155, R202, R212,
R230, R281).
-/

namespace Sys2Proof.Machine

/-- What a step answers. -/
abbrev Result := Host.Outcome State Fault Refusal

/-! ### Bytes of physical memory under key slots (R144, R281) -/

/-- Whether a physical address is backed: HBM, or a device register from 2^51 up (R140). -/
def backed (pa : Nat) : Bool := decide (pa < 0x9000000000) || decide (2 ^ 51 ≤ pa)

/-- The key id under which the 128-byte line of an address is held (R144). -/
def lineTag (s : State) (pa : Nat) : Nat := (sget s.lineKey (pa / 128)).toNat

/-- The material of a key slot (R281). -/
def keyBytes (s : State) (k : Nat) : List Byte := tgetD s.keys k []

/-- A sector as the device writes it back under a key; key 0 is plaintext (R281). -/
def sealSector (s : State) (k sector : Nat) (bs : List Byte) : List Byte :=
  if k = 0 then bs else fitBytes 32 (Config.xtsEncrypt (keyBytes s k) sector bs)

/-- A sector as the device refills it under a key (R281). -/
def openSector (s : State) (k sector : Nat) (bs : List Byte) : List Byte :=
  if k = 0 then bs else fitBytes 32 (Config.xtsDecrypt (keyBytes s k) sector bs)

/-- The 32 bytes of a sector as an access under key `k` reads them (R144). -/
def sectorUnder (s : State) (k sector : Nat) : List Byte :=
  let raw := sgetFrom s.mem (sector * 32) 32
  let tag := lineTag s (sector * 32)
  if tag = k then raw else openSector s k sector (sealSector s tag sector raw)

/-- The byte at a physical address as an access under key `k` reads it (R144). -/
def memByte (s : State) (k pa : Nat) : Byte :=
  if lineTag s pa = k then sget s.mem pa else (sectorUnder s k (pa / 32)).getD (pa % 32) 0

/-- Bring the line of an address under a key: its bytes as that key reads them, and its tag (R144). -/
def rekeyLine (s : State) (k pa : Nat) : State :=
  if lineTag s pa = k then s
  else
    let line := pa / 128
    let bytes := (List.range 4).flatMap (fun j => sectorUnder s k (line * 4 + j))
    { s with mem := ssetFrom s.mem (line * 128) bytes,
             lineKey := sset s.lineKey line (BitVec.ofNat 12 k) }

/-- Write one byte under a key. -/
def putByte (s : State) (k pa : Nat) (b : Byte) : State :=
  let s := rekeyLine s k pa
  { s with mem := sset s.mem pa b }

/-- Write bytes, each at its own address, in the order of the list (R157). -/
def putBytes (s : State) (k : Nat) : List (Nat × Byte) → State
  | [] => s
  | (pa, b) :: rest => putBytes (putByte s k pa b) k rest

/-- End the poison of every sector of which one write covers all 32 bytes (R271). -/
def clearCovered (s : State) (pas : List Nat) : State :=
  if s.poison.isEmpty then s
  else { s with poison := s.poison.filter (fun e =>
    !((List.range 32).all (fun j => pas.contains (e.1 * 32 + j)))) }

/-- Whether the sector of a physical address is poisoned (R264). -/
def sectorPoisoned (s : State) (pa : Nat) : Bool := sget s.poison (pa / 32) != 0

/-! ### Page tables (R145 to R150) -/

/-- KEYID of a leaf (R146). -/
def Leaf.key (l : Leaf) : Nat := field l.attr0 52 12
/-- PCLS: 0 ordinary, 1 conserved, 2 transmit window, 3 receive window, 4 reply window, 5 code (R146). -/
def Leaf.cls (l : Leaf) : Nat := field l.attr0 6 3
/-- MT: 0 normal, 1 write-combining, 2 device, 3 strongly ordered (R146). -/
def Leaf.mt (l : Leaf) : Nat := field l.attr0 4 2
/-- WR (R146). -/
def Leaf.wr (l : Leaf) : Bool := field l.attr0 3 1 != 0
/-- RD (R146). -/
def Leaf.rd (l : Leaf) : Bool := field l.attr0 2 1 != 0
/-- DOMID (R147). -/
def Leaf.domid (l : Leaf) : Nat := field l.attr1 13 6
/-- SWZ (R147). -/
def Leaf.swz (l : Leaf) : Nat := field l.attr1 9 4
/-- CB (R147). -/
def Leaf.cb (l : Leaf) : Nat := field l.attr1 7 2
/-- BGEO (R147). -/
def Leaf.bgeo (l : Leaf) : Nat := field l.attr1 4 3
/-- EFMT: 0 none, 1 BF16, 2 FP16, 3 FP8E4M3, 4 FP8E5M2, 5 INT8, 6 N8, 7 LQ2 (R147). -/
def Leaf.efmt (l : Leaf) : Nat := field l.attr1 0 4

/-- The swizzle of a byte offset within a page (R150). -/
def swizzle (swz o : Nat) : Nat :=
  if swz = 0 then o
  else if swz ≤ 7 then
    o - field o 4 3 * 2 ^ 4 + (field o 4 3 ^^^ field o (swz + 7) 3) * 2 ^ 4
  else
    o - field o 7 3 * 2 ^ 7 + (field o 7 3 ^^^ field o (swz + 2) 3) * 2 ^ 7

/-- The physical address of a virtual address in a page (R150). -/
def Leaf.pa (l : Leaf) (va : Nat) : Nat := l.frame + swizzle l.swz (va % l.size)

/-- The number of offset bits of a page whose leaf stands at a level (R145). -/
def pageBits (level : Nat) : Nat := 15 + 11 * level

/-- The index into the table of a level (R145). -/
def tableIndex (level va : Nat) : Nat := field va (pageBits level) (if level = 3 then 8 else 11)

/-- A word of a page-table entry; tables are read in plaintext, and hardware never writes them (R145). -/
def tableWord (s : State) (pa : Nat) : Nat := leValue ((List.range 8).map (fun j => memByte s 0 (pa + j)))

/-- Whether a leaf entry at a level is malformed (R148). The model's choice: a page that begins in backed PA space and ends
outside it is malformed too (log 77). -/
def leafMalformed (level w0 w1 : Nat) : Bool :=
  let frame := field w0 15 37 * 2 ^ 15
  let size := 2 ^ pageBits level
  let l : Leaf := ⟨frame, size, w0, w1⟩
  decide (level = 3) || field w0 11 4 != 0 || decide (l.cls > 5) || field w1 19 45 != 0 ||
  decide (l.bgeo > 1) || decide (l.efmt > 7) || field w0 9 2 != level ||
  !(backed frame && backed (frame + size - 1)) || frame % size != 0 ||
  (l.efmt != 0 && (l.cls != 0 || l.mt != 0)) ||
  (l.efmt == 7 && l.bgeo == 0) ||
  (l.bgeo == 1 && l.efmt != 3 && l.efmt != 4 && l.efmt != 7) ||
  (l.cls == 5 && l.wr) || (l.domid != 0 && l.cls != 1) ||
  (l.swz != 0 && decide (pageBits level ≤ (if l.swz ≤ 7 then l.swz + 9 else l.swz + 4)))

/-- Whether a valid non-leaf entry at a level is malformed (R146, R148). The model's choice: word 1 of a non-leaf entry, to
which the manual gives no layout, is ignored (log 77). -/
def tableMalformed (level w0 : Nat) : Bool :=
  decide (level = 0) || field w0 52 12 != 0 || field w0 2 13 != 0 || !backed (field w0 15 37 * 2 ^ 15)

/-- How a walk ends: `poison` at an entry in a poisoned sector, which is not used as if it were good (R264). -/
inductive Walk where
  | leaf (l : Leaf)
  | absent
  | malformed
  | poison (pa : Nat)
  | device (pa : Nat)
  deriving DecidableEq, Repr

/-- The walk from the table of a level down (R145). -/
def walkFrom (s : State) (va : Nat) : Nat → Nat → Walk
  | level, table =>
    let at_ := table + 16 * tableIndex level va
    if 2 ^ 51 ≤ at_ then .device at_
    else if sectorPoisoned s at_ then .poison at_
    else
      let w0 := tableWord s at_
      if field w0 0 1 = 0 then .absent
      else if field w0 1 1 = 1 then
        let w1 := tableWord s (at_ + 8)
        if leafMalformed level w0 w1 then .malformed
        else .leaf ⟨field w0 15 37 * 2 ^ 15, 2 ^ pageBits level, w0, w1⟩
      else if tableMalformed level w0 then .malformed
      else
        match level with
        | 0 => .malformed
        | below + 1 => walkFrom s va below (field w0 15 37 * 2 ^ 15)

/-- The addresses of the entries that a walk from the table of a level down reads (R145). -/
def walkEntriesFrom (s : State) (va : Nat) : Nat → Nat → List Nat
  | level, table =>
    let at_ := table + 16 * tableIndex level va
    let w0 := tableWord s at_
    if 2 ^ 51 ≤ at_ || sectorPoisoned s at_ || field w0 0 1 == 0 || field w0 1 1 == 1 || tableMalformed level w0 then [at_]
    else
      match level with
      | 0 => [at_]
      | below + 1 => at_ :: walkEntriesFrom s va below (field w0 15 37 * 2 ^ 15)

/-- The page-table root of an open context (R250). -/
def rootOf (s : State) (part ctx : Nat) : Option Nat :=
  match tget s.parts part with
  | some p => (tget p.ctxs ctx).map (·.root)
  | none => none

/-- The addresses of the entries that the walk of a virtual address reads (R145). -/
def walkEntries (s : State) (part ctx va : Nat) : List Nat :=
  if 2 ^ 56 ≤ va then []
  else match rootOf s part ctx with | some root => walkEntriesFrom s va 3 root | none => []

/-- The walk of a canonical virtual address in a context (R145). A context that is not open maps nothing. -/
def walk (s : State) (part ctx va : Nat) : Walk :=
  match rootOf s part ctx with
  | some root => walkFrom s va 3 root
  | none => .absent

/-! ### The checks of an access (R155) -/

/-- The causes of R155 in their order, and last the model's own: what translates the access, or the code fetched, is
poisoned; the access is permitted and reaches a device register. -/
inductive Cause where
  | align | address | notPresent | malformed | key | conserved | cls | perm | type | format
  | poison (pa : Nat)
  | device (pa : Nat)
  deriving DecidableEq, Repr

/-- The number of a cause in a PAGE_FAULT frame and in a PAGE_REQUEST (R336, R251). -/
def Cause.code : Cause → Nat
  | .address => 1 | .notPresent => 2 | .malformed => 3 | .key => 4 | .cls => 5 | .perm => 6 | .type => 7
  | .format => 8 | .align => 0 | .conserved => 0 | .poison _ => 0 | .device _ => 0

/-- The category of a cause: 1 ALIGN, 2 unresolvable or CONSERVED_STORE, 3 resolvable, 4 poison and the
device register (R155). -/
def Cause.category : Cause → Nat
  | .align => 1
  | .notPresent => 3
  | .perm => 3
  | .poison _ => 4
  | .device _ => 4
  | _ => 2

/-- What an access is, for its checks (R155); `lock` is the atomic access of QLOCK and QUNLOCK (R312). -/
inductive AccessKind where
  | load | store | atomic | lock | fetch
  deriving DecidableEq, Repr

/-- Whether a kind of access writes. -/
def AccessKind.writes : AccessKind → Bool
  | .store => true
  | .atomic => true
  | .lock => true
  | _ => false

/-- Whether a kind of access is an atomic one (R155, R312). -/
def AccessKind.atomicLike : AccessKind → Bool
  | .atomic => true
  | .lock => true
  | _ => false

/-- Whether a key id may be used by a partition: key 0, or a granted slot that holds material (R155, R281). -/
def keyUsable (s : State) (part k : Nat) : Bool :=
  k == 0 || ((match tget s.parts part with | some p => p.grants.contains k | none => false) &&
             (tget s.keys k).isSome)

/-- Whether the frame of a physical address is marked as conserved (R202). -/
def marked (s : State) (pa : Nat) : Bool := (tget s.marks (pa / 2 ^ 15)).isSome

/-- The valid transmit-window entry whose range holds a virtual address (R230). -/
def windowOf (s : State) (part va : Nat) : Option (Nat × EntryWords) :=
  match tget s.parts part with
  | some p => p.txwin.find? (fun e =>
      field e.2.w0.toNat 0 1 == 1 && decide (e.2.w1.toNat ≤ va) && decide (va < e.2.w1.toNat + e.2.w2.toNat))
  | none => none

/-- The first cause, of orders 5 to 10, that an access of a kind meets at a leaf (R155, R212, R230). -/
def leafCause (s : State) (part : Nat) (kind : AccessKind) (l : Leaf) (va : Nat) : Option Cause :=
  if !keyUsable s part l.key then some .key
  else if kind.writes && (l.cls == 1 || marked s (l.pa va)) then some .conserved
  else if (kind.atomicLike && l.cls != 0) || (kind == .fetch && l.cls != 5) ||
      (kind == .store && l.cls == 2 && (windowOf s part va).isNone) then some .cls
  else if ((kind == .load || kind == .lock) && !l.rd) || (kind.writes && !l.wr) then some .perm
  else if kind.atomicLike && l.mt != 0 then some .type
  else if kind.atomicLike && l.efmt != 0 then some .format
  else none

/-- The leaf of a virtual address, or the cause of orders 2 to 4 that stands in its way (R155). The model's choice of the TLB's
capacity is none: every translation walks, and takes the figure of a miss (R378; log 78). -/
def translate (s : State) (part ctx va : Nat) : Except Cause Leaf :=
  if 2 ^ 56 ≤ va then .error .address
  else
    match walk s part ctx va with
    | .leaf l => .ok l
    | .absent => .error .notPresent
    | .malformed => .error .malformed
    | .poison pa => .error (.poison pa)
    | .device pa => .error (.device pa)

/-- The last check: a permitted access whose physical address is a device register (R140). -/
def deviceCause (l : Leaf) (va : Nat) : Option Cause := if 2 ^ 51 ≤ l.pa va then some (.device (l.pa va)) else none

/-- The leaf of an access of a kind and a size at a virtual address, or the first cause of R155's that it meets. -/
def permitted (s : State) (part ctx : Nat) (kind : AccessKind) (va size : Nat) : Except Cause Leaf :=
  if va % size ≠ 0 then .error .align
  else
    match translate s part ctx va with
    | .error c => .error c
    | .ok l => match leafCause s part kind l va with | some c => .error c | none => .ok l

/-- What has passed every check of R155 stops at a device register. -/
def pastDevice (found : Except Cause Leaf) (va : Nat) : Except Cause Leaf :=
  match found with
  | .error c => .error c
  | .ok l => match deviceCause l va with | some c => .error c | none => .ok l

/-- The leaf of an access of a kind and a size at a virtual address, or the first cause it meets (R155, R140). -/
def access (s : State) (part ctx : Nat) (kind : AccessKind) (va size : Nat) : Except Cause Leaf :=
  pastDevice (permitted s part ctx kind va size) va

/-- The leaf that a translation register holds (R151). -/
def TReg.leaf (t : TReg) : Leaf := ⟨t.frame, t.size, t.attr0.toNat, t.attr1.toNat⟩

/-- The virtual address of an offset from a translation register (R152), modulo 2^64. -/
def TReg.va (t : TReg) (off : Nat) : Nat := (t.base.toNat + off) % 2 ^ 64

/-- The leaf of an access through a translation register, or the first cause of R155's that it meets: inside the bound range without
a walk (R152). -/
def permittedVia (s : State) (part ctx : Nat) (kind : AccessKind) (t : TReg) (off size : Nat) : Except Cause Leaf :=
  if off + size ≤ t.limit then
    if t.va off % size ≠ 0 then .error .align
    else match leafCause s part kind t.leaf (t.va off) with | some c => .error c | none => .ok t.leaf
  else permitted s part ctx kind (t.va off) size

/-- The leaf of an access through a translation register, or the first cause it meets (R140, R152, R155). -/
def accessVia (s : State) (part ctx : Nat) (kind : AccessKind) (t : TReg) (off size : Nat) : Except Cause Leaf :=
  pastDevice (permittedVia s part ctx kind t off size) (t.va off)

/-- A lane that meets a cause: the lane, the virtual address and the cause. -/
abbrev LaneCause := Nat × Nat × Cause

/-- What an instruction reports of its lanes' causes: the first category that any lane meets, at the lowest lane
(R155). The list is in ascending lane order. -/
def firstCause (cs : List LaneCause) : Option LaneCause :=
  match cs.find? (fun e => e.2.2.category == 1) with
  | some e => some e
  | none => match cs.find? (fun e => e.2.2.category == 2) with
    | some e => some e
    | none => match cs.find? (fun e => e.2.2.category == 3) with
      | some e => some e
      | none => cs.head?

/-! ### Reading and writing through a leaf -/

/-- The bytes of a range of virtual addresses within one page. -/
def loadBytes (s : State) (l : Leaf) (va n : Nat) : List Byte :=
  (List.range n).map (fun j => memByte s l.key (l.pa (va + j)))

/-- A little-endian value in memory (R2). -/
def loadLe (s : State) (l : Leaf) (va n : Nat) : Nat := leValue (loadBytes s l va n)

/-- Whether any byte of a range lies in a poisoned sector (R264). -/
def rangePoisoned (s : State) (l : Leaf) (va n : Nat) : Bool :=
  !s.poison.isEmpty && (List.range n).any (fun j => sectorPoisoned s (l.pa (va + j)))

/-- The address and value of each byte of a store within one page. -/
def bytesAt (l : Leaf) (va : Nat) (bs : List Byte) : List (Nat × Byte) :=
  (List.range bs.length).map (fun j => (l.pa (va + j), bs.getD j 0))

/-- Put a store to a transmit-window page into its path's combining buffer (R171, R230). -/
def reflect (s : State) (part wave va : Nat) (bs : List Byte) : State :=
  match windowOf s part va with
  | none => s
  | some (n, e) =>
    let asid := field e.w0.toNat 16 9
    let dest := e.w3.toNat + (va - e.w1.toNat)
    setPart s part (fun p => { p with combining := p.combining ++ [(⟨field e.w0.toNat 8 8, part, n, false⟩, .store asid dest va bs wave)] })

/-! ### The bank array (R143, R144, R377) -/

/-- The bank of a physical address under a colour set (R143), or 0 for an empty set. -/
def bankOf (cset : BitVec 32) (pa : Nat) : Nat :=
  let h := field pa 7 10 ^^^ field pa 17 10 ^^^ field pa 27 10 ^^^ field pa 37 10 ^^^ field pa 47 5
  let colours := (List.range 32).filter (fun i => cset.getLsbD i)
  if colours.isEmpty then 0
  else 32 * colours.getD (h / 32 % colours.length) 0 + h % 32

/-- The colours of a partition (R143). -/
def csetOf (s : State) (part : Nat) : BitVec 32 := match tget s.parts part with | some p => p.cset | none => 0

/-- The lines that a bank holds: 12 MiB of the array's 12,288 MiB in 1,024 banks (R1). -/
abbrev bankLines : Nat := 98304

/-- The bank array with a place for a line in a bank: a full bank evicts one of its lines, written back where it holds a write
(R143, R377; log 76). -/
def makeRoom (bank : Nat) (array : Tab ArrayLine) : Tab ArrayLine :=
  let held := (array.filter (fun e => e.2.bank == bank)).map (·.1)
  if held.length < bankLines then array else terase array (held.getD (Config.victim held % held.length) 0)

/-- Whether a bank holds a line. -/
def lineIn (bank : Nat) (array : Tab ArrayLine) (line : Nat) : Bool :=
  match tget array line with
  | some x => x.bank == bank
  | none => false

/-- The bank array after an access to a line under a key. A line that its bank does not hold takes a place there. A line under
another key is written back and refilled under this one; an access that bypasses the array, or that a retired bank would serve,
leaves no line there (R143, R144, R277, R377; log 76). -/
def touchLine (cset : BitVec 32) (retired : List Nat) (key : Nat) (bypass write : Bool) (array : Tab ArrayLine) (line : Nat) :
    Tab ArrayLine :=
  let bank := bankOf cset (128 * line)
  if bypass || retired.contains bank then terase array line
  else
    let unsaved := match tget array line with | some x => x.key == key && x.written | none => false
    let array := if lineIn bank array line then array else makeRoom bank array
    tset array line ⟨key, bank, write || unsaved⟩

/-- Access lines for a partition under a key. -/
def touchLines (s : State) (part key : Nat) (bypass write : Bool) (lines : List Nat) : State :=
  { s with array := lines.foldl (touchLine (csetOf s part) s.retBanks key bypass write) s.array }

/-- The lines of the page tables that the walks of some virtual addresses read; an entry of a page is the same for all of its
addresses (R145). -/
def tableLines (s : State) (part ctx : Nat) (vas : List Nat) : List Nat :=
  (((((vas.map (· / 2 ^ 15)).eraseDups).flatMap (fun page => walkEntries s part ctx (2 ^ 15 * page))).filter
    (fun pa => decide (pa < 2 ^ 51))).map (· / 128)).eraseDups

/-- Walk the page tables for some virtual addresses: their lines are read in plaintext (R144, R145). -/
def touchWalks (s : State) (part ctx : Nat) (vas : List Nat) : State :=
  touchLines s part 0 false false (tableLines s part ctx vas)

/-- The physical addresses of an access within a page. -/
def pasOf (l : Leaf) (va n : Nat) : List Nat := (List.range n).map (fun j => l.pa (va + j))

/-- Whether accesses through a leaf bypass the bank array: device and strongly ordered memory (R143). -/
def Leaf.bypasses (l : Leaf) : Bool := decide (2 ≤ l.mt)

/-- Access `n` bytes of a page at the bank array. -/
def touch (s : State) (part : Nat) (write : Bool) (l : Leaf) (va n : Nat) : State :=
  touchLines s part l.key l.bypasses write ((pasOf l va n).map (· / 128)).eraseDups

/-- Access `n` bytes at each of some addresses, each through its leaf. -/
def touchAll (s : State) (part : Nat) (write : Bool) (n : Nat) (xs : List (Leaf × Nat)) : State :=
  xs.foldl (fun s x => touch s part write x.1 x.2 n) s

/-- Whether the line of an address is present under the key of its page, so that a load of it hits (R144, R377). -/
def present (s : State) (l : Leaf) (va : Nat) : Bool :=
  match tget s.array (l.pa va / 128) with
  | some x => !l.bypasses && x.key == l.key
  | none => false

/-- Whether the line of a page-table entry is present in plaintext, so that a walk's read of it hits (R144, R145). -/
def tablePresent (s : State) (pa : Nat) : Bool :=
  match tget s.array (pa / 128) with
  | some x => x.key == 0
  | none => false

/-- Remove the lines of the bank array that a test accepts, written back where they hold a write (R259, R277). -/
def dropLines (s : State) (p : ArrayLine → Bool) : State := { s with array := s.array.filter (fun e => !p e.2) }

/-- Store bytes within one page: the local image, and on a transmit window the reflection (R230). -/
def storeBytes (s : State) (part wave : Nat) (l : Leaf) (va : Nat) (bs : List Byte) : State :=
  let s := touch (putBytes s l.key (bytesAt l va bs)) part true l va bs.length
  if l.cls = 2 then reflect s part wave va bs else s

end Sys2Proof.Machine
end

