-- ==== Sys2Proof/Machine/Records.lean ====
section
/-!
DEFINITION. The records a partition's front end writes to queue 1, and what it does while no buffer is free (R246 to
R251), and the page faults that wait for an answer (R156, R251).
-/

namespace Sys2Proof.Machine

/-! ### Codes (R250, R251) -/

/-- STATUS OK (R250). -/
abbrev stOk : Nat := 0
/-- STATUS BADCMD (R250). -/
abbrev stBadCmd : Nat := 1
/-- STATUS BUSY (R250). -/
abbrev stBusy : Nat := 2
/-- STATUS QUOTA (R250). -/
abbrev stQuota : Nat := 3
/-- STATUS LAUNCH_WIDTHS (R250). -/
abbrev stWidths : Nat := 4
/-- STATUS LAUNCH_NOT_CORESIDENT (R250). -/
abbrev stNotCoresident : Nat := 5
/-- STATUS NOCTX (R250). -/
abbrev stNoCtx : Nat := 6

/-- Event SPAN_DONE (R251). -/
abbrev evSpanDone : Nat := 1
/-- Event PAGE_REQUEST (R251). -/
abbrev evPageRequest : Nat := 2
/-- Event REFLECT_LOST (R251). -/
abbrev evReflectLost : Nat := 3
/-- Event GTIME_STEP (R251). -/
abbrev evGtimeStep : Nat := 4
/-- Event SCRUB_DONE (R251). -/
abbrev evScrubDone : Nat := 5
/-- Event BIND_FAULT (R251). -/
abbrev evBindFault : Nat := 6
/-- Event OVERFLOW (R251). -/
abbrev evOverflow : Nat := 7

/-! ### MSI-X (R17, R247) -/

/-- A word of an MSI-X table as it reads. A vector's fourth word holds its mask bit alone, which is set at reset (R17; PRESUMED,
log 81). -/
def Msix.word (m : Msix) (n : Nat) : BitVec 32 := if n % 4 = 3 then ~~~(sget m.entries n) &&& 1#32 else sget m.entries n

/-- An MSI-X table after a write of one of its words. -/
def Msix.write (m : Msix) (n : Nat) (x : BitVec 32) : Msix :=
  { m with entries := sset m.entries n (if n % 4 = 3 then ~~~x &&& 1#32 else x) }

/-- Raise a vector: it is pending until its message has left. -/
def Msix.raise (m : Msix) (vector : Nat) : Msix := { m with pending := sset m.pending vector 1 }

/-- The pending vectors that are not masked. -/
def Msix.due (m : Msix) : List Nat := (m.pending.map (·.1)).filter (fun v => !(m.word (4 * v + 3)).getLsbD 0)

/-- The message of a vector: its address and its data. -/
def Msix.message (m : Msix) (v : Nat) : Nat × List Byte :=
  ((m.word (4 * v)).toNat + 2 ^ 32 * (m.word (4 * v + 1)).toNat, leSplit 4 (m.word (4 * v + 2)).toNat)

/-- An MSI-X table once the messages that are due have left. -/
def Msix.sent (m : Msix) : Msix := { m with pending := m.pending.filter (fun e => !m.due.contains e.1) }

/-- A virtual function raises one of its vectors, once its driver is there (R247; virtio 1.2, log 81). -/
def Virtio.raise (v : Virtio) (vector : Nat) : Virtio := if v.status.testBit 2 then { v with msix := v.msix.raise vector } else v

/-- Every MSI-X table of the device. -/
def msixTables (s : State) : List Msix := s.host.tables.map (·.2) ++ s.parts.map (·.2.virtio.msix)

/-- The messages that are due leave for the host (R17, R247). -/
def sendMessages (s : State) : State :=
  let messages := (msixTables s).flatMap (fun m => m.due.map m.message)
  if messages.isEmpty then s
  else
    { s with
      hostMem := s.hostMem ++ messages,
      host := { s.host with tables := s.host.tables.map (fun e => (e.1, e.2.sent)) },
      parts := s.parts.map (fun e => (e.1, { e.2 with virtio := { e.2.virtio with msix := e.2.virtio.msix.sent } })) }

/-! ### Delivery (R248) -/

/-- Fill a buffer of queue 1 with a record, and notify the driver of it (R246, R247). -/
def Partition.deliver (p : Partition) (r : Record) : Partition :=
  { p with delivered := p.delivered ++ [r], buffers := p.buffers - 1, virtio := p.virtio.raise 2 }

/-- Whether an event may use the reserved places of the overflow ring (R248). -/
def Record.reserved (r : Record) : Bool :=
  r.event && (r.code == evSpanDone || r.code == evBindFault || r.code == evScrubDone)

/-- Whether a held GTIME_STEP or REFLECT_LOST takes a new one into itself: the same context, or the same path and
source device (R248). -/
def Record.mergesWith (r held : Record) : Bool :=
  r.event && held.event && r.code == held.code &&
    ((r.code == evGtimeStep && r.ctx == held.ctx) ||
     (r.code == evReflectLost && r.detail.take 3 == held.detail.take 3))

/-- A held record with a new one merged into it: the step or the count added (R248). GTIME_STEP has its step first;
REFLECT_LOST has its count last. -/
def Record.merge (r held : Record) : Record :=
  if r.code = evGtimeStep then { held with detail := [held.detail.getD 0 0 + r.detail.getD 0 0] }
  else { held with detail := held.detail.dropLast ++ [held.detail.getLast?.getD 0 + r.detail.getLast?.getD 0] }

/-- The places of the overflow ring that are taken: those of its records that do not wait for one (R248). -/
def Partition.places (p : Partition) : Nat := p.ring.length - p.late

/-- Whether one of the ring's 45,056 unreserved places is free: places are taken from the front, the last 20,480 being kept
(R248). -/
def Partition.unreserved (p : Partition) : Bool := decide (p.places < 45056)

/-- Merge a GTIME_STEP or REFLECT_LOST into a held record that takes it, in the ring or else the youngest in the front end
(R248). Which of several takes it is the model's choice (log 82). -/
def Partition.merged (r : Record) (p : Partition) : Option Partition :=
  if p.ring.any (fun h => r.mergesWith h) then some { p with ring := modFirst (fun h => r.mergesWith h) r.merge p.ring }
  else if p.held.any (fun h => r.mergesWith h) then
    some { p with held := (modFirst (fun h => r.mergesWith h) r.merge p.held.reverse).reverse }
  else none

/-- Put a record into the overflow ring. A reserved kind takes any place, and the others an unreserved one; where none is free
a PAGE_REQUEST or REFLECT_LOST is not recorded, and a completion or a GTIME_STEP keeps its turn and waits for a place (R248;
log 82). The answer says whether the record was taken. -/
def ringRecord (r : Record) (p : Partition) : Partition × Bool :=
  if r.reserved || p.unreserved then ({ p with ring := p.ring ++ [r] }, true)
  else if r.event && r.code == evReflectLost then
    ({ p with unlogged := p.unlogged + r.detail.getLast?.getD 0 }, false)
  else if r.event && r.code == evPageRequest then ({ p with declined := p.declined + 1 }, false)
  else ({ p with ring := p.ring ++ [r], late := p.late + 1 }, true)

/-- Write a record to queue 1, or hold it: up to 256 in the front end, then in the overflow ring; while a record is in the ring,
a record that merges is merged. The answer says whether the record was taken (R248). -/
def pushRecord (r : Record) (p : Partition) : Partition × Bool :=
  if p.held.isEmpty && p.ring.isEmpty && decide (0 < p.buffers) then
    (p.deliver r, true)
  else if p.ring.isEmpty && decide (p.held.length < 256) then ({ p with held := p.held ++ [r] }, true)
  else if p.ring.isEmpty then ringRecord r p
  else match p.merged r with
    | some q => (q, true)
    | none => ringRecord r p

/-- The OVERFLOW event, written when the ring has emptied and a figure is not zero (R248). -/
def overflowRecord (cyc : Nat) (p : Partition) : Record := ⟨true, evOverflow, 0, 0, cyc, [p.declined, p.unlogged], 0⟩

/-- An empty ring brings the OVERFLOW event if an overflow figure is not zero (R248). -/
def Partition.ringOver (cyc : Nat) (p : Partition) : Partition :=
  if p.ring.isEmpty && !(p.declined == 0 && p.unlogged == 0) then
    { p with held := p.held ++ [overflowRecord cyc p], declined := 0, unlogged := 0 }
  else p

/-- Move the oldest record of the ring up into the front end, which may free a place for one that waits for it; when that empties the
ring, the OVERFLOW event follows it if an overflow figure is not zero (R248). -/
def moveUp (cyc : Nat) (p : Partition) : Partition :=
  match p.ring with
  | [] => p
  | r :: ring =>
    let late := if ring.length - p.late < 45056 then p.late - 1 else p.late
    Partition.ringOver cyc { p with held := p.held ++ [r], ring := ring, late := late }

/-- Move the ring's records up while the front end has room for them (R248). The first argument bounds their number. -/
def refill (cyc : Nat) : Nat → Partition → Partition
  | 0, p => p
  | fuel + 1, p => if p.held.length < 256 ∧ !p.ring.isEmpty then refill cyc fuel (moveUp cyc p) else p

/-- Deliver held records in order while buffers are free, the ring's records moving up behind them (R248). The first
argument bounds the number of moves. -/
def deliverHeld (cyc : Nat) : Nat → Partition → Partition
  | 0, p => p
  | fuel + 1, p =>
    match p.held with
    | [] => if p.ring.isEmpty then p else deliverHeld cyc fuel (moveUp cyc p)
    | r :: rest =>
      if p.buffers = 0 then p
      else deliverHeld cyc fuel
        (moveUp cyc ({ p with held := rest }.deliver r))

/-- Write a record of a partition. -/
def record (s : State) (part : Nat) (r : Record) : State :=
  setPart s part (fun p => (pushRecord r p).1)

/-- Raise an event of a partition (R251). -/
def event (s : State) (part code ctx : Nat) (detail : List Nat) : State :=
  record s part ⟨true, code, ctx, 0, s.cyc, detail, 0⟩

/-- A partition that no PART_ASSIGN has named: no owner, nothing held (R244). -/
def Partition.empty : Partition :=
  { owner := none, cbase := 0, climit := 0, cset := 0, grants := [], quota := 0, charged := 0, ctxs := [], slots := [],
    slotHead := 0, slotTail := 0, gathered := [], txwin := [], rat := [], domains := [], codebooks := [], flows := [], notif := [],
    queue0 := [], buffers := 0, delivered := [], held := [], ring := [], late := 0, declined := 0, unlogged := 0, faults := [],
    monitors := [], log := [], logSeq := 0, chain := List.replicate 16 0, scrubs := [], flr := [], turns := [],
    virtio := ⟨0, 0, 0, 0, 0, 0, 0xFFFF, [], 0, ⟨[], []⟩⟩, combining := [] }

/-- Write the completion of a virtual function's command that came through a port (R249), also where the partition has no owner
(R244). -/
def complete (s : State) (part port tag ctx status : Nat) (detail : List Nat) : State :=
  let p := (pushRecord ⟨false, status, ctx, tag, s.cyc, detail, port⟩ (tgetD s.parts part Partition.empty)).1
  { s with parts := tset s.parts part p }

/-- Write the completion of an admin command (R245, R249). -/
def completeAdmin (s : State) (port tag status : Nat) (detail : List Nat) : State :=
  { s with admin := s.admin ++ [(port, ⟨false, status, 0, tag, s.cyc, detail, port⟩)] }

/-- The six doublewords of a SPAN_DONE's detail: span, status, REPLAYED count, trap code and the number of pending refusals in the
first, then the frame of a span that failed with two doublewords of its trap's detail, or the first refusal of one that did not
(R251, R273). Their places are the model's (log 11). -/
def spanDoneWords (d : List Nat) : List Nat :=
  let at_ (k : Nat) : Nat := d.getD k 0
  let head := at_ 0 % 2 ^ 32 + at_ 1 % 16 * 2 ^ 32 + min 15 (at_ 2) * 2 ^ 36 + at_ 3 % 256 * 2 ^ 40 + min 65535 (at_ 7) * 2 ^ 48
  if at_ 1 = 0 then [head, at_ 8 + at_ 9 * 2 ^ 32, at_ 10 + at_ 12 * 2 ^ 8, at_ 11]
  else [head, at_ 4, at_ 5, at_ 6, at_ 8, at_ 9]

/-- A record's 64 bytes on queue 1 (R249): KIND, STATUS or event code, CTX, TAG, CYC, and the detail as doublewords. The detail's
own places are the model's (log 11). -/
def Record.bytes (r : Record) : List Byte :=
  let words := if r.event && r.code == evSpanDone then spanDoneWords r.detail else r.detail
  [if r.event then 1 else 0, BitVec.ofNat 8 r.code] ++ leSplit 2 r.ctx ++ leSplit 4 r.tag ++ leSplit 8 r.cyc ++
    (words.flatMap (leSplit 8) ++ List.replicate 48 0).take 48

/-! ### Commands as bytes (R249, R250) -/

/-- The OPC of a command's body (R250); a bad body's is reserved. -/
def commandOpc : VfBody → Nat
  | .ctxOpen _ _ _ _ => 0x01 | .ctxClose => 0x02 | .invalidate _ _ => 0x03 | .launch _ => 0x04 | .node _ _ => 0x05
  | .records _ _ _ => 0x06 | .pause => 0x07 | .resume _ => 0x08 | .faultReply _ _ => 0x09 | .domainRelease _ => 0x0A
  | .txwin _ _ => 0x0B | .rat _ _ => 0x0C | .flow _ _ => 0x0D | .cellRepair _ _ => 0x0E | .monitor _ _ => 0x0F
  | .logRead _ _ _ => 0x10 | .keyLoad _ _ => 0x11 | .keyClear _ => 0x12 | .timeMode _ => 0x13 | .bad => 0x00

/-- The 16 bytes of a command's header (R249). -/
def commandHeader (c : VfCmd) : List Byte :=
  leSplit 2 (commandOpc c.body) ++ leSplit 2 0 ++ leSplit 4 c.tag ++ leSplit 1 c.ctx ++ List.replicate 7 0

/-- The fields of a command's header, OPC, TAG and CTX, unless a reserved byte or bit is not zero (R249). -/
def headerFields (bs : List Byte) : Option (Nat × Nat × Nat) :=
  if fieldBytes bs 2 2 = 0 ∧ fieldBytes bs 8 1 < 16 ∧ fieldBytes bs 9 7 = 0 then
    some (fieldBytes bs 0 2, fieldBytes bs 4 4, fieldBytes bs 8 1)
  else none

/-! ### Page requests (R156, R251) -/

/-- Raise a PAGE_REQUEST for an owner: its number, and whether it was recorded; one that was not is declined at once
(R248). Access kinds: 0 load, 1 store, 2 atomic. -/
def pageRequest (s : State) (part ctx va cause kind : Nat) (owner : FaultOwner) : State × Nat × Bool :=
  let id := s.arrivals
  let s := { s with arrivals := s.arrivals + 1 }
  match tget s.parts part with
  | none => (s, id, false)
  | some p =>
    let r := pushRecord ⟨true, evPageRequest, ctx, 0, s.cyc, [id, va, cause, kind], 0⟩ p
    let q := if r.2 then { r.1 with faults := r.1.faults ++ [⟨id, owner, s.cyc⟩] } else r.1
    ({ s with parts := tset s.parts part q }, id, r.2)

/-- Remove an open page request. -/
def closeFault (s : State) (part id : Nat) : State :=
  setPart s part (fun p => { p with faults := p.faults.filter (fun f => f.id != id) })

/-- Record a completed command's notification to a device's REFLECT_LOST (R233): path number, destination VA of the
first discarded store, source VA of its local image, and the count. The source device tells two paths of one number
apart at a destination. -/
def reflectLost (s : State) (part device number va localVa count : Nat) : State :=
  event s part evReflectLost 0 [device, number, 0, va, localVa, count]

end Sys2Proof.Machine
end

