-- ==== Sys2Proof/Machine/Clock.lean ====
section
/-!
DEFINITION. Quads and their clocks: lane maps, passes and beats, islands and operating points, the latencies of R73,
and finding and changing waves, blocks and spans.
-/

namespace Sys2Proof.Machine

open Sys2Proof

/-! ### Quads, islands and beats (R7 to R9, R12, R59, R376) -/

/-- LANEMAP.GOOD of a quad (R59). -/
def goodLanes (s : State) (core quad : Nat) : BitVec 16 := ~~~ sget s.fused (4 * core + quad)

/-- The number of good lanes of a quad. -/
def goodCount (s : State) (core quad : Nat) : Nat :=
  ((List.range 16).filter (fun n => (goodLanes s core quad).getLsbD n)).length

/-- A quad with fewer than 12 good lanes is disabled (R7). -/
def quadEnabled (s : State) (core quad : Nat) : Bool := decide (12 ≤ goodCount s core quad)

/-- P, the passes of a vector instruction and the cycles of a beat: ceil(64 / g) (R7). -/
def passesOf (s : State) (core quad : Nat) : Nat :=
  let g := goodCount s core quad
  if g = 0 then 64 else (63 + g) / g

/-- P of the quad that a wave stands on. -/
def State.passes (s : State) (w : Wave) : Nat := passesOf s w.core w.quad

/-- The island of a core (R9, R12). -/
def islandOf (core : Nat) : Nat := core / 8

/-- The die of a core (R9). -/
def dieOf (core : Nat) : Nat := core / 64

/-- An island as its reset leaves it: IDLE, point 0 (R33, log 1). -/
def Island.initial : Island := ⟨.idle, 0, none, false⟩

/-- The clock of operating point n in MHz: 1,000 + 2,300n / 15 to the nearest (R376). -/
def pointMhz (n : Nat) : Nat := (30000 + 4600 * n + 15) / 30

/-- The clock of a core's island in MHz. -/
def coreMhz (s : State) (core : Nat) : Nat := pointMhz (tgetD s.islands (islandOf core) Island.initial).point

/-- The cycles of a core's clock in a time in nanoseconds, rounded up. -/
def cyclesIn (s : State) (core ns : Nat) : Nat := (ns * coreMhz s core + 999) / 1000

/-- The time in nanoseconds of some cycles of a core's clock, rounded up. -/
def nanosIn (s : State) (core cycles : Nat) : Nat := (cycles * 1000 + coreMhz s core - 1) / coreMhz s core

/-- Whether the limiter's gating of an island still lasts: 1 us (R15). -/
def Island.gated (i : Island) (cyc : Nat) : Bool := match i.gatedAt with | some t => decide (cyc < t + 1000) | none => false

/-- Whether a core's island runs: ACTIVE and not gated by the limiter (R12, R15). Its waves and engines act only then. -/
def coreRuns (s : State) (core : Nat) : Bool :=
  let i := tgetD s.islands (islandOf core) Island.initial
  i.state == .active && !i.gated s.cyc

/-! ### Finding and changing waves, blocks and spans -/

/-- Every wave of the device, the issuing one first. -/
def State.allWaves (s : State) : List Wave := if s.wave.wait = .vacant then s.waves else s.wave :: s.waves

/-- The wave with a placement number. -/
def State.findWave (s : State) (id : Nat) : Option Wave := s.allWaves.find? (fun w => w.id == id)

/-- Change every wave that a test accepts. -/
def State.changeWaves (s : State) (p : Wave → Bool) (f : Wave → Wave) : State :=
  { s with wave := if s.wave.wait ≠ .vacant ∧ p s.wave then f s.wave else s.wave,
           waves := s.waves.map (fun w => if p w then f w else w) }

/-- Change the wave with a placement number. -/
def State.changeWave (s : State) (id : Nat) (f : Wave → Wave) : State := s.changeWaves (fun w => w.id == id) f

/-- Change the issuing wave. -/
def State.onWave (s : State) (f : Wave → Wave) : State := { s with wave := f s.wave }

/-- The span with a number. -/
def State.findSpan (s : State) (id : SpanId) : Option Span := s.spans.find? (fun x => x.id == id)

/-- Change a span. -/
def State.changeSpan (s : State) (id : SpanId) (f : Span → Span) : State :=
  { s with spans := modFirst (fun x => x.id == id) f s.spans }

/-- A block of a span. -/
def State.findBlock (s : State) (id : SpanId) (index : Nat) : Option Block :=
  s.blocks.find? (fun b => b.span == id && b.index == index)

/-- Change a block. -/
def State.changeBlock (s : State) (id : SpanId) (index : Nat) (f : Block → Block) : State :=
  { s with blocks := modFirst (fun b => b.span == id && b.index == index) f s.blocks }

/-- The open context of a partition. -/
def State.findCtx (s : State) (part ctx : Nat) : Option Ctx :=
  match tget s.parts part with
  | some p => tget p.ctxs ctx
  | none => none

/-- Change an open context. -/
def State.changeCtx (s : State) (part ctx : Nat) (f : Ctx → Ctx) : State :=
  setPart s part (fun p => { p with ctxs := tmod p.ctxs ctx f })

/-- The launch record a span was launched from (R252, R253). -/
def State.launchOf (s : State) (id : SpanId) : Option Launch :=
  match s.findCtx id.part id.ctx with
  | some c => tget c.launches id.lrec
  | none => none

/-- A core's engines and stores before anything is put there (R33, R177, R186). -/
def Core.empty : Core :=
  { tile := [], scales := [], tags := [], acc := [], accown := [], checks := [], queues := [], fences := [],
    nextSeq := [], done := [], mdq := [], steps := [], flight := [], lastLoop := false, stepAt := 0, poisonT := [], poisonZ := [], poisonO := [] }

/-- A core's engines and stores. -/
def State.coreOf (s : State) (n : Nat) : Core := tgetD s.cores n Core.empty

/-- Change a core's engines and stores. -/
def State.changeCore (s : State) (n : Nat) (f : Core → Core) : State :=
  { s with cores := tset s.cores n (f (s.coreOf n)) }

/-- The span of a wave loses its replayable bit (R274). -/
def clearReplay (s : State) (id : SpanId) : State := s.changeSpan id (fun x => { x with replayable := false })

/-! ### Time of a wave (R68, R110) -/

/-- The cycle of a wave's clock that the present CYC is. -/
def Wave.present (s : State) (w : Wave) : Nat := w.now + cyclesIn s w.core (s.cyc - w.since)

/-- A wave's access is performed, by R73's figures, some cycles after its issue; that of an instruction that replays is performed by
now (R73, R156). -/
def Wave.perform (s : State) (cycles : Nat) (w : Wave) : Wave :=
  { w with performed := max w.performed (if w.service.isSome then w.present s else w.now + cycles) }

/-- A waiting wave goes on: it runs from the cycle that the present CYC gives, or later if its stall lasts longer. -/
def wake (s : State) (w : Wave) : Wave :=
  { w with wait := .running, readyAt := max w.readyAt (w.present s) }

/-- The VLD figure of a physical address in cycles (R73): 4 beats, the figure of its bank, and 300 ns more where the line is
filled from HBM or the array is bypassed. -/
def lineFigure (s : State) (w : Wave) (pa : Nat) (hit : Bool) : Nat :=
  let ns := (if bankOf (csetOf s w.span.part) pa / 128 = dieOf w.core then 60 else 110) + if hit then 0 else 300
  4 * s.passes w + cyclesIn s w.core ns

/-- The latency of a load of a line through its leaf (R73). -/
def loadWait (s : State) (w : Wave) (l : Leaf) (va : Nat) : Nat := lineFigure s w (l.pa va) (present s l va)

/-- The wait that the walk of a virtual address adds: the VLD figure of each entry walked (R73; log 78). -/
def walkWait (s : State) (w : Wave) (va : Nat) : Nat :=
  (walkEntries s w.span.part w.span.ctx va).foldl (fun t pa => t + lineFigure s w pa (tablePresent s pa)) 0

/-- The latency of loads: the largest figure of the addresses loaded, 4 beats for none, and the longest of the walks of the
addresses that the TLB translates (R73). -/
def loadWaits (s : State) (w : Wave) (loads : List (Leaf × Nat)) (walked : List Nat) : Nat :=
  loads.foldl (fun t e => max t (loadWait s w e.1 e.2)) (4 * s.passes w) + walked.foldl (fun t va => max t (walkWait s w va)) 0

/-- The latency of a shuffle or MXRDZ: 2P + 6 cycles (R73). -/
def shuffleWait (s : State) (w : Wave) : Nat := 2 * s.passes w + 6

/-- The latency of a vote, ballot, reduction, scan, VRDLANE or RECV: 3P + 6 cycles (R73). -/
def crossWait (s : State) (w : Wave) : Nat := 3 * s.passes w + 6

/-! ### Stores on their way to another device (R171 to R174, R218) -/

/-- The sender number of a wave in a packet, and of an engine command by its token. -/
def waveSender (id : Nat) : Nat := 2 * id
/-- The token number of a command: its sender number is built from it (R170, R190). -/
def cmdToken (core q seq : Nat) : Nat := core + q * 2 ^ 9 + seq * 2 ^ 16
/-- The sender number of an engine command. -/
def commandSender (token : Nat) : Nat := 2 * token + 1

/-- The sender of a payload that its receiver performs; answers have none. -/
def senderOf : Payload → Option Nat
  | .store _ _ _ _ w => some w
  | .remoteStore _ _ w => some w
  | .remoteAtomic _ _ _ w _ _ _ => some w
  | .record _ _ _ _ _ _ _ _ => none
  | .atomicReply _ _ _ _ _ _ => none
  | .recordAck _ _ _ _ => none
  | .recordRefusal _ _ _ _ _ _ _ => none

/-- Whether a sender has a reflected store in a combining buffer (R171). -/
def buffered (s : State) (part sender : Nat) : Bool :=
  match tget s.parts part with
  | some p => p.combining.any (fun e => senderOf e.2 == some sender)
  | none => false

/-- Whether a sender has a store or request that its receiver has not performed (R174). -/
def inFlight (s : State) (part sender : Nat) : Bool :=
  buffered s part sender || s.fabric.outs.any (fun o => o.unacked.any (fun k => senderOf k.packet.payload == some sender))

/-- Whether a wave has anything that WFENCE awaits (R174, R218). -/
def waveInFlight (s : State) (part id : Nat) : Bool :=
  inFlight s part (waveSender id) || tgetD s.unanswered id 0 != 0

end Sys2Proof.Machine
end

