-- ==== Sys2Proof/Machine/Queues.lean ====
section
/-!
DEFINITION. The queues of a core's engines as data: commands, queue fences, claims and status records (R169, R188, R190,
R197, R198).
-/

namespace Sys2Proof.Machine

open Sys2Proof

/-- The commands of a queue, oldest first. -/
def Core.queue (c : Core) (q : Nat) : List Cmd := tgetD c.queues q []

/-- Set the commands of a queue. -/
def Core.setQueue (c : Core) (q : Nat) (xs : List Cmd) : Core :=
  { c with queues := if xs.isEmpty then terase c.queues q else tset c.queues q xs }

/-- Change a command of a queue. -/
def Core.onCmd (c : Core) (q seq : Nat) (f : Cmd → Cmd) : Core :=
  c.setQueue q (modFirst (fun x => x.seq == seq) f (c.queue q))

/-- Whether a command, or the fence of a queue 7 token, has not completed. -/
def Core.pendingAt (c : Core) (q seq : Nat) : Bool :=
  if q = 7 then c.fences.any (fun f => f.seq == seq) else (c.queue q).any (fun x => x.seq == seq)

/-- Keep a status record: the 256 newest of each queue (R190). -/
def Core.note (c : Core) (d : DoneRec) : Core :=
  let same := c.done.filter (fun x => x.queue == d.queue)
  let rest := if same.length < 256 then c.done else dropFirst (fun x => x.queue == d.queue) c.done
  { c with done := rest ++ [d] }

/-- A command ends with ABORTED: it stops where it stands and what it performed stays (R197, R198). -/
def Cmd.abort (c : Cmd) : Cmd :=
  match c.phase with
  | .finished _ _ _ => c
  | _ => { c with phase := .finished 6 c.step none, held := false, stall := none }

/-- Release a claimed command: its HOLD ends when its predecessor completes OK; it is aborted when it fails (R197). -/
def Core.release (c : Core) (succ : Option Word64) (ok : Bool) : Core :=
  match succ with
  | none => c
  | some x =>
    c.onCmd (field x.toNat 9 3) (field x.toNat 16 32) (fun k => if ok then { k with held := false } else k.abort)

/-- Whether a queue fence has nothing left to wait for (R197). -/
def Core.fenceOver (c : Core) (f : Fence) : Bool := !f.waits.any (fun e => c.pendingAt e.1 e.2)

/-- A queue fence completes: OK whatever the statuses, or CHAIN (R197). -/
def Core.endFence (c : Core) (f : Fence) : Core :=
  let status := if f.chain then 8 else 0
  (({ c with fences := c.fences.filter (fun x => x.seq != f.seq) }).note ⟨7, f.seq, status, 0, none⟩).release f.succ (!f.chain)

/-- Complete every queue fence that is over. The first argument bounds their number. -/
def Core.settleFences : Nat → Core → Core
  | 0, c => c
  | fuel + 1, c =>
    match c.fences.find? c.fenceOver with
    | some f => (c.endFence f).settleFences fuel
    | none => c

/-- A core without the K-steps in flight of MXLOOPs that have ended (R198). -/
def Core.dropLoopSteps (c : Core) : Core :=
  match c.queue 0 with
  | k :: _ => if k.phase = .running then c else { c with flight := c.flight.filter (fun f => !f.loop) }
  | [] => { c with flight := c.flight.filter (fun f => !f.loop) }

/-- The commands and queue fences of a killed span end with ABORTED, and its waves' K-steps that have not started are not
performed (R198, R273). -/
def Core.abortSpan (c : Core) (id : SpanId) : Core :=
  let dead := c.fences.filter (fun f => f.span == id)
  let c := { c with steps := c.steps.filter (fun x => x.span != id), queues := c.queues.map (fun (q : Nat × List Cmd) => (q.1, q.2.map (fun (k : Cmd) => if k.span = id then k.abort else k))),
                    fences := c.fences.filter (fun f => f.span != id) }
  let c := c.dropLoopSteps
  let c := dead.foldl (fun c f => (c.note ⟨7, f.seq, 6, 0, none⟩).release f.succ false) c
  c.settleFences c.fences.length

end Sys2Proof.Machine
end

