-- ==== Sys2Proof/Machine/Contain.lean ====
section
/-!
DEFINITION. Error banks, barriers, queue locks, and the end, kill and report of spans (R77, R84, R251, R265 to R276,
R288, R299, R312 to R314).
-/

namespace Sys2Proof.Machine

open Sys2Proof

/-! ### Error banks (R265 to R269) -/

/-- A bank that holds no record (R266, R267). -/
def Bank.empty : Bank := ⟨false, false, false, 0, 0, 0, 0, ⟨0, 0, 0, 0, 0, 0⟩, 0, 0⟩

/-- The error bank of a compute die, and that of the HBM stack of a physical address (R265). -/
def dieBank (core : Nat) : Nat := dieOf core
/-- The error bank of the HBM stack that holds a physical address (R11, R265; log 9). -/
def hbmBank (pa : Nat) : Nat := 8 + Config.hbmStack pa % 12

/-- Where a sector of memory is met: the error bank and the UNIT of the bank array of the die that holds its line, or those of its HBM
stack (R265, R267). -/
def sectorPlace (s : State) (pa : Nat) : Nat × Nat :=
  match tget s.array (pa / 128) with
  | some x => (x.bank / 128, 5)
  | none => (hbmBank pa, 6)

/-- Raise MSI-X vector 0 of the physical function on both ports (R269). -/
def raiseMsix (s : State) : State :=
  { s with host := { s.host with
      msix := s.host.msix + 1,
      tables := [0, 1].foldl (fun t port => tset t port ((tgetD t port ⟨[], []⟩).raise 0)) s.host.tables } }

/-- Apply a corrected error to a bank (R269). -/
def correctedIn (kind cyc : Nat) (loc : ErrLoc) (addr : Nat) (b : Bank) : Bank :=
  let b := { b with cecnt := min 65535 (b.cecnt + 1) }
  if b.valid then b
  else { b with valid := true, uc := false, kind := kind, addr := addr, loc := loc, cyc := cyc, lanes := 0 }

/-- Record a corrected error; a new record raises the interrupt (R269). -/
def recordCorrected (s : State) (n kind : Nat) (loc : ErrLoc) (addr : Nat) : State :=
  let b := tgetD s.banks n Bank.empty
  let s := { s with banks := tset s.banks n (correctedIn kind s.cyc loc addr b) }
  if b.valid then s else raiseMsix s

/-- Apply an uncorrectable error to a bank (R269). -/
def uncorrectedIn (kind cyc : Nat) (loc : ErrLoc) (addr : Nat) (lanes : Word64) (b : Bank) : Bank :=
  if b.valid && b.uc then { b with ovf := true, uecnt := min 255 (b.uecnt + 1) }
  else { b with valid := true, uc := true, kind := kind, addr := addr, loc := loc, cyc := cyc, lanes := lanes }

/-- What the retirement policy sees of an uncorrectable error: a record that a bank has made of it (R269, R277). -/
def errorNote (s : State) (kind : Nat) (loc : ErrLoc) (addr : Nat) : ErrorNote :=
  ⟨kind, loc.unit, loc.core, addr, if loc.unit = 5 then (tget s.array (addr / 128)).map (·.bank) else none, s.cyc⟩

/-- Record an uncorrectable error; a new record or a setting of OVF raises the interrupt (R269). -/
def recordUncorrected (s : State) (n kind : Nat) (loc : ErrLoc) (addr : Nat) (lanes : Word64) : State :=
  let b := tgetD s.banks n Bank.empty
  raiseMsix { s with
    banks := tset s.banks n (uncorrectedIn kind s.cyc loc addr lanes b),
    evidence := if b.valid && b.uc then s.evidence else s.evidence ++ [errorNote s kind loc addr] }

/-- ERRLOC for a consumer that is a wave: its core, quad, lowest lane, UNIT, partition and context (R267). -/
def Wave.errLoc (w : Wave) (unit : Nat) (lanes : Word64) : ErrLoc :=
  ⟨w.core, w.quad, (lanesOf lanes).headD 0, unit, w.span.part, w.span.ctx⟩

/-- The leaf at which the seal found a cell of a domain (R202). -/
def Domain.home (d : Domain) (c : Nat) : Option Leaf :=
  (d.homes.find? (fun h => h.1 == (d.base + 4 * c) / 2 ^ 15)).map (·.2)

/-- The cells of a domain that the seal found in a sector. -/
def Domain.cellsIn (d : Domain) (sector : Nat) : List Nat :=
  (List.range d.ncell).filter (fun c =>
    match d.home c with
    | some l => l.pa (d.base + 4 * c) / 32 == sector
    | none => false)

/-- Poison the sector of a physical address; the cells of a conserved domain in it are lost to the error (R201, R220,
R264). -/
def poisonSector (s : State) (pa : Nat) : State :=
  let s := { s with poison := sset s.poison (pa / 32) 1 }
  match tget s.marks (pa / 2 ^ 15) with
  | none => s
  | some (part, domid) =>
    setPart s part (fun p => { p with domains := tmod p.domains domid (fun d =>
      { d with lost := d.lost ++ (d.cellsIn (pa / 32)).filter (fun c => !d.lost.contains c) }) })

/-! ### Barriers (R77, R79) -/

/-- Whether two waves count at the same barrier of a kind: the same block, span or grid (R77). -/
def sameGroup (k : BarrierKind) (w x : Wave) : Bool :=
  match k with
  | .block => x.span == w.span && x.block == w.block
  | .span => x.span == w.span
  | .grid => x.span.part == w.span.part && x.span.ctx == w.span.ctx && x.span.lrec == w.span.lrec

/-- Whether a wave stands at a barrier of a kind. -/
def Wave.atBarrier (k : BarrierKind) (w : Wave) : Bool :=
  match w.wait with
  | .barrier j _ => j == k
  | _ => false

/-- The arrival number of a wave at its barrier. -/
def Wave.arrived (w : Wave) : Nat :=
  match w.wait with
  | .barrier _ n => n
  | _ => 0

/-- Put a block's arrival, its last wave's, into a list of arrivals by block (R256). -/
def noteArrival (ws : List ((SpanId × Nat) × Nat × Nat)) (w : Wave) : List ((SpanId × Nat) × Nat × Nat) :=
  match ws.find? (fun e => e.1 == (w.span, w.block)) with
  | some e => ((w.span, w.block), islandOf w.core, max e.2.2 w.arrived) :: ws.filter (fun x => x.1 != (w.span, w.block))
  | none => ((w.span, w.block), islandOf w.core, w.arrived) :: ws

/-- Insert a pair by its second component, rising. -/
def insertBy (e : Nat × Nat) : List (Nat × Nat) → List (Nat × Nat)
  | [] => [e]
  | x :: xs => if e.2 < x.2 then e :: x :: xs else x :: insertBy e xs

/-- Move one operating point from an island to another, within points 0 and 15 (R256). -/
def movePoint (last : Nat) (islands : Tab Island) (from_ : Nat) : Tab Island :=
  let a := tgetD islands from_ Island.initial
  let b := tgetD islands last Island.initial
  if from_ = last ∨ a.point = 0 ∨ 15 ≤ b.point then islands
  else tset (tset islands from_ { a with point := a.point - 1 }) last { b with point := b.point + 1 }

/-- Whether the management complex lowers the islands of a die for heat: it has done so within the last 10 us (R16; log 56). -/
def dieHot (s : State) (die : Nat) : Bool := match tget s.power.hot die with | some t => decide (s.cyc ≤ t + 10000) | none => false

/-- Whether an island is being lowered, by the limiter or for heat, so that no request raises it (R15, R16). -/
def lowering (s : State) (island : Nat) : Bool := s.power.above || dieHot s (island / 8)

/-- At a completed GBAR, every island that held one of the first quarter of the blocks' arrivals gives one operating
point to the island whose block arrived last (R256); while that island is being lowered, the shift is overridden (R15, R16). -/
def shiftBudget (s : State) (ws : List Wave) : State :=
  let order := ((ws.foldl noteArrival []).map (·.2)).foldl (fun l e => insertBy e l) []
  match order.getLast? with
  | none => s
  | some last => if lowering s last.1 then s else { s with islands := ((order.take (order.length / 4)).map (·.1)).eraseDups.foldl (movePoint last.1) s.islands }

/-- Whether a span belongs to the grid of another: the same launch (R77, R79). -/
def sameGrid (id other : SpanId) : Bool := other.part == id.part && other.ctx == id.ctx && other.lrec == id.lrec

/-- The spans of a launch's grid (R57, R252). -/
def Launch.spans (l : Launch) : Nat := l.grid.foldl (· * ·) 1

/-- Whether every span of a grid has started, so that every wave of it that has not ended is in State (R77). A graph node has no
grid of spans: each of its spans counts for itself. -/
def gridStarted (s : State) (id : SpanId) : Bool :=
  match s.launchOf id with
  | some l =>
    l.node.isSome || decide (l.spans ≤ l.finished + (s.spans.filter (fun x => sameGrid id x.id &&
      (x.phase == .live || x.phase == .saved || x.phase == .ended))).length)
  | none => true

/-- Release a barrier of the group of a wave once every wave of the group that has not ended stands at it (R77); waves of spans of
the grid that have not started have not ended. -/
def releaseBarrier (k : BarrierKind) (w : Wave) (s : State) : State :=
  let group := s.allWaves.filter (sameGroup k w)
  if group.isEmpty || !group.all (fun x => x.atBarrier k) || (k == .grid && !gridStarted s w.span) then s
  else
    let s := if k = .grid then shiftBudget s group else s
    s.changeWaves (sameGroup k w) (fun x => wake s x)

/-- Look again at the three barriers of a wave that has ended (R77). -/
def releaseBarriers (w : Wave) (s : State) : State :=
  releaseBarrier .grid w (releaseBarrier .span w (releaseBarrier .block w s))

/-! ### Queue locks (R312 to R314) -/

/-- The queue-lock unit of a word: the bank of its home slice (R143, R312). -/
def lockUnit (s : State) (part pa : Nat) : Nat :=
  match tget s.parts part with
  | some p => bankOf p.cset pa
  | none => 0

/-- The lock of a word. -/
def findLock (s : State) (part pa : Nat) : Option Lock := s.locks.find? (fun l => l.part == part && l.pa == pa)

/-- The lock word of a held lock (R313). -/
def Lock.word (l : Lock) : Nat := 2 ^ 63 + min 65535 l.waiters.length * 2 ^ 32 + l.part * 2 ^ 8 + l.ctx

/-- Write the mirror of a lock's state to its word (R313); a frame that a seal has marked since takes no write (R202, R212). -/
def writeLockWord (s : State) (l : Lock) (word : Nat) : State :=
  if marked s l.pa then s
  else
    touchLines (putBytes s l.key ((leSplit 8 word).zipIdx.map (fun e => (l.pa + e.2, e.1)))) l.part l.key false true [l.pa / 128]

/-- Put a held lock into its unit, and its mirror into memory. -/
def putLock (s : State) (l : Lock) : State :=
  let s := { s with locks := l :: s.locks.filter (fun x => !(x.part == l.part && x.pa == l.pa)) }
  writeLockWord s l l.word

/-- The number of locks that a unit tracks (R314). -/
def unitLoad (s : State) (unit : Nat) : Nat := (s.locks.filter (fun l => lockUnit s l.part l.pa == unit)).length

/-- Serve the requests that found their unit full, in order of arrival, while an entry is free or their word is
tracked (R314). The first argument bounds the requests served. -/
def serveFull (unit : Nat) : Nat → State → State
  | 0, s => s
  | fuel + 1, s =>
    match s.lockQ.find? (fun q => lockUnit s q.part q.pa == unit) with
    | none => s
    | some q =>
      let rest := { s with lockQ := dropFirst (fun x => x == q) s.lockQ }
      match findLock s q.part q.pa with
      | some l => serveFull unit fuel (putLock rest { l with waiters := l.waiters ++ [q.holder] })
      | none =>
        if unitLoad s unit < 64 then
          let s' := putLock rest q
          serveFull unit fuel (s'.changeWave q.holder (wake s'))
        else s

/-- The holder of a lock gives it up: to the oldest waiter, which wakes, or to nobody (R312). -/
def passLock (s : State) (l : Lock) : State :=
  match l.waiters with
  | next :: rest =>
    let l' := match s.findWave next with
      | some w => { l with ctx := w.span.ctx, va := match w.wait with | .locking _ va => va | _ => l.va }
      | none => l
    let s := putLock s { l' with holder := next, waiters := rest }
    s.changeWave next (wake s)
  | [] =>
    let s := { s with locks := s.locks.filter (fun x => !(x.part == l.part && x.pa == l.pa)) }
    let s := writeLockWord s l 0
    serveFull (lockUnit s l.part l.pa) (s.lockQ.length + 1) s

/-- Withdraw the requests of waves that a kill has stopped, and pass on the locks they hold (R81, R314). -/
def dropLocks (s : State) (ids : List Nat) : State :=
  let s := { s with lockQ := s.lockQ.filter (fun q => !ids.contains q.holder) }
  let s := (s.locks.filter (fun l => l.waiters.any ids.contains)).foldl
    (fun s l => putLock s { l with waiters := l.waiters.filter (fun w => !ids.contains w) }) s
  (s.locks.filter (fun l => ids.contains l.holder)).foldl (fun s l => passLock s l) s

/-! ### The end of blocks and spans (R84, R251, R299) -/

/-- Return a charge to a partition's queue quota (R84). -/
def refund (s : State) (part n : Nat) : State := setPart s part (fun p => { p with charged := p.charged - n })

/-- The part of a block's charge that it has not used: its declared maximum less what it has emitted (R84). -/
def emissionLeft (s : State) (b : Block) : Nat := (match s.launchOf b.span with | some l => l.emitMax | none => 0) - b.emitted

/-- The part of the charges of a span's blocks that those which have not ended have not used. -/
def spanLeft (s : State) (id : SpanId) : Nat :=
  ((s.blocks.filter (fun b => b.span == id && !b.ended)).map (emissionLeft s)).foldl (· + ·) 0

/-- The records that a block was launched for whose share of the charge has not been returned (R84). -/
def blockOwes (s : State) (b : Block) : Nat :=
  let paid := match s.findSpan b.span with | some x => x.returned.contains b.index | none => false
  match b.records with
  | some rs => if paid then 0 else rs.length
  | none => 0

/-- The records of a span's blocks whose share of the charge has not been returned (R84). -/
def Span.owes (x : Span) : Nat := ((x.records.filter (fun e => !x.returned.contains e.1)).map (·.2.length)).foldl (· + ·) 0

/-- The shares of the records of a block have been returned. -/
def noteReturned (s : State) (b : Block) : State :=
  match b.records with
  | some _ => s.changeSpan b.span (fun x => { x with returned := if x.returned.contains b.index then x.returned else b.index :: x.returned })
  | none => s

/-- A block ends: its scratchpad is free, the unused part of its charge is returned, and so is the share of the records it was launched
for, once, however often its span is launched again (R84, R142, R275, R299). -/
def endBlock (s : State) (b : Block) : State :=
  let s := noteReturned (refund s b.span.part (emissionLeft s b + blockOwes s b)) b
  s.changeBlock b.span b.index (fun b => { b with ended := true, scratch := [], poison := [] })

/-- Whether an engine command of a span has a reflected write that its receiver has not performed (R170). -/
def cmdsInFlight (s : State) (id : SpanId) : Bool :=
  s.cores.any (fun e => e.2.queues.any (fun q => q.2.any (fun c =>
    c.span == id && inFlight s id.part (commandSender (cmdToken e.1 q.1 c.seq)))))

/-- Whether every write of a span is performed with respect to every .sys agent (R299, R218). -/
def spanSettled (s : State) (x : Span) : Bool := !x.members.any (waveInFlight s x.id.part) && !cmdsInFlight s x.id

/-- A pending refusal in a SPAN_DONE record (R217, R251). -/
def RefusedXfer.words (r : RefusedXfer) : List Nat :=
  [r.source, r.dest, r.link, (r.amount % 2 ^ 64).toNat, r.reason]

/-- The detail of SPAN_DONE (R251, R273, R336): span, status (0 OK, 1 FAILED), REPLAYED count, trap code, PC, lanes,
address, number of pending refusals, then the trap's detail and the first refusal. Places are the model's (log 11). -/
def Span.report (x : Span) : List Nat :=
  match x.frame with
  | none => [x.id.span, 0, x.relaunched, 0, 0, 0, 0, x.refused.length] ++ (x.refused.take 1).flatMap RefusedXfer.words
  | some f => [x.id.span, 1, x.relaunched, f.code, f.pc, f.lanes, f.addr, x.refused.length] ++ f.detail ++
      (x.refused.take 1).flatMap RefusedXfer.words

/-- Look again at the grid barrier of a launch one of whose spans has been reported (R77). -/
def releaseGrid (id : SpanId) (s : State) : State :=
  match s.allWaves.find? (fun w => sameGrid id w.span) with
  | some w => releaseBarrier .grid w s
  | none => s

/-- One more span of a launch has been reported; the launch record is retained until the grid ends (R252). -/
def launchDone (s : State) (id : SpanId) : State :=
  releaseGrid id <| s.changeCtx id.part id.ctx (fun c =>
    match tget c.launches id.lrec with
    | none => c
    | some l =>
      let n := l.finished + 1
      if l.node = none ∧ n = l.spans then { c with launches := terase c.launches id.lrec }
      else { c with launches := tset c.launches id.lrec { l with finished := n } })

/-- Report a span that has ended or failed, once its writes are performed at .sys (R251, R299). -/
def settleSpan (s : State) (id : SpanId) : State :=
  match s.findSpan id with
  | none => s
  | some x =>
    if x.phase = .ended ∧ spanSettled s x then
      let s := { s with spans := s.spans.filter (fun y => y.id != id), blocks := s.blocks.filter (fun b => b.span != id) }
      launchDone (event s id.part evSpanDone id.ctx x.report) id
    else s

/-- Report every span that only waited for its writes to be performed. -/
def settleAll (s : State) : State := (s.spans.map (·.id)).foldl settleSpan s

/-- A span all of whose blocks have ended has ended (R299). -/
def endSpan (s : State) (id : SpanId) : State :=
  match s.findSpan id with
  | none => s
  | some x =>
    if x.phase = .live && (s.blocks.filter (fun b => b.span == id)).all (fun b => b.ended) then
      settleSpan (s.changeSpan id (fun x => { x with phase := .ended })) id
    else s

/-- Whether a block has no wave left and no command or queue fence on its core that has not completed (R299). -/
def blockOver (s : State) (b : Block) : Bool :=
  !s.allWaves.any (fun w => w.span == b.span && w.block == b.index) &&
  !(s.coreOf b.core).queues.any (fun q => q.2.any (fun c => c.span == b.span && c.block == b.index)) &&
  !(s.coreOf b.core).fences.any (fun f => f.span == b.span && f.block == b.index)

/-- End a block that is over, and its span with the last of them (R299). -/
def closeBlock (s : State) (id : SpanId) (index : Nat) : State :=
  match s.findBlock id index with
  | none => s
  | some b => if !b.ended && blockOver s b then endSpan (endBlock s b) id else s

/-! ### Kills (R273 to R276, R288) -/

/-- The senders of a span's reflected stores: its waves and its engine commands (R170, R171). -/
def spanSenders (s : State) (id : SpanId) (waves : List Nat) : List Nat :=
  waves.map waveSender ++ s.cores.flatMap (fun e => e.2.queues.flatMap (fun q =>
    (q.2.filter (fun c => c.span == id)).map (fun c => commandSender (cmdToken e.1 q.1 c.seq))))

/-- Remove a span from the device: its waves halt, its engine commands end with ABORTED, its locks pass on, its open
faults are forgotten, its scratchpads and channels are gone. Its performed writes stay, and its reflected stores that are still
in a combining buffer are discarded (R273, R176). -/
def removeSpan (s : State) (id : SpanId) : State :=
  let ids := (s.allWaves.filter (fun w => w.span == id)).map (·.id)
  let members := match s.findSpan id with | some x => x.members | none => ids
  let senders := spanSenders s id members
  let lost := (s.allWaves.filter (fun w => w.span == id)).flatMap (·.refused)
  let s := dropLocks s ids
  let s := { s with
    wave := if s.wave.span = id then Wave.vacant else s.wave,
    waves := s.waves.filter (fun w => w.span != id),
    cores := s.cores.map (fun e => (e.1, e.2.abortSpan id)) }
  let s := setPart s id.part (fun p =>
    { p with faults := p.faults.filter (fun f => match f.owner with | .wave w => !ids.contains w | _ => true),
             combining := p.combining.filter (fun e => match senderOf e.2 with | some k => !senders.contains k | none => true) })
  s.changeSpan id (fun x => { x with channels := [], refused := x.refused ++ lost })

/-- Report a killed span as FAILED: its blocks end, and those of a killed attempt, which are gone, return the shares of their records;
its SPAN_DONE follows (R84, R251, R275). -/
def failSpan (s : State) (id : SpanId) (f : KillFrame) : State :=
  let s := (s.blocks.filter (fun b => b.span == id && !b.ended)).foldl endBlock s
  let s := match s.findSpan id with | some x => refund s id.part x.owes | none => s
  settleSpan (s.changeSpan id (fun x => { x with phase := .ended, frame := some f })) id

/-- Whether a killed span may be launched again: replayable, and within the relaunch limit (R274, R275). -/
def mayRelaunch (s : State) (id : SpanId) : Bool :=
  match s.findSpan id with
  | some x => x.replayable && decide (x.relaunched < s.fw.relaunchLimit)
  | none => false

/-- The launch of a span if its grid was launched with the GBAR flag and is no graph node (R79, R276). -/
def gridLaunch (s : State) (id : SpanId) : Option Launch :=
  match s.launchOf id with
  | some l => if l.gbar && l.node.isNone then some l else none
  | none => none

/-- The spans that a kill takes: the span, or every span of a grid launched with the GBAR flag that has started and has not been
reported (R276). -/
def killed (s : State) (id : SpanId) : List SpanId :=
  if (gridLaunch s id).isSome then (s.spans.filter (fun x => sameGrid id x.id && x.phase != .closed)).map (·.id) else [id]

/-- Whether a kill may be followed by a relaunch: every span it takes may be launched again, and none of its grid has been reported,
since a grid is launched again only as a whole (R275, R276). -/
def groupRelaunches (s : State) (id : SpanId) : Bool :=
  (killed s id).all (mayRelaunch s) && (match gridLaunch s id with | some l => l.finished == 0 | none => true)

/-- Whether a span has ended as FAILED already, so that its own frame stays. -/
def hasFailed (s : State) (id : SpanId) : Bool :=
  match s.findSpan id with
  | some x => x.phase == .ended && x.frame.isSome
  | none => false

/-- Kill a span with a frame (R273). It waits for its relaunch if `retry` holds and it may be launched again, what its blocks have not
used of their charges being returned, and is reported FAILED otherwise (R84, R275, R288). -/
def killSpan (s : State) (id : SpanId) (f : KillFrame) (core : Nat) (retry : Bool) : State :=
  let ids := killed s id
  let again := retry && groupRelaunches s id
  let s := ids.foldl removeSpan s
  if again then
    ids.foldl (fun s i =>
      { ((refund s i.part (spanLeft s i)).changeSpan i (fun x => { x with phase := .killed, frame := some f, badCores := [core] })) with
        blocks := s.blocks.filter (fun b => b.span != i) }) s
  else ids.foldl (fun s i => if hasFailed s i then s else failSpan s i f) s

/-- The PC that a trap of a wave names: inside a fused sequence that of its first instruction (R133). -/
def Wave.faultPc (w : Wave) : Word64 := match w.fuse with | some f => f.before.pc | none => w.pc

/-- A wave consumes poison: a CONSUMED record, and the kill of its span (R273). `unit` is R267's; `addr` is the PC when
the unit is a register, and the address or index of the sector or line otherwise. -/
def consume (s : State) (w : Wave) (unit bank addr : Nat) (lanes : Word64) : State :=
  let s := recordUncorrected s bank 2 (w.errLoc unit lanes) addr lanes
  killSpan s w.span ⟨0x20, w.faultPc.toNat, lanes.toNat, addr, [unit, addr]⟩ w.core true

/-- The issuing wave consumes a poisoned sector of memory (R270, R273). -/
def consumeSector (s : State) (w : Wave) (pa : Nat) (lanes : Word64) : State :=
  consume s w (sectorPlace s pa).2 (sectorPlace s pa).1 (pa / 32 * 32) lanes

/-- The wave consumes a poisoned register that is no vector register (R267, R270, R273). -/
def consumeRegister (s : State) (w : Wave) : State := consume s w 1 (dieBank w.core) w.faultPc.toNat 0

/-- The issuing wave consumes poisoned elements of vector registers (R270, R273). -/
def consumeElements (s : State) (w : Wave) (lanes : Word64) : State :=
  consume s w 0 (dieBank w.core) w.faultPc.toNat lanes

/-- SIG_MISMATCH and CHECKSUM are contained like a consumed error, with KIND 5 or 6 (R273, R185, R280). -/
def containCheck (s : State) (w : Wave) (code kind unit addr : Nat) (detail : List Nat) : State :=
  let s := recordUncorrected s (dieBank w.core) kind (w.errLoc unit 0) addr 0
  killSpan s w.span ⟨code, w.pc.toNat, 0, addr, detail⟩ w.core true

end Sys2Proof.Machine
end

