-- ==== Sys2Proof/Machine/Boot.lean ====
section
/-!
DEFINITION. Resets, the boot ROM, islands and power, and the host control window (R12 to R33, R269, R376).
-/

namespace Sys2Proof.Machine

open Sys2Proof

/-! ### Resets (R31, R32) -/

/-- The boot ROM at stage 0x00 after a reset: the fuses and the rollback counter stay, since RETIRE and the ROM keep them
in the fuse array (R30, R31, R277). -/
def Boot.restart (b : Boot) (warm : Bool) : Boot :=
  { b with stage := 0, port := 0, err := 0, attempt := 0, blksize := 0, image := [], sramCopy := [], halted := false, waiting := false,
           warm := warm }

/-- The device after a reset, before the ROM runs: everything at its reset value but fuses, with what they disable and
retire, memory that only the ROM zeroes (R26), what lies outside the device, and the model's own fields. -/
def restarted (warm : Bool) (s : State) : State :=
  { State.reset with
    mem := s.mem, lineKey := s.lineKey, poison := s.poison,
    boot := s.boot.restart warm, fused := s.fused, retCores := s.retCores, retRows := s.retRows, retBanks := s.retBanks,
    banks := if warm then s.banks else [],
    hostMem := s.hostMem, agenda := s.agenda, pace := s.pace, quadTurn := s.quadTurn, fresh := s.fresh, placed := s.placed,
    arrivals := s.arrivals }

/-- COLD_RESET (R31): everything; CYC restarts at 0 and the error banks are cleared. -/
def execColdReset (s : State) : Result := .next (restarted false s)

/-- A warm reset, unless one is in progress, or the device is in its thermal trip, which only a cold reset ends (R16,
R31). -/
def warmReset (s : State) : State := if s.boot.warm ∨ s.host.failed then s else restarted true s

/-- RSTCTL_WARM (R32): KEY 0xA5C3 with WARM = 1; a write with any other KEY is discarded. -/
def execRstctlWarm (_port : Nat) (value : BitVec 32) (s : State) : Result :=
  .next (if value.extractLsb' 16 16 = 0xA5C3#16 ∧ value.getLsbD 0 then warmReset s else s)

/-- FIRMWARE_WARM_RESET (R31). -/
def execFirmwareWarmReset (s : State) : Result := .next (warmReset s)

/-! ### Semaphores (R20 to R24) -/

/-- The code of a requester in OWNER (R20). -/
def ownerCode : Requester → BitVec 2
  | .port0 => 1
  | .port1 => 2
  | .management => 3

/-- The bit of a requester in SEMERR, and its place in `readData` (R24). -/
def requesterIndex : Requester → Nat
  | .port0 => 0
  | .port1 => 1
  | .management => 2

/-- OWNER of a semaphore (R20). -/
def semOwner (x : BitVec 32) : BitVec 2 := x.extractLsb' 1 2

/-- A semaphore as a read by a requester leaves it, and the value it returns (R21). -/
def semAcquire (who : Requester) (x : BitVec 32) : BitVec 32 × BitVec 32 :=
  if x.getLsbD 0 then (x, x)
  else
    let y := (x &&& 0xFFFF0010#32) ||| ((ownerCode who).setWidth 32 <<< 1) ||| 1#32
    (y, y ||| 8#32)

/-- A semaphore as a write by its owner leaves it (R21). -/
def semOwned (x value : BitVec 32) : BitVec 32 :=
  let aband := x &&& ~~~value &&& 0x10#32
  if value.getLsbD 0 then (value &&& 0xFFFF0000#32) ||| aband ||| (x &&& 7#32) else aband

/-- The rotating order of a semaphore (R22). -/
def semOrder (s : State) (n : Nat) : List Requester := tgetD s.host.order n [.port0, .port1, .management]

/-- The requesters of accesses in one cycle, in the order the block serves them, and the semaphore's order afterwards: the
requester served first then takes the lowest priority (R22). -/
def serveOrder (s : State) (n : Nat) (who : List Requester) : List Requester × List Requester :=
  let order := semOrder s n
  match order.filter who.contains with
  | a :: b :: rest => (a :: b :: rest, order.filter (· != a) ++ [a])
  | xs => (xs, order)

/-- One read of a semaphore (R21). -/
def semReadOne (n : Nat) (s : State) (who : Requester) : State :=
  let r := semAcquire who (sget s.host.sem n)
  { s with host := { s.host with sem := sset s.host.sem n r.1, readData := tset s.host.readData (requesterIndex who) r.2 } }

/-- One write of a semaphore (R21, R24). -/
def semWriteOne (n : Nat) (s : State) (who : Requester) (value : BitVec 32) : State :=
  let x := sget s.host.sem n
  if x.getLsbD 0 ∧ semOwner x = ownerCode who then
    { s with host := { s.host with sem := sset s.host.sem n (semOwned x value) } }
  else
    { s with host := { s.host with
        sem := sset s.host.sem n (x &&& ~~~(value &&& 0x10#32)),
        semerr := s.host.semerr ||| (1#32 <<< requesterIndex who) } }

/-- Keep a semaphore's order. -/
def setOrder (n : Nat) (order : List Requester) (s : State) : State :=
  { s with host := { s.host with order := tset s.host.order n order } }

/-- One access of a requester to a semaphore: its read, its write. -/
def semAccess (n : Nat) (reads : List Requester) (writes : List (Requester × BitVec 32)) (s : State) (who : Requester) : State :=
  let s := if reads.contains who then semReadOne n s who else s
  match writes.find? (fun e => e.1 == who) with
  | some e => semWriteOne n s who e.2
  | none => s

/-- The accesses, reads and writes, that reach one semaphore in the same cycle (R21, R22). -/
def serveSem (n : Nat) (reads : List Requester) (writes : List (Requester × BitVec 32)) (s : State) : State :=
  if 16 ≤ n then s
  else
    let r := serveOrder s n (reads ++ writes.map (·.1))
    setOrder n r.2 (r.1.foldl (semAccess n reads writes) s)

/-- SEM_READ (R21, R22): reads, with the writes that reach the semaphore in the same cycle. -/
def execSemRead (reads : List Requester) (writes : List (Requester × BitVec 32)) (n : Nat) (s : State) : Result :=
  .next (serveSem n reads writes s)

/-- SEM_WRITE (R21, R22): writes, with the reads that reach the semaphore in the same cycle. -/
def execSemWrite (writes : List (Requester × BitVec 32)) (reads : List Requester) (n : Nat) (s : State) : Result :=
  .next (serveSem n reads writes s)

/-- Release every semaphore of a requester, with ABAND set on each (R23). -/
def abandon (who : Requester) (s : State) : State :=
  { s with host := { s.host with
      sem := s.host.sem.map (fun e => if e.2.getLsbD 0 ∧ semOwner e.2 = ownerCode who then (e.1, 0x10#32) else e) } }

/-! ### The host control window (R19, R269) -/

/-- A bank after a write of its ERRSTAT: writing 1 to V clears every field, once the whole window is live (R19, R266, R269). -/
def clearBank (bank : Nat) (value : Word64) (s : State) : State :=
  if value.getLsbD 63 ∧ 8 ≤ s.boot.stage then { s with banks := terase s.banks bank } else s

/-- ERRSTAT_CLEAR (R269). -/
def execErrstatClear (bank : Nat) (value : Word64) (s : State) : Result := .next (clearBank bank value s)

/-- A write to the host control window: SEMERR clears the bits written as 1, and ERRSTAT its bank; every other register without a
behaviour of its own is read-only, and a write where no register is assigned is discarded (R19, R24, R265). -/
def writeWindowRegister (offset : Nat) (value : Word64) (s : State) : State :=
  if offset = 0x1080 then { s with host := { s.host with semerr := s.host.semerr &&& ~~~(value.setWidth 32) } }
  else if 0x2000 ≤ offset ∧ offset < 0x2000 + 0x40 * 22 ∧ offset % 0x40 = 0 then clearBank ((offset - 0x2000) / 0x40) value s
  else s

/-- A write to BAR4 of a port's physical function: a word of its MSI-X table; the pending bits are read-only (R17). -/
def writeBar4 (port offset : Nat) (value : Word64) (s : State) : State :=
  if offset < 0x8000 ∧ offset % 4 = 0 then
    { s with host := { s.host with
        tables := tset s.host.tables port ((tgetD s.host.tables port ⟨[], []⟩).write (offset / 4) (value.setWidth 32)) } }
  else s

/-- A write to a virtual function's BAR0 outside its common configuration and its notifications: a word of its MSI-X table
(R247). -/
def writeVfBar (p offset : Nat) (value : Word64) (s : State) : State :=
  if p < 32 ∧ 0x8000 ≤ offset ∧ offset < 0x8030 ∧ offset % 4 = 0 then
    let q := tgetD s.parts p Partition.empty
    let m := q.virtio.msix.write ((offset - 0x8000) / 4) (value.setWidth 32)
    { s with parts := tset s.parts p { q with virtio := { q.virtio with msix := m } } }
  else s

/-- REGISTER_WRITE (R17, R19, R24, R247). Writes of RSTCTL and of the semaphore registers are the events `rstctlWarm` and `semWrite`
(R21, R32; log 102). -/
def execRegisterWrite (port : Nat) (space : HostSpace) (offset : Nat) (value : Word64) (s : State) : Result :=
  .next (match space with
    | .window => writeWindowRegister offset value s
    | .bar4 => if s.host.portUp.getD port false then writeBar4 port offset value s else s
    | .vf p => if s.host.portUp.getD port false then writeVfBar p offset value s else s)

/-! ### Host ports (R23, R31) -/

/-- A partition after a port reset: the commands accepted from the port complete and their completions are discarded, and the ring's
records move up into the places that become free (R31, R248). The model's choice: the port's commands that have not been accepted are
gone, and the buffers of queue 1, the virtio configuration and the MSI-X table of the virtual function stay (log 58). -/
def Partition.portLost (p : Partition) (cyc port : Nat) : Partition :=
  let keeps (r : Record) : Bool := r.event || r.port != port
  let ring := p.ring.filter keeps
  let q : Partition :=
    { p with
      held := p.held.filter keeps, ring := ring, late := min p.late (ring.length - 45056),
      queue0 := p.queue0.filter (fun c => c.port != port),
      ctxs := p.ctxs.map (fun e => (e.1, { e.2 with waiting := e.2.waiting.map (fun x => { x with mute := x.mute || x.cmd.port == port }) })) }
  refill cyc ring.length (q.ringOver cyc)

/-- The port that an admin command came through (R245). -/
def adminPort : Instr → Nat
  | .partAssign port _ _ _ _ _ _ _ _ => port
  | .partRelease port _ _ => port
  | .domainForm port _ _ _ => port
  | .retire port _ _ _ => port
  | _ => 0

/-- The state after a port's interface is reset (R23, R31). -/
def portLost (port : Nat) (s : State) : State :=
  let s := abandon (if port = 0 then .port0 else .port1) s
  { s with
    host := { s.host with portUp := s.host.portUp.set port false, readData := terase s.host.readData port,
                          tables := terase s.host.tables port },
    admin := s.admin.filter (fun e => e.1 != port),
    adminQueue := s.adminQueue.map (fun e => if adminPort e.2 = port then (true, e.2) else e),
    parts := s.parts.map (fun e =>
      let p := e.2.portLost s.cyc port
      (e.1, { p with scrubs := p.scrubs.map (fun x => if x.admin ∧ x.port = port then { x with mute := true } else x) })) }

/-- PORT_RESET (R31): one port's interface only. -/
def execPortReset (port : Nat) (s : State) : Result := .next (if port < 2 then portLost port s else s)

/-- HOST_LINK_UP (R31): the port's interface resumes. -/
def execHostLinkUp (port : Nat) (s : State) : Result :=
  .next { s with host := { s.host with portUp := s.host.portUp.set port true } }

/-! ### The boot ROM (R25 to R30) -/

/-- Change the boot ROM's state. -/
def onBoot (s : State) (f : Boot → Boot) : State := { s with boot := f s.boot }

/-- Whether the ROM is at a stage and neither halted nor waiting. -/
def Boot.at (b : Boot) (stage : Nat) : Bool := b.stage == stage && !b.halted && !b.waiting

/-- An attempt ends with an error: the next port, or after port 7 a wait of 30 s (R27). -/
def Boot.fail (b : Boot) (err : Nat) : Boot :=
  if b.port < 7 then { b with err := err, port := b.port + 1, stage := 3, blksize := 0, image := [] }
  else { b with err := err, attempt := min 255 (b.attempt + 1), waiting := true, blksize := 0, image := [] }

/-- All SRAM and all HBM written to zero with valid ECC (R26, R33). -/
def zeroMemory (s : State) : State := { s with mem := [], lineKey := [], array := [], poison := [], sram := [] }

/-- BOOT_ROM_START (R26, R27): fuses, self test, zeroing, and the first link bring-up; a failed self test halts the ROM. -/
def execBootRomStart (selfTestOk : Bool) (s : State) : Result :=
  if !s.boot.at 0 then .next s
  else if !selfTestOk then .next (onBoot s (fun b => { b with stage := 1, err := 0x0B, halted := true }))
  else .next (onBoot (zeroMemory s) (fun b => { b with stage := 3 }))

/-- BOOT_LINK_UP (R26). -/
def execBootLinkUp (s : State) : Result := .next (onBoot s (fun b => if b.at 3 then { b with stage := 4 } else b))

/-- BOOT_LINK_TIMEOUT (R27). -/
def execBootLinkTimeout (s : State) : Result := .next (onBoot s (fun b => if b.at 3 then b.fail 0x01 else b))

/-- BOOT_DHCP_REPLY (R28): only the tftp scheme is accepted. -/
def execBootDhcpReply (tftpUrl : Bool) (s : State) : Result :=
  .next (onBoot s (fun b => if !b.at 4 then b else if tftpUrl then { b with stage := 5 } else b.fail 0x03))

/-- BOOT_DHCP_TIMEOUT (R27). -/
def execBootDhcpTimeout (s : State) : Result := .next (onBoot s (fun b => if b.at 4 then b.fail 0x02 else b))

/-- BOOT_TFTP_ERROR (R27). -/
def execBootTftpError (s : State) : Result := .next (onBoot s (fun b => if b.at 5 then b.fail 0x04 else b))

/-- BOOT_RETRY_WAIT_EXPIRY (R27): the ROM starts again at port 0. -/
def execBootRetryWaitExpiry (s : State) : Result :=
  .next (onBoot s (fun b => if b.waiting then { b with waiting := false, port := 0, stage := 3 } else b))

/-- The largest image: header and keys, payload, and signatures (R29). -/
abbrev imageLimit : Nat := 0x0B00 + 0x4000000 + 4627 + 96

/-- The error of an image by the checks of R30, in the order of the codes of R26; none if it is accepted. -/
def imageError (b : Boot) : Option Nat :=
  let f (pos n : Nat) : Nat := fieldBytes b.image pos n
  let bytes (pos n : Nat) : List Byte := (b.image.drop pos).take n
  let len := f 0x10 8
  let message := b.image.take (0x0B00 + len)
  if 0x4000000 < len then some 0x05
  else if f 0 4 ≠ 0x57514854 ∨ f 4 4 ≠ 1 ∨ f 0x0C 4 ≠ 0 ∨ len = 0 ∨ len ≤ f 0x18 8 ∨ f 0x20 32 ≠ 0 ∨ f 0x0AC0 64 ≠ 0 ∨
      b.image.length ≠ 0x0B00 + len + 4627 + 96 then some 0x06
  else if Config.sha384 (bytes 0x40 2592) ≠ b.mlHash ∨ Config.sha384 (bytes 0x0A60 96) ≠ b.ecHash then some 0x07
  else if f 8 4 < b.rollback then some 0x08
  else if !Config.mlDsaVerifies (bytes 0x40 2592) message (bytes (0x0B00 + len) 4627) then some 0x09
  else if !Config.ecdsaVerifies (bytes 0x0A60 96) message (bytes (0x0B00 + len + 4627) 96) then some 0x0A
  else none

/-- The image is complete: checked, and accepted or refused (R30). -/
def Boot.check (b : Boot) : Boot :=
  match imageError b with
  | some e => { b with stage := 6 }.fail e
  | none =>
    { b with stage := 7, sramCopy := (b.image.drop 0x0B00).take (fieldBytes b.image 0x10 8),
             rollback := max b.rollback (fieldBytes b.image 8 4) }

/-- The block size of a transfer: 512 where the server does not answer the option, and none where its answer lies outside 512 to
8,192 (R28; RFC 1350 and RFC 2348, log 55). -/
def acceptedSize (blksize : Option Nat) : Option Nat :=
  match blksize with
  | some n => if 512 ≤ n ∧ n ≤ 8192 then some n else none
  | none => some 512

/-- A block of the transfer, once its block size is agreed: one that is too long is a TFTP error, and one that is shorter ends the
transfer and starts the checks (R28, R30). -/
def Boot.takeBlock (b : Boot) (block : List Byte) : Boot :=
  if b.blksize < block.length then b.fail 0x04
  else
    let c := { b with image := b.image ++ block }
    if block.length < b.blksize then c.check else c

/-- BOOT_TFTP_DATA (R28): the first block brings the options that the server has answered. A transfer whose announced size exceeds
the image limit is refused. -/
def execBootTftpData (tsize blksize : Option Nat) (block : List Byte) (s : State) : Result :=
  .next (onBoot s (fun b =>
    if !b.at 5 then b
    else if b.blksize ≠ 0 then b.takeBlock block
    else if (match tsize with | some n => decide (imageLimit < n) | none => false) then b.fail 0x05
    else
      match acceptedSize blksize with
      | some n => { b with blksize := n }.takeBlock block
      | none => b.fail 0x04))

/-- What firmware sets, kept within the bounds that the manual gives (R15, R257, R275). -/
def Firmware.bounded (f : Firmware) : Firmware :=
  { f with preemptTimeout := max 10000 (min 10000000 f.preemptTimeout), relaunchLimit := min 15 f.relaunchLimit,
           powerCap := min 3000000 f.powerCap }

/-- FIRMWARE_READY (R33): STAGE 0x08; front ends and window are live with what firmware has set, and a warm reset is over
(R31). -/
def execFirmwareReady (settings : Firmware) (s : State) : Result :=
  .next (if s.boot.at 7 then { (onBoot s (fun b => { b with stage := 8, warm := false })) with fw := Firmware.bounded settings }
    else s)

/-! ### Islands and power (R12 to R16, R376) -/

/-- An island's state. -/
def islandAt (s : State) (i : Nat) : Island := tgetD s.islands i Island.initial

/-- Change an island. -/
def onIsland (s : State) (i : Nat) (f : Island → Island) : State := { s with islands := tset s.islands i (f (islandAt s i)) }

/-- One operating point lower, if the island is ACTIVE and above point 0 (R15). -/
def Island.lower (x : Island) : Island := if x.state = .active then { x with point := x.point - 1 } else x

/-- The islands of a die (R12). -/
def dieIslands (die : Nat) : List Nat := (List.range 8).map (8 * die + ·)

/-- Every island of the device. -/
abbrev allIslands : List Nat := List.range 64

/-- Whether the limiter may gate an island: ACTIVE, at point 0, and 4 us after it last gated it (R15). -/
def gateable (s : State) (i : Nat) : Bool :=
  let x := islandAt s i
  x.state == .active && x.point == 0 && (match x.gatedAt with | some t => decide (t + 4000 ≤ s.cyc) | none => true)

/-- The island of a list whose turn to be gated comes next: the first gateable one behind the one gated last, and around (R15). The
model's choice: after reset the turn begins at island 0 (log 1). -/
def nextGated (s : State) (islands : List Nat) : Option Nat :=
  (islands.filter (fun i => decide (s.power.turn ≤ i)) ++ islands.filter (fun i => decide (i < s.power.turn))).find? (gateable s)

/-- Gate an island's clock (R15). -/
def gateIsland (s : State) (i : Nat) : State :=
  { (onIsland s i (fun x => { x with gatedAt := some s.cyc })) with power := { s.power with turn := i + 1 } }

/-- THERMAL_THROTTLE (R16): the die's islands are lowered as in R15, and of those at point 0 the next in turn is gated. -/
def execThermalThrottle (die : Nat) (s : State) : Result :=
  let next := nextGated s (dieIslands die)
  let t := (dieIslands die).foldl (fun s i => onIsland s i Island.lower)
    { s with power := { s.power with hot := tset s.power.hot die s.cyc } }
  .next (match next with | some i => gateIsland t i | none => t)

/-- Whether a block stands on its core: not ended, in a live span. A saved span's block holds nothing there (R257). -/
def Block.holds (s : State) (b : Block) : Bool :=
  !b.ended && (match s.findSpan b.span with | some x => x.phase == .live | none => false)

/-- THERMAL_TRIP (R16): every island OFF, with what is resident lost (R12), and both links report the device as failed. -/
def execThermalTrip (s : State) : Result :=
  let t := allIslands.foldl (fun s i => onIsland s i (fun x => { x with state := .off, waking := false })) s
  .next { t with
    host := { t.host with failed := true },
    cores := [],
    blocks := s.blocks.filter (fun b => !b.holds s),
    wave := if s.wave.resident then Wave.vacant else s.wave,
    waves := s.waves.filter (fun w => !w.resident) }

/-- POWER_SAMPLE (R15): the average of the last 100 us; a gating that has begun lasts its 1 us. -/
def execPowerSample (milliwatts : Nat) (s : State) : Result :=
  let samples := (s.power.samples ++ [milliwatts]).drop (s.power.samples.length + 1 - 100)
  let above := decide (100 * s.fw.powerCap < samples.foldl (· + ·) 0)
  .next { s with power := { s.power with samples := samples, above := above } }

/-- POWER_STEP_DOWN (R15): while the average exceeds the cap. -/
def execPowerStepDown (s : State) : Result :=
  .next (if s.power.above then allIslands.foldl (fun s i => onIsland s i Island.lower) s else s)

/-- POWER_CLOCK_GATE (R15): an island at point 0 is gated for 1 us when its turn has come. -/
def execPowerClockGate (island : Nat) (s : State) : Result :=
  .next (if s.power.above ∧ nextGated s allIslands = some island then gateIsland s island else s)

/-- OPERATING_POINT_CHANGE (R14): nothing but the cycle time changes; while the limiter, or the management complex for heat, lowers
the island, a request to raise it is overridden (R15, R16). -/
def execOperatingPointChange (island point : Nat) (s : State) : Result :=
  if 15 < point ∨ (lowering s island ∧ (islandAt s island).point < point) then .next s
  else .next (onIsland s island (fun x => { x with point := point }))

/-- Whether a block is bound to a core of an island. -/
def islandBound (s : State) (i : Nat) : Bool := s.blocks.any (fun b => islandOf b.core == i && b.holds s)

/-- The cores' stores of an island zeroed: registers have no state outside waves, and scratchpads none outside blocks
(R13). -/
def zeroIsland (s : State) (i : Nat) : State := { s with cores := s.cores.filter (fun e => islandOf e.1 != i) }

/-- ISLAND_OFF (R13): only where no block is bound; what it held is lost. The model's choice: accumulator slots that a saved block has
left on a core are no bound block, so they are lost as well (R187, R263; log 56). -/
def execIslandOff (island : Nat) (s : State) : Result :=
  if islandBound s island then .next s
  else .next (onIsland (zeroIsland s island) island (fun x => { x with state := .off, waking := false }))

/-- Whether a bind record that waits in a slot table names a core of an island (R13, R253). -/
def recordNames (s : State) (i : Nat) : Bool :=
  s.parts.any (fun e => e.2.slots.any (fun r => r.2.w0.getLsbD 0 && islandOf (field r.2.w0.toNat 1 9) == i))

/-- ISLAND_WAKE (R13): a bind record that names a core in an island that is not ACTIVE starts bringing it there. -/
def execIslandWake (island : Nat) (s : State) : Result :=
  if recordNames s island ∧ (islandAt s island).state ≠ .active ∧ !s.host.failed then
    .next (onIsland s island (fun x => { x with waking := true }))
  else .next s

/-- ISLAND_ACTIVE (R13): an island that was OFF reports ACTIVE with its state zeroed. -/
def execIslandActive (island : Nat) (s : State) : Result :=
  let x := islandAt s island
  if !x.waking then .next s
  else
    let s := if x.state = .off then zeroIsland s island else s
    .next (onIsland s island (fun x => { x with state := .active, waking := false }))

end Sys2Proof.Machine
end

