-- ==== Sys2Proof/Machine/Flags.lean ====
section
/-!
DEFINITION. The flags and the signature of a wave: SATF and ARM (R122, R123), the exceptional results of each
instruction as flags, and the running CRC of the issue stream (R278, R279).
-/

namespace Sys2Proof.Machine

open Sys2Proof

/-- An instruction ORs its flags into SATF, and sets ARM if AUTO has the bit of one of them (R122, R123). -/
def Wave.orFlags (f : Word64) (w : Wave) : Wave :=
  { w with satf := w.satf ||| (f &&& 0xF#64),
           satctl := if (w.satctl >>> 4) &&& (f &&& 0xF#64) = 0 then w.satctl else w.satctl ||| 1#64 }

/-- The union of the flags that the lanes of a mask raise. -/
def flagsOver (mask : Word64) (f : Nat → Word64) : Word64 := (lanesOf mask).foldl (fun acc l => acc ||| f l) 0

/-- One bit of CRC-32C (R279). -/
def crcBit (x : BitVec 32) : BitVec 32 := if x.getLsbD 0 then (x >>> 1) ^^^ 0x82F63B78#32 else x >>> 1

/-- One byte of CRC-32C (R279). -/
def crcByte (x : BitVec 32) (b : Byte) : BitVec 32 :=
  crcBit (crcBit (crcBit (crcBit (crcBit (crcBit (crcBit (crcBit (x ^^^ b.setWidth 32))))))))

/-- C(x, w) of R279: the four bytes of a word, least significant first. -/
def crcWord (x : BitVec 32) (w : Nat) : BitVec 32 := (leSplit 4 w).foldl crcByte x

/-- fold(x) of R279. -/
def foldMask (x : Word64) : Nat := ((x >>> 32).setWidth 32 ^^^ x.setWidth 32).toNat

/-- The word of an encoded instruction, a 16-bit form zero-extended; 0 for an event. -/
def wordOf (i : Instr) : Nat :=
  match encode i with
  | some (_, w) => w
  | none => 0

/-- A word with bits [3:1] set to 0, as the signature hashes it (R279). A 16-bit form has part of OP16 there and no
stall; R279 clears the bits of every word. -/
def unstalled (w : Nat) : Nat := w / 16 * 16 + w % 2

/-- OP of a structured instruction (R63), and none of any other. -/
def structuredOp : Instr → Option Nat
  | .ifm _ _ _ => some 0x06
  | .els _ _ => some 0x07
  | .endif _ => some 0x08
  | .loop _ => some 0x09
  | .brk _ _ => some 0x0A
  | .cont _ _ => some 0x0B
  | .endl _ _ => some 0x0C
  | .exitm _ _ => some 0x0D
  | .endw _ => some 0x0E
  | _ => none

/-- Whether the signature leaves an instruction out: NOP words and SIGCHK (R279). -/
def unhashed : Instr → Bool
  | .nop _ => true
  | .sigchk _ _ => true
  | _ => false

/-- inv of R279, from the mask stack after an instruction and the token it popped: 0 whenever the mask logic is
correct. -/
def invOf (i : Instr) (before after : Wave) : Nat :=
  match i with
  | .ifm _ _ _ =>
    match after.stack with
    | t :: _ => foldMask ((t.brkm ||| (t.saved &&& ~~~t.brkm)) ^^^ t.saved)
    | [] => 0
  | .els _ _ =>
    match after.stack with
    | t :: _ => foldMask ((t.brkm ||| after.active) ^^^ t.saved)
    | [] => 0
  | .endif _ =>
    match before.stack with
    | t :: _ => foldMask (after.active ^^^ t.saved)
    | [] => 0
  | _ => 0

/-- SIG after an instruction that a wave has issued (R279): unchanged unless EN was 1 and the level user at its issue.
`before` and `after` are the wave around it, and `moved` says that it took a skip, a branch or an ENDL jump back. -/
def hashed (i : Instr) (before after : Wave) (moved : Bool) : Word64 :=
  if !before.sigctl.getLsbD 0 || before.level != .user || unhashed i then after.sig
  else if moved then 0
  else
    let x := crcWord (after.sig.setWidth 32) (unstalled (wordOf i))
    let x := match structuredOp i with
      | some op => crcWord (crcWord x (invOf i before after)) (after.stack.length * 256 + op)
      | none => x
    x.setWidth 64

end Sys2Proof.Machine
end

