-- ==== Sys2Proof/Machine/Checks.lean ====
section
/-!
DEFINITION. The checks of single instructions that R108 ranks before an operation's own traps: ILLOP where the mask stack, a
token or the graph does not fit, ALIGN of a register target, and MASK_DEPTH (R64, R66, R160, R190, R300, R304, R317, R373).
-/

namespace Sys2Proof.Machine

open Sys2Proof

/-! ### The mask stack and register targets (R62, R64, R66) -/

/-- The depth of the mask stack (R59, R62). -/
abbrev maskDepth : Nat := 16

/-- Remove lanes from the loop: they join the mask that `f` changes in the innermost LOOP token, and leave SAVED of
every token above it; none if there is no LOOP token (R64). -/
def leaveLoop (x : Word64) (f : Token → Token) : List Token → Option (List Token)
  | [] => none
  | t :: rest =>
    if t.kind = .loop then some (f t :: rest)
    else (leaveLoop x f rest).map (fun rest => { t with saved := t.saved &&& ~~~x } :: rest)

/-- Whether the newest token of a wave is of one of some kinds. -/
def Wave.topIs (w : Wave) (p : TokenKind → Bool) : Bool :=
  match w.stack with
  | t :: _ => p t.kind
  | [] => false

/-- Whether a register target does not stand on a fetch-block boundary (R66). -/
def offBoundary (x : Word64) : Bool := decide (x.toNat % 64 ≠ 0)

/-! ### Graph nodes (R83, R252, R300, R317) -/

/-- Whether a node of a context is declared. -/
def nodeDeclared (s : State) (part ctx node : Nat) : Bool :=
  match s.findCtx part ctx with
  | some c => (tget c.nodes node).isSome
  | none => false

/-- The node that successor `k` of a grid names; none where it is not declared (R83, R252, R300). -/
def successorNode (s : State) (id : SpanId) (k : Nat) : Option Nat :=
  match s.launchOf id with
  | none => none
  | some l =>
    let n := l.succ.getD k 0xFFFF
    if l.graph && decide (k ≤ 15) && n != 0xFFFF && nodeDeclared s id.part id.ctx n then some n else none

/-- The records that a wave's block was launched for; none outside a consumer block (R317). -/
def blockRecords (s : State) (w : Wave) : Option (List (List Byte)) :=
  match s.findBlock w.span w.block with
  | some b => b.records
  | none => none

/-! ### Tokens and handles (R160, R190, R243, R373) -/

/-- Q of a token (R190). -/
def tokenQueue (x : Word64) : Nat := field x.toNat 9 3
/-- SEQ of a token (R190). -/
def tokenSeq (x : Word64) : Nat := field x.toNat 16 32

/-- CORE of a token (R190). -/
def tokenCore (x : Word64) : Nat := field x.toNat 0 9

/-- Whether a token has the fields of R190 and names the wave's core (R373). -/
def tokenShaped (w : Wave) (x : Word64) : Bool :=
  field x.toNat 12 4 == 0 && field x.toNat 48 16 == 0 && tokenCore x == w.core

/-- Whether a queue of the wave's core, or a QFENCE on it, has issued a token (R160, R190). -/
def engineToken (s : State) (w : Wave) (x : Word64) : Bool :=
  let q := tokenQueue x
  tokenShaped w x && (decide (q ≤ 4) || q == 7) && decide (tokenSeq x < tgetD (s.coreOf (tokenCore x)).nextSeq q 0)

/-- Whether a handle of a notification queue has no bit outside its fields (R243). -/
def handleShaped (x : Word64) : Bool := x &&& ~~~(0x3F0E00#64) == 0

/-- Whether WAITK refuses its operand (R373). -/
def waitkIllegal (s : State) (w : Wave) (x : Word64) : Bool :=
  if tokenQueue x = 5 then !handleShaped x
  else if tokenQueue x = 6 then !tokenShaped w x || decide (w.ratoms ≤ tokenSeq x)
  else !engineToken s w x

/-! ### K-steps that have not rounded (R181) -/

/-- Whether the matrix engine has a K-step of a wave on a tile that has not rounded (R181, R262). -/
def ownStep (c : Core) (wave z : Nat) : Bool :=
  c.steps.any (fun x => x.wave == wave && x.slot == z) ||
  c.flight.any (fun f => !f.loop && f.input.wave == wave && f.input.slot == z)

/-- Whether the matrix engine has any K-step of a wave that has not rounded (R263). -/
def stepsLeft (c : Core) (wave : Nat) : Bool :=
  c.steps.any (fun x => x.wave == wave) || c.flight.any (fun f => !f.loop && f.input.wave == wave)

/-- Whether an instruction would write a register of a fragment that the matrix engine has not yet read (R181). -/
def writesFragment (c : Core) (wave : Nat) (i : Instr) : Bool :=
  c.steps.any (fun x => x.wave == wave && i.writes.any (fun r => match r with
    | .v n => decide (x.first ≤ n) && decide (n < x.first + 8)
    | _ => false))

/-- Whether an instruction reads a tile into which a K-step of the wave has not rounded (R181): MXRDZ, MXSTZ and MXCHK wait for it. -/
def readsUnrounded (c : Core) (wave : Nat) (i : Instr) : Bool :=
  i.reads.any (fun r => match r with
    | .tile z => ownStep c wave z
    | _ => false)

/-! ### The checks together (R108) -/

/-- Whether an instruction that its shared conditions let pass raises ILLOP, ALIGN at a branch or MASK_DEPTH: these come
before the traps of its operation, STALL_SHORT among them, and before it consumes poison (R108; log 23). A check that
needs a poisoned register is not made. -/
def early (i : Instr) (s : State) : Bool :=
  let w := s.wave
  match i with
  | .ifm _ _ _ => w.stack.length == maskDepth
  | .loop _ => w.stack.length == maskDepth
  | .els _ _ => !w.topIs (· == .ifThen)
  | .endif _ => !w.topIs (· != .loop)
  | .endl _ _ => !w.topIs (· == .loop)
  | .brk _ _ => (leaveLoop 0 id w.stack).isNone
  | .cont _ _ => (leaveLoop 0 id w.stack).isNone
  | .ret r _ => !w.tainted (.s r.toNat) && offBoundary (w.sval r.toNat)
  | .jmpr r _ => !w.tainted (.s r.toNat) && offBoundary (w.sval r.toNat)
  | .eret _ => w.level == .user
  | .emit _ n _ _ => !w.tainted (.s n.toNat) && (successorNode s w.span (w.sval n.toNat).toNat).isNone
  | .recin _ _ _ => (blockRecords s w).isNone
  | .cpwait r _ => !w.inWait && !w.tainted (.s r.toNat) && !engineToken s w (w.sval r.toNat)
  | .waitk r _ => !w.inWait && !w.tainted (.s r.toNat) && waitkIllegal s w (w.sval r.toNat)
  | _ => false

end Sys2Proof.Machine
end

