-- ==== Sys2Proof/Machine/Ops.lean ====
section
/-!
DEFINITION. The operations that the meanings share: fetching, taking a trap and returning from one, the conditions
before an instruction acts, how it completes, how it waits, and the writing of its results.
-/

namespace Sys2Proof.Machine

open Sys2Proof

/-! ### Fetch (R89, R90) -/

/-- The leaf of one halfword of code at an address, or the cause that fetching it meets (R90); code in a poisoned sector
is not executed as if it were good (R264). -/
def fetchLeaf (s : State) (w : Wave) (va : Nat) : Except Cause Leaf :=
  match access s w.span.part w.span.ctx .fetch va 2 with
  | .ok l => if rangePoisoned s l va 2 then .error (.poison (l.pa va)) else .ok l
  | .error c => .error c

/-- The bytes of one halfword of code at an address, or the cause that fetching it meets (R90). -/
def fetchHalf (s : State) (w : Wave) (va : Nat) : Except Cause (List Byte) :=
  match fetchLeaf s w va with
  | .ok l => .ok (loadBytes s l va 2)
  | .error c => .error c

/-- The bytes of the instruction at an address: two, or four if its length bit is 1; or the address of the halfword that
cannot be fetched and its cause (R89, R90). -/
def fetchBytes (s : State) (w : Wave) (va : Nat) : Except (Nat × Cause) (List Byte) :=
  match fetchHalf s w va with
  | .error c => .error (va, c)
  | .ok lo =>
    if (lo.getD 0 0).getLsbD 0 then
      match fetchHalf s w ((va + 2) % 2 ^ 64) with
      | .error c => .error ((va + 2) % 2 ^ 64, c)
      | .ok hi => .ok (lo ++ hi)
    else .ok lo

/-- The bank array after the fetch of one halfword: its walk and its line (R143 to R145). -/
def touchFetch (s : State) (w : Wave) (va : Nat) : State :=
  let s := touchWalks s w.span.part w.span.ctx [va]
  match fetchLeaf s w va with
  | .ok l => touch s w.span.part false l va 2
  | .error _ => s

/-- The bank array after the fetch of the issuing wave's instruction (R89, R90). -/
def fetched (s : State) : State :=
  let w := s.wave
  let va := w.pc.toNat
  let t := touchFetch s w va
  match fetchHalf t w va with
  | .ok lo => if (lo.getD 0 0).getLsbD 0 then touchFetch t w ((va + 2) % 2 ^ 64) else t
  | .error _ => t

/-- The instruction at an address, if it can be fetched and its word is one. -/
def instrAt (s : State) (w : Wave) (va : Nat) : Option Instr :=
  match fetchBytes s w va with
  | .ok bs => match decode bs with
    | .ok (i, _) => some i
    | .error _ => none
  | .error _ => none

/-! ### Waiting (R85) -/

/-- The issuing wave waits. -/
def sleepOn (x : Wait) (s : State) : State := s.onWave (fun w => { w with wait := x, since := s.cyc })

/-- The issuing wave's instruction waits, and acts when its condition holds; it has issued (R68, R85). -/
def waitAgain (x : Wait) (s : State) : State := s.onWave (fun w => { w with wait := x, issued := true, since := s.cyc })

/-! ### Taking a trap (R302, R303, R335) -/

/-- A trap that an instruction raises and that ERET returns to (R335). -/
def trapOf (i : Instr) (code : Nat) (lanes : Word64) (va : Nat) (detail : List Nat) : Trap :=
  ⟨code, lanes, BitVec.ofNat 64 va, false, detail.map (BitVec.ofNat 64), wordOf i, i.length⟩

/-- The 128 doublewords of a trap frame (R302, R303): s24 to s31, the fields of R303, and the detail, zero beyond it. -/
def frameWords (t : Trap) (w : Wave) : List Word64 :=
  let run := match w.run with
    | some r => 2 ^ 16 + r.pos % 32 * 2 ^ 17 + r.left % 32 * 2 ^ 22
    | none => 0
  let fields : List Word64 :=
    [BitVec.ofNat 64 (t.code + run + w.stack.length * 2 ^ 27), w.pc,
     if t.next then w.pc + BitVec.ofNat 64 t.length else w.pc, w.active, w.retired, BitVec.ofNat 64 t.word, t.lanes, t.va]
  ((List.range 8).map (fun k => sget w.s (24 + k)) ++ fields ++ t.detail ++ List.replicate 112 0).take 128

/-- Store doublewords from an address up, each one store of the wave (R302). -/
def storeWords (s : State) (w : Wave) (l : Leaf) : Nat → List Word64 → State
  | _, [] => s
  | va, x :: xs =>
    let s := storeBytes s w.span.part (waveSender w.id) l va (leSplit 8 x.toNat)
    storeWords (countAccess s w.span.part w.span.ctx va 0 1) w l (va + 8) xs

/-- The latest cycle at which a pending result of a wave becomes readable. -/
def Wave.settledAt (w : Wave) : Nat := w.pend.foldl (fun t e => max t e.due) 0

/-- The wave at the first instruction of its handler (R302): every older result is written. -/
def Wave.entered (w : Wave) (P : Nat) : Wave :=
  { w with level := .supervisor, active := ~~~w.retired, pc := w.trapvec, run := none, pend := [], fuse := none,
           trap := none, inWait := false, issued := false, wait := .running, readyAt := max (w.now + P) w.settledAt }

/-- The sectors of a frame that s24 to s31 go to are poisoned where the register is: poison travels with the data (R264). -/
def frameTaint (l : Leaf) (va : Nat) (w : Wave) (s : State) : State :=
  ((List.range 8).filter (fun k => w.poisoned (.s (24 + k)))).foldl (fun s k => poisonSector s (l.pa (va + 8 * k))) s

/-- Whether the entry into a handler would use a poisoned TRAPVEC or TRAPFRAME (R264, R270). -/
def Wave.entrySpoilt (w : Wave) : Bool := w.poisoned (.csr 0x050) || w.poisoned (.csr 0x051)

/-- The stores of a frame on the issuing wave, and the entry into its handler (R302). -/
def enterHandler (t : Trap) (l : Leaf) (s : State) : State :=
  let w := s.wave
  let va := w.trapframe.toNat
  let s := storeWords s w l va (frameWords t w)
  let s := frameTaint l va w (clearCovered s ((List.range 1024).map (fun j => l.pa (va + j))))
  let s := if l.cls = 2 then clearReplay s w.span else s
  s.onWave (fun w => w.entered (s.passes w))

/-- Deliver a trap on the issuing wave: the frame is written and the wave enters its handler. A fault on a frame write
kills the span (R302, R288). The frame's stores to strongly ordered memory follow what of the wave is on its way to other devices, for
which the trap waits, and the handler follows them (R168, R302). -/
def deliver (t : Trap) (s : State) : Result :=
  let w := s.wave
  let va := w.trapframe.toNat
  if w.entrySpoilt then .next (consumeRegister s w) else
  let s := touchWalks s w.span.part w.span.ctx [va]
  match access s w.span.part w.span.ctx .store va 1024 with
  | .error (.device pa) => .fault (.deviceRegister pa)
  | .error (.poison pa) => .next (consumeSector s w pa 0)
  | .error c =>
    .next (killSpan s w.span ⟨if c = .conserved then 0x07 else 0x05, w.pc.toNat, 0, va, [c.code]⟩ w.core false)
  | .ok l =>
    if l.mt = 3 ∧ waveInFlight s w.span.part w.id then .next (s.onWave (fun w => { w with trap := some t }))
    else
      let u := enterHandler t l s
      .next (if l.mt = 3 ∧ waveInFlight u w.span.part w.id then sleepOn (.retryReflected false) u else u)

/-- A wave with the state it had at a checkpoint (R133, R156). -/
def Wave.restore (w : Wave) (c : Checkpoint) : Wave :=
  { w with pc := c.pc, run := c.run, s := c.s, v := c.v, m := c.m, active := c.active, retired := c.retired,
           stack := c.stack, a := c.a, satf := c.satf, satctl := c.satctl, sig := c.sig, sigctl := c.sigctl,
           sbchk := c.sbchk, trapvec := c.trapvec, trapframe := c.trapframe, xdom := c.xdom, pend := c.pend,
           poisonV := c.poisonV, poisonS := c.poisonS, poisonM := c.poisonM, poisonA := c.poisonA, poisonC := c.poisonC }

/-- The state of a wave that a checkpoint keeps. -/
def Wave.checkpoint (w : Wave) : Checkpoint :=
  { pc := w.pc, run := w.run, s := w.s, v := w.v, m := w.m, active := w.active, retired := w.retired,
    stack := w.stack, a := w.a, satf := w.satf, satctl := w.satctl, sig := w.sig, sigctl := w.sigctl,
    sbchk := w.sbchk, trapvec := w.trapvec, trapframe := w.trapframe, xdom := w.xdom, pend := w.pend,
    poisonV := w.poisonV, poisonS := w.poisonS, poisonM := w.poisonM, poisonA := w.poisonA, poisonC := w.poisonC }

/-- A trap inside a fused sequence is reported at its first instruction, with the state before it (R133). -/
def Wave.unfuse (w : Wave) (t : Trap) : Wave × Trap :=
  match w.fuse with
  | some f => ({ w.restore f.before with fuse := none }, { t with word := f.word, length := 4 })
  | none => (w, t)

/-- Raise a trap on the issuing wave. At supervisor level it kills the span (R288); behind an instruction in page-fault
service it waits for it (R302, R337); otherwise it is delivered. -/
def raise (t : Trap) (s : State) : Result :=
  let u := s.wave.unfuse t
  let w := u.1
  let s := { s with wave := w }
  if w.level = .supervisor then
    .next (killSpan s w.span ⟨t.code, w.pc.toNat, t.lanes.toNat, t.va.toNat, t.detail.map (·.toNat)⟩ w.core false)
  else if w.service.isSome then .next { s with wave := { w with trap := some u.2 } }
  else deliver u.2 s

/-- Raise a trap after which ERET continues behind the instruction; the instruction counts as issued (R279, R303). -/
def raiseNext (i : Instr) (t : Trap) (s : State) : Result :=
  raise { t with next := true } (s.onWave (fun w => { w with sig := hashed i w w false }))

/-! ### Completing (R67 to R72, R279) -/

/-- The beats from an instruction's issue to the next (R68, R69, R72): RUN and RUNEND take no issue beat. -/
def issueBeats : Instr → Nat
  | .run _ st => st.toNat
  | .runend _ _ _ st => st.toNat
  | i => 1 + i.stall

/-- The result registers of a fused sequence: vMx, vY and vSum, in issue order (R132). -/
def Wave.fusedResults (w : Wave) (i : Instr) (f : FusePoint) (P : Nat) : Wave :=
  let regs := match i with
    | .vlred _ _ _ a d _ => [d.toNat, a.toNat]
    | _ => []
  let first := field f.word 11 6
  ((first :: regs).eraseDups).foldl (fun w r => w.note (.v r) (w.elements r) (3 * P + 6) true) { w with fuse := none }

/-- Count an instruction of a fused sequence; with the fourth its results become interlocked together (R132). -/
def Wave.countFused (w : Wave) (i : Instr) (P : Nat) : Wave :=
  match w.fuse with
  | none => w
  | some f => if f.left ≤ 1 then w.fusedResults i f P else { w with fuse := some { f with left := f.left - 1 } }

/-- The issuing wave has executed an instruction: it continues at `target`, or behind the instruction, after its beats,
its stall and `extra` cycles (R67, R68). `before` is the wave at its issue. -/
def retire (i : Instr) (extra : Nat) (target : Option Word64) (before : Wave) (s : State) : State :=
  let w := s.wave
  let P := s.passes w
  let w := { w with
    sig := hashed i before w target.isSome,
    pc := target.getD (w.pc + BitVec.ofNat 64 i.length),
    readyAt := w.now + P * issueBeats i + extra,
    since := s.cyc,
    inWait := false,
    issued := false,
    run := w.run.map (fun (r : RunState) => ⟨r.pos + 1, r.left - 1⟩) }
  { s with wave := w.countFused i P }

/-- The issuing wave has executed an instruction that does not transfer control. -/
def done (i : Instr) (before : Wave) (s : State) : Result := .next (retire i 0 none before s)

/-! ### Before an instruction acts (R107, R108, R74, R156, R270) -/

/-- Instructions that wait for one in page-fault service whatever they read: memory, atomic, barrier, fence, engine,
channel and matrix instructions, and END (R156, R262). -/
def ordered : Instr → Bool
  | .sld _ _ _ _ => true
  | .sst _ _ _ _ => true
  | .bar _ => true
  | .sbar _ => true
  | .gbar _ => true
  | .fence _ _ => true
  | .qlock _ _ => true
  | .qunlock _ _ => true
  | .send _ _ _ _ => true
  | .recv _ _ _ _ => true
  | .vld _ _ _ _ _ _ => true
  | .vst _ _ _ _ _ _ => true
  | .vlds _ _ _ _ _ _ => true
  | .vsts _ _ _ _ _ _ => true
  | .atom _ _ _ _ _ _ _ _ => true
  | .red _ _ _ _ _ _ _ _ => true
  | .wfence _ => true
  | .rst _ _ _ _ _ _ => true
  | .ratom _ _ _ _ _ _ _ => true
  | .xfer _ _ _ _ _ => true
  | .xferx _ _ _ _ _ => true
  | .ftotal _ _ _ _ => true
  | .fbind _ _ => true
  | .fbindSeal _ _ => true
  | .mxloop _ _ _ _ => true
  | .cpy _ _ _ _ => true
  | .bload _ _ _ _ => true
  | .cbld _ _ _ _ => true
  | .qfence _ _ _ _ => true
  | .nwri _ _ _ _ => true
  | .cpwait _ _ => true
  | .waitk _ _ => true
  | .emit _ _ _ _ => true
  | .mxmma _ _ _ _ _ => true
  | .mxzero _ _ => true
  | .mxldz _ _ _ => true
  | .mxstz _ _ _ => true
  | .mxrdz _ _ _ _ => true
  | .mxchk _ _ _ _ => true
  | .endw _ => true
  | .eret _ => true
  | _ => false

/-- Whether a CSR number is SATF or SATCTL: its accesses wait for older instructions (R123, R156). -/
def orderedCsr (n : Nat) : Bool := n == 0x020 || n == 0x021

/-- The CSR that an instruction names. -/
def csrOf : Instr → Option Nat
  | .scsr c _ _ => some c.toNat
  | .scsw c _ _ => some c.toNat
  | .scss c _ _ => some c.toNat
  | .scsc c _ _ => some c.toNat
  | _ => none

/-- The accumulator slot whose ACCOWN an instruction writes (R262). -/
def ownerWritten : Instr → Option Nat
  | .scsw c _ _ => if 0x100 ≤ c.toNat ∧ c.toNat ≤ 0x13F then some (c.toNat - 0x100) else none
  | .scss c _ _ => if 0x100 ≤ c.toNat ∧ c.toNat ≤ 0x13F then some (c.toNat - 0x100) else none
  | .scsc c _ _ => if 0x100 ≤ c.toNat ∧ c.toNat ≤ 0x13F then some (c.toNat - 0x100) else none
  | _ => none

/-- The accumulator slot that an instruction in page-fault service acts on (R182). -/
def MemReq.slot : MemReq → Option Nat
  | .mxldz z _ => some z
  | .mxstz z _ => some z
  | _ => none

/-- Whether an instruction waits for the wave's instruction in page-fault service (R156, R262). -/
def awaits (i : Instr) (sv : Service) : Bool :=
  ordered i || (match ownerWritten i, sv.req.slot with | some z, some k => z == k | _, _ => false) || (match csrOf i with | some n => orderedCsr n | none => false) ||
  (i.reads ++ i.writes).any sv.writes.contains

/-- Whether the wave's instruction in page-fault service holds an instruction back (R156). -/
def Wave.holdsBack (w : Wave) (i : Instr) : Bool :=
  match w.service with
  | some sv => awaits i sv
  | none => false

/-- What STALL_SHORT would name: with SBCHK.EN = 1, a source whose fixed-latency result is not ready (R74). A fused sequence
is one operation, in which no reader is short of what an earlier one of its instructions gives (R132; log 72). -/
def Wave.stallShort (w : Wave) (i : Instr) : Option RegId :=
  if w.sbchk.getLsbD 0 && w.fuse.isNone then i.shortSource w else none

/-- What every instruction meets before it acts, in order: ILLOP, the wait for an instruction in page-fault service, the
checks of its own that R108 ranks first, which its meaning reports, then STALL_SHORT, and the consumption of poisoned
registers (R107, R108, R156, R74, R270). -/
def gate (i : Instr) (s : State) (act : State → Result) : Result :=
  let w := s.wave
  if illegal i w then raise (trapOf i 0x01 0 0 []) s
  else if w.holdsBack i then .next (waitAgain .retryService s)
  else if early i s then act s
  else
    match w.stallShort i with
    | some r => raise (trapOf i 0x04 0 0 [r.designator]) s
    | none =>
      match i.consumed w with
      | some (unit, lanes) => .next (consume s w unit (dieBank w.core) w.faultPc.toNat lanes)
      | none => act s

/-- Whether an instruction passes the gate of the issuing wave, so that its meaning is reached: no ILLOP of R107, no wait
for an instruction in page-fault service, and, unless one of its own checks fails first, no STALL_SHORT and no poison
consumed (R107, R108, R156, R74, R270). -/
def acts (i : Instr) (s : State) : Bool :=
  let w := s.wave
  !illegal i w && !w.holdsBack i && (early i s || ((w.stallShort i).isNone && (i.consumed w).isNone))

/-! ### Results (R72, R73) -/

/-- Write a scalar result that becomes readable after `beats`, not interlocked (R72). -/
def setS (s : State) (r : Nat) (x : Word64) (beats : Nat) : State :=
  s.onWave (fun w => w.putS r x (beats * s.passes w) false)

/-- Write an interlocked scalar result that becomes readable after some cycles (R73). -/
def setSHeld (s : State) (r : Nat) (x : Word64) (cycles : Nat) : State :=
  s.onWave (fun w => w.putS r x cycles true)

/-- Write a mask result (R72). -/
def setM (s : State) (k : Nat) (x : Word64) (beats : Nat) : State :=
  s.onWave (fun w => w.putM k x (beats * s.passes w) false)

/-- Write lanes of a vector register, not interlocked (R72); inside a fused sequence the value is forwarded (R132). -/
def setV (s : State) (r : Nat) (mask : Word64) (f : Nat → Word32) (beats : Nat) : State :=
  s.onWave (fun w => w.putV r mask f (if w.fuse.isSome then 0 else beats * s.passes w) false)

/-- Write lanes of a vector register, interlocked (R73). -/
def setVHeld (s : State) (r : Nat) (mask : Word64) (f : Nat → Word32) (cycles : Nat) : State :=
  s.onWave (fun w => w.putV r mask f (if w.fuse.isSome then 0 else cycles) true)

/-- OR flags into SATF (R123). -/
def orFlags (s : State) (f : Word64) : State := s.onWave (fun w => w.orFlags f)

/-! ### Returning from a trap (R304) -/

/-- The target of a skip or a branch: (PC AND NOT 63) + 64 x offset (R63, R91). -/
def blockTarget (pc : Word64) (offset : Int) : Word64 :=
  (pc &&& ~~~63#64) + BitVec.ofInt 64 (64 * offset)

/-- The wave that ERET leaves, from the doublewords of the frame (R304): s24 to s31 are written, so their poison ends
(R271). -/
def Wave.returned (w : Wave) (f : List Nat) : Wave :=
  let head := f.getD 8 0
  let depth := field head 27 5
  let s := (List.range 8).foldl (fun m k => sset m (24 + k) (BitVec.ofNat 64 (f.getD k 0))) w.s
  { w with
    s := s,
    poisonS := sclear w.poisonS 24 32,
    stack := w.stack.drop (w.stack.length - depth),
    active := BitVec.ofNat 64 (f.getD 11 0) &&& ~~~w.retired,
    level := .user,
    run := if field head 16 1 = 1 then some ⟨field head 17 5, field head 22 5⟩ else none,
    pc := BitVec.ofNat 64 (if field head 16 1 = 1 then f.getD 9 0 else f.getD 10 0) }

/-- Return through the frame, once it can be read: ILLOP if the stack is shallower than DEPTH or RESUME is odd (R304). -/
def returnThrough (i : Instr) (l : Leaf) (s : State) : Result :=
  let w := s.wave
  let va := w.trapframe.toNat
  let f := (List.range 16).map (fun k => loadLe s l (va + 8 * k) 8)
  if w.stack.length < field (f.getD 8 0) 27 5 ∨ f.getD 10 0 % 2 = 1 then raise (trapOf i 0x01 0 0 []) s
  else
    let s := (List.range 16).foldl (fun s k => countAccess s w.span.part w.span.ctx (va + 8 * k) 0 0) s
    let s := touch s w.span.part false l va 128
    let x := w.returned f
    .next { s with wave := { x with readyAt := w.now + s.passes w * issueBeats i, since := s.cyc } }

end Sys2Proof.Machine
end

