-- ==== Sys2Proof/Machine/Attempt.lean ====
section
/-!
DEFINITION. What becomes of a memory instruction: performed at once, trapped, held in page-fault service, or stopped at
poison (R155, R156, R270, R336).
-/

namespace Sys2Proof.Machine

open Sys2Proof

/-- How a memory instruction's checks and accesses come out: `poisoned` at a sector of memory, `spoilt` by vector elements
that were poisoned when it read them. A scalar access names lane 64, which no mask holds. -/
inductive Attempt where
  | performed (t : State)
  | stopped (c : LaneCause)
  | poisoned (pa : Nat) (lanes : Word64)
  | spoilt (lanes : Word64)
  | refused (t : Trap)
  deriving DecidableEq, Repr

/-- The lane number of a scalar access: beyond every mask. -/
abbrev noLane : Nat := 64

/-- The mask of one lane; empty for a scalar access (R336). -/
def laneMask (lane : Nat) : Word64 := 1#64 <<< lane

/-- The translation register that a request uses. -/
def MemReq.treg : MemReq → Option TReg
  | .vload _ _ t _ => some t
  | .vloadE _ t _ => some t
  | .vstore _ t _ => some t
  | .vstoreE t _ => some t
  | .atom _ _ t _ => some t
  | .red _ t _ => some t
  | .xfer _ t _ => some t
  | _ => none

/-- The access kind that a PAGE_REQUEST names: 0 load, 1 store, 2 atomic (R251; the numbers are the model's). -/
def MemReq.kind : MemReq → Nat
  | .vstore _ _ _ => 1
  | .vstoreE _ _ => 1
  | .sstore _ _ => 1
  | .mxstz _ _ => 1
  | .atom _ _ _ _ => 2
  | .red _ _ _ => 2
  | .qlock _ => 2
  | .qunlock _ => 2
  | .xfer _ _ _ => 2
  | .remote _ _ _ => 2
  | _ => 0

/-- Two 32-bit elements as one doubleword. -/
def pairWords (w : Wave) (r j : Nat) : Word64 := w.vval r (2 * j + 1) ++ w.vval r (2 * j)

/-- A source register's slot of 256 bytes in the operand log (R336): 32 doublewords. -/
def sourceSlot (w : Wave) : RegId → Option (List Word64)
  | .s r => some (w.sval r :: List.replicate 31 0)
  | .v r => some ((List.range 32).map (pairWords w r))
  | _ => none

/-- The operand log of an instruction as the frame shows it: three source registers at most (R336). -/
def operandLog (i : Instr) (w : Wave) : List Word64 := ((i.reads.filterMap (sourceSlot w)).take 3).flatten

/-- The doublewords of a translation register in the frame (R336). -/
def TReg.words (t : TReg) : List Word64 := [t.base, BitVec.ofNat 64 t.limit, BitVec.ofNat 64 t.frame, t.attr1]

/-- PAGE_FAULT of a memory instruction: cause, translation register, effective mask and operand log (R155, R336). -/
def pageFault (i : Instr) (t : Option TReg) (mask : Word64) (sources : List Word64) (lane va cause : Nat) : Trap :=
  let reg := match t with | some t => t.words | none => [0, 0, 0, 0]
  { trapOf i 0x05 (laneMask lane) va [] with detail := [BitVec.ofNat 64 cause, 0, 0] ++ reg ++ [mask] ++ sources }

/-- The trap of a cause that is not resolvable (R155). -/
def causeTrap (i : Instr) (t : Option TReg) (mask : Word64) (sources : List Word64) (c : LaneCause) : Trap :=
  match c.2.2 with
  | .align => trapOf i 0x02 (laneMask c.1) c.2.1 []
  | .conserved => trapOf i 0x07 (laneMask c.1) c.2.1 []
  | x => pageFault i t mask sources c.1 c.2.1 x.code

/-- The issuing wave's instruction goes into page-fault service: its log is taken and the fault reported. A report
that found no room is declined at once, and the instruction traps (R156, R248). `after` is what the wave does next. -/
def serve (i : Instr) (req : MemReq) (mask : Word64) (c : LaneCause) (after : State → Result) (s : State) : Result :=
  let w := s.wave
  let r := pageRequest s w.span.part w.span.ctx c.2.1 c.2.2.code req.kind (.wave w.id)
  let sources := operandLog i w
  let log : Service :=
    ⟨req, i, mask, i.writes, sources, w.checkpoint, r.2.1, c.1, BitVec.ofNat 64 c.2.1, c.2.2.code, s.cyc, false⟩
  if r.2.2 then after (r.1.onWave (fun w => { w with service := some log }))
  else raise (pageFault i req.treg mask sources c.1 c.2.1 c.2.2.code) r.1

/-! ### What the TLB translates (R145, R152, R154) -/

/-- The bytes of a descriptor by FN (R192, R194 to R196, R242). -/
def descSize (fn : Nat) : Nat :=
  match fn with
  | 1 => 256
  | 3 => 16
  | _ => 32

/-- The addresses of `n` pieces of a size in bytes. -/
def piecesAt (va size n : Nat) : List Nat := (List.range n).map (fun j => (va + size * j) % 2 ^ 64)

/-- The addresses of the pieces in which a descriptor is read: 64 bytes at most, which no page boundary cuts (R189). -/
def descPieces (fn va : Nat) : List Nat := piecesAt va (min 64 (descSize fn)) (descSize fn / min 64 (descSize fn))

/-- The smallest pages on which some addresses lie. -/
def pagesOf (vas : List Nat) : List Nat := ((vas.map (· / 2 ^ 15)).eraseDups).map (2 ^ 15 * ·)

/-- The size in bytes of an element of an unscaled format (R149). -/
def elementSize (efmt : Nat) : Nat := if efmt = 1 ∨ efmt = 2 then 2 else 1

/-- Whether the bytes from an offset up lie beyond what a translation register covers, so that the TLB translates them (R152). -/
def TReg.walks (t : TReg) (off size : Nat) : Bool := decide (t.limit < off + size)

/-- The addresses of the lanes of a request that the TLB translates (R152). -/
def walkedLanes (t : TReg) (size : Nat) (lanes : List LaneReq) : List Nat :=
  (lanes.filter (fun r => t.walks r.off size)).map (fun r => t.va r.off)

/-- The addresses of an element request that the TLB translates: the base of a register that covers nothing, and what lies beyond a
page that is not scaled (R152, R154). -/
def walkedElements (s : State) (w : Wave) (t : TReg) (lanes : List LaneReq) : List Nat :=
  let base := t.base.toNat
  let beyond : List Nat :=
    match (if t.limit = 0 then translate s w.span.part w.span.ctx base else .ok t.leaf) with
    | .ok l =>
      let n := elementSize l.efmt
      if l.bgeo = 1 ∨ l.efmt = 0 then []
      else ((lanes.flatMap (fun r => piecesAt (n * r.off) 1 n)).filter (fun o => decide (t.limit ≤ o))).map t.va
    | .error _ => []
  if t.limit = 0 ∧ !lanes.isEmpty then base :: beyond else beyond

/-! ### Domains and remote-access entries, as the addresses of their accesses need them (R201, R207, R231, R236) -/

/-- A SEALED domain of a partition; a FREE one has no entry (R201). -/
def findDomain (s : State) (part domid : Nat) : Option Domain :=
  match tget s.parts part with
  | some p => tget p.domains domid
  | none => none

/-- The domain that a wave has bound, with its number. -/
def boundDomain (s : State) (w : Wave) : Option (Nat × Domain) :=
  if w.xdom.getLsbD 63 then (findDomain s w.span.part (field w.xdom.toNat 0 6)).map (fun d => (field w.xdom.toNat 0 6, d))
  else none

/-- Whether a designator names an account (R207). -/
def isAccount (x : Nat) : Bool := decide (2 ^ 31 ≤ x)

/-- The local designators of a lane that can be read: source and destination, or the source alone for XFERX (R215). -/
def XferLane.names (cross : Bool) (r : XferLane) : List Nat :=
  (if r.badSource then [] else [r.source.toNat]) ++ (if cross || r.badDest then [] else [r.dest.toNat])

/-- The remote-access entry of a peer value (R234). -/
def peerEntry (x : Word64) : Nat := field x.toNat 8 6
/-- The reply slot of a peer value (R234). -/
def peerSlot (x : Word64) : Nat := field x.toNat 16 6

/-- A remote-access entry of a partition that is valid (R231). -/
def ratEntry (s : State) (part n : Nat) : Option EntryWords :=
  match tget s.parts part with
  | some p => match tget p.rat n with
    | some e => if field e.w0.toNat 0 1 = 1 then some e else none
    | none => none
  | none => none

/-- The reply word of a lane (R236): reply base + 256 x slot + 4 x lane. -/
def replyWord (e : EntryWords) (slot lane : Nat) : Nat := (e.w3.toNat + 256 * slot + 4 * lane) % 2 ^ 64

/-- The addresses of the cells of a bound domain that lanes name and a15 does not cover (R207). -/
def walkedCells (s : State) (w : Wave) (cross : Bool) (t : TReg) (lanes : List XferLane) : List Nat :=
  match boundDomain s w with
  | none => []
  | some (_, d) =>
    let cells := (lanes.flatMap (XferLane.names cross)).filter (fun x => !isAccount x)
    (cells.filter (fun c => !(decide (t.base.toNat = d.base) && decide (4 * c + 4 ≤ t.limit)))).map (fun c => d.base + 4 * c)

/-- The reply words of the lanes of a remote atomic (R235, R236). -/
def walkedReplies (s : State) (w : Wave) (lanes : List PeerLane) : List Nat :=
  lanes.filterMap (fun r => (ratEntry s w.span.part (peerEntry r.peer)).map (fun e => replyWord e (peerSlot r.peer) r.lane))

/-- The virtual addresses of a request that the TLB translates. -/
def MemReq.walked (s : State) (w : Wave) : MemReq → List Nat
  | .vload _ n t lanes => walkedLanes t n lanes
  | .vstore n t lanes => walkedLanes t n lanes
  | .atom _ _ t lanes => walkedLanes t 4 lanes
  | .red _ t lanes => walkedLanes t 4 lanes
  | .vloadE _ t lanes => walkedElements s w t lanes
  | .vstoreE t lanes => walkedElements s w t lanes
  | .sload _ va => [va.toNat]
  | .sstore va _ => [va.toNat]
  | .qlock va => [va.toNat]
  | .qunlock va => [va.toNat]
  | .frame va => [va.toNat]
  | .mxldz _ va => piecesAt va.toNat 64 64
  | .mxstz _ va => piecesAt va.toNat 64 64
  | .post fn _ va _ => descPieces fn va.toNat
  | .seal va => piecesAt va.toNat 64 5
  | .xfer cross t lanes => walkedCells s w cross t lanes
  | .remote atomic _ lanes => if atomic then walkedReplies s w lanes else []

/-- The state after the walks of a request (R145). -/
def MemReq.walks (req : MemReq) (s : State) : State :=
  touchWalks s s.wave.span.part s.wave.span.ctx (req.walked s s.wave)

/-- The state in which a request stops at a cause: ALIGN stops it before its walks (R155). -/
def MemReq.stops (req : MemReq) (c : LaneCause) (s : State) : State := if c.2.2 = .align then s else req.walks s

/-- The outcome of a cause at issue (R155, R156, R140, R273). -/
def meet (i : Instr) (req : MemReq) (mask : Word64) (c : LaneCause) (after : State → Result) (s : State) : Result :=
  match c.2.2 with
  | .device pa => .fault (.deviceRegister pa)
  | .poison pa => .next (consumeSector s s.wave pa (laneMask c.1))
  | .notPresent => serve i req mask c after s
  | .perm => serve i req mask c after s
  | _ => raise (causeTrap i req.treg mask (operandLog i s.wave) c) s

/-- The outcome of an attempt at issue: performed, it completes as `after` says. -/
def conclude (i : Instr) (req : MemReq) (mask : Word64) (after : State → Result) (a : Attempt) (s : State) : Result :=
  match a with
  | .performed t => after t
  | .stopped c => meet i req mask c after (req.stops c s)
  | .poisoned pa lanes => .next (consumeSector (req.walks s) s.wave pa lanes)
  | .spoilt lanes => .next (consumeElements s s.wave lanes)
  | .refused t => raise t (req.walks s)

/-- An instruction that makes its request and then completes. -/
def request (i : Instr) (req : MemReq) (mask : Word64) (attempt : State → Attempt) (s : State) : Result :=
  conclude i req mask (done i s.wave) (attempt s) s

/-- A request after which the wave issues nothing until it is answered: performed, it completes after `extra` cycles; in
page-fault service, the wave waits (R204, R209). -/
def heldRequest (i : Instr) (req : MemReq) (mask : Word64) (extra : Nat) (a : Attempt) (s : State) : Result :=
  match a with
  | .performed t => .next (retire i extra none s.wave t)
  | x => conclude i req mask (fun t => .next (sleepOn .retryService (retire i 0 none s.wave t))) x s

/-- The causes that the lanes of a request meet, in lane order. -/
def laneCauses {α : Type} (found : List (Nat × Except (Nat × Cause) α)) : List LaneCause :=
  found.filterMap (fun e => match e.2 with | .error c => some (e.1, c.1, c.2) | .ok _ => none)

/-- What the lanes without a cause have found. -/
def laneFinds {α : Type} (found : List (Nat × Except (Nat × Cause) α)) : List (Nat × α) :=
  found.filterMap (fun e => match e.2 with | .ok x => some (e.1, x) | .error _ => none)

/-- The cycles by which a result is late: none for a replay, whose result has been awaited already (R156). -/
def latency (late : Bool) (cycles : Nat) : Nat := if late then 0 else cycles

end Sys2Proof.Machine
end

