-- ==== Sys2Proof/Machine/Control.lean ====
section
/-!
DEFINITION. Control instructions: branches, the mask stack, runs, YIELD, TRAP, ERET, SIGCHK and NOP (R62 to R71, R109,
R293 to R299, R304, R310, R320 to R322, R329, R334, R375).
-/

namespace Sys2Proof.Machine

open Sys2Proof

/-- NOP (R310): nothing but its beat and its stall. -/
def execNop (st : BitVec 3) (s : State) : Result := gate (.nop st) s (fun s => done (.nop st) s.wave s)

/-! ### Transfers of the control thread (R66, R294) -/

/-- The extra cycles of a taken skip, branch or jump back (R67). -/
abbrev takenCycles : Nat := 12

/-- Go on at a target, at the cost of a taken transfer (R67). -/
def goTo (i : Instr) (target : Word64) (s : State) : Result := .next (retire i takenCycles (some target) s.wave s)

/-- BRA (R294). -/
def execBra (o : BitVec 21) (st : BitVec 3) (s : State) : Result :=
  gate (.bra o st) s (fun s => goTo (.bra o st) (blockTarget s.wave.pc o.toInt) s)

/-- The branch conditions of R99: a register against zero. -/
def branchTaken (c : BitVec 3) (x : Word64) : Bool :=
  match c.toNat with
  | 0 => x == 0
  | 1 => x != 0
  | 2 => x.slt 0
  | 3 => x.sle 0
  | 4 => (0#64).slt x
  | _ => (0#64).sle x

/-- BCC (R294). -/
def execBcc (o : BitVec 13) (c : BitVec 3) (r : BitVec 5) (st : BitVec 3) (s : State) : Result :=
  gate (.bcc o c r st) s (fun s =>
    if branchTaken c (s.wave.sval r.toNat) then goTo (.bcc o c r st) (blockTarget s.wave.pc o.toInt) s
    else done (.bcc o c r st) s.wave s)

/-- CALL (R294): s31 receives the first fetch-block boundary after its last byte. -/
def execCall (o : BitVec 21) (st : BitVec 3) (s : State) : Result :=
  gate (.call o st) s (fun s =>
    .next (retire (.call o st) takenCycles (some (blockTarget s.wave.pc o.toInt)) s.wave
      (setS s 31 (((s.wave.pc + 3) &&& ~~~63#64) + 64) 1)))

/-- A jump to the address in a register; ALIGN if it is not on a fetch-block boundary (R66, R294). -/
def jumpTo (i : Instr) (x : Word64) (s : State) : Result :=
  if offBoundary x then raise (trapOf i 0x02 0 x.toNat []) s else goTo i x s

/-- RET (R294). -/
def execRet (r : BitVec 5) (st : BitVec 3) (s : State) : Result :=
  gate (.ret r st) s (fun s => jumpTo (.ret r st) (s.wave.sval r.toNat) s)

/-- JMPR (R294). -/
def execJmpr (r : BitVec 5) (st : BitVec 3) (s : State) : Result :=
  gate (.jmpr r st) s (fun s => jumpTo (.jmpr r st) (s.wave.sval r.toNat) s)

/-! ### The mask stack (R62 to R65) -/

/-- sel(k): the active mask when k = 0 and mk otherwise (R63). -/
def sel (w : Wave) (k : BitVec 3) : Word64 := w.mval k.toNat

/-- Complete a structured instruction: a skip costs 12 cycles, a rejoin 2P (R67). -/
def structured (i : Instr) (skip : Option Word64) (before : Wave) (s : State) : Result :=
  let rejoin := if s.wave.active &&& ~~~before.active ≠ 0 then 2 * s.passes s.wave else 0
  .next (retire i (rejoin + if skip.isSome then takenCycles else 0) skip before s)

/-- IF (R64). -/
def execIfm (o : BitVec 18) (k st : BitVec 3) (s : State) : Result :=
  gate (.ifm o k st) s (fun s =>
    let w := s.wave
    if w.stack.length = maskDepth then raise (trapOf (.ifm o k st) 0x03 0 0 []) s
    else
      let taken := w.active &&& sel w k
      let s := s.onWave (fun w => { w with stack := ⟨.ifThen, w.active, taken, 0⟩ :: w.stack, active := taken })
      structured (.ifm o k st) (if taken = 0 then some (blockTarget w.pc o.toInt) else none) w s)

/-- ELSE (R64): ILLOP unless an IFTHEN token is on top. -/
def execEls (o : BitVec 18) (st : BitVec 3) (s : State) : Result :=
  gate (.els o st) s (fun s =>
    let w := s.wave
    match w.stack with
    | ⟨.ifThen, saved, brkm, contm⟩ :: rest =>
      let active := saved &&& ~~~brkm
      let s := s.onWave (fun w => { w with stack := ⟨.ifElse, saved, brkm, contm⟩ :: rest, active := active })
      structured (.els o st) (if active = 0 then some (blockTarget w.pc o.toInt) else none) w s
    | _ => raise (trapOf (.els o st) 0x01 0 0 []) s)

/-- ENDIF (R64): ILLOP unless an IF token is on top. -/
def execEndif (st : BitVec 3) (s : State) : Result :=
  gate (.endif st) s (fun s =>
    let w := s.wave
    match w.stack with
    | t :: rest =>
      if t.kind = .loop then raise (trapOf (.endif st) 0x01 0 0 []) s
      else structured (.endif st) none w (s.onWave (fun w => { w with stack := rest, active := t.saved }))
    | [] => raise (trapOf (.endif st) 0x01 0 0 []) s)

/-- LOOP (R64). -/
def execLoop (st : BitVec 3) (s : State) : Result :=
  gate (.loop st) s (fun s =>
    let w := s.wave
    if w.stack.length = maskDepth then raise (trapOf (.loop st) 0x03 0 0 []) s
    else structured (.loop st) none w (s.onWave (fun w => { w with stack := ⟨.loop, w.active, 0, 0⟩ :: w.stack })))

/-- BRK and CONT after the gate (R64): ILLOP outside a loop. -/
def leaving (i : Instr) (x : Word64) (f : Token → Token) (s : State) : Result :=
  let w := s.wave
  match leaveLoop x f w.stack with
  | some stack => structured i none w (s.onWave (fun w => { w with stack := stack, active := w.active &&& ~~~x }))
  | none => raise (trapOf i 0x01 0 0 []) s

/-- BRK (R64). -/
def execBrk (k st : BitVec 3) (s : State) : Result :=
  gate (.brk k st) s (fun s =>
    let x := s.wave.active &&& sel s.wave k
    leaving (.brk k st) x (fun t => { t with brkm := t.brkm ||| x }) s)

/-- CONT (R64). -/
def execCont (k st : BitVec 3) (s : State) : Result :=
  gate (.cont k st) s (fun s =>
    let x := s.wave.active &&& sel s.wave k
    leaving (.cont k st) x (fun t => { t with contm := t.contm ||| x }) s)

/-- ENDL (R64): ILLOP unless a LOOP token is on top. -/
def execEndl (o : BitVec 18) (st : BitVec 3) (s : State) : Result :=
  gate (.endl o st) s (fun s =>
    let w := s.wave
    match w.stack with
    | t :: rest =>
      if t.kind ≠ .loop then raise (trapOf (.endl o st) 0x01 0 0 []) s
      else
        let active := w.active ||| t.contm
        if active ≠ 0 then
          structured (.endl o st) (some (blockTarget w.pc o.toInt)) w
            (s.onWave (fun w => { w with stack := { t with contm := 0 } :: rest, active := active }))
        else structured (.endl o st) none w (s.onWave (fun w => { w with stack := rest, active := t.saved }))
    | [] => raise (trapOf (.endl o st) 0x01 0 0 []) s)

/-- A token without some lanes (R64). -/
def Token.without (x : Word64) (t : Token) : Token :=
  { t with saved := t.saved &&& ~~~x, brkm := t.brkm &&& ~~~x, contm := t.contm &&& ~~~x }

/-- EXIT (R64). -/
def execExitm (k st : BitVec 3) (s : State) : Result :=
  gate (.exitm k st) s (fun s =>
    let w := s.wave
    let x := w.active &&& sel w k
    structured (.exitm k st) none w (s.onWave (fun w =>
      { w with retired := w.retired ||| x, stack := w.stack.map (Token.without x), active := w.active &&& ~~~x })))

/-- The detail of LOCK_HELD and LOCK_OWNER: the VA of the lock word (R314). -/
def lockTrap (i : Instr) (code va : Nat) : Trap := trapOf i code 0 va [va]

/-- Remove a wave that ends: its registers and its place are free, its pending refusals pass to its span's report, the
barriers no longer count it, and its block may end (R77, R217, R299). -/
def endWave (s : State) : State :=
  let w := s.wave
  let s := s.changeSpan w.span (fun x => { x with refused := x.refused ++ w.refused })
  let s := { s with wave := Wave.vacant }
  closeBlock (releaseBarriers w s) w.span w.block

/-- END (R299): LOCK_HELD while the wave holds a queue lock; it waits until its reflected stores have left the combining
buffer. -/
def execEndw (st : BitVec 3) (s : State) : Result :=
  gate (.endw st) s (fun s =>
    let w := s.wave
    match s.locks.find? (fun l => l.holder == w.id) with
    | some l => raise (lockTrap (.endw st) 0x0F l.va) s
    | none =>
      if buffered s w.span.part (waveSender w.id) then .next (waitAgain (.retryReflected true) s)
      else .next (endWave s))

/-! ### Runs (R69 to R71, R321, R322) -/

/-- RUN and RUNEND take no issue beat, so the quad's slot is free at once (R69). -/
def freeSlot (s : State) : State :=
  { s with quads := tset s.quads (4 * s.wave.core + s.wave.quad) s.wave.now }

/-- A wave with e0 to e7 cleared (R70). -/
def Wave.clearTemporaries (w : Wave) : Wave :=
  { w with v := sclear w.v (56 * 64) (64 * 64), poisonV := sclear w.poisonV (56 * 64) (64 * 64),
           pend := w.pend.filter (fun e => match e.reg with | .v r => decide (r < 56) | _ => true) }

/-- RUN (R321). -/
def execRun (c : BitVec 5) (st : BitVec 3) (s : State) : Result :=
  gate (.run c st) s (fun s =>
    let t := retire (.run c st) 0 none s.wave (s.onWave Wave.clearTemporaries)
    .next (freeSlot (t.onWave (fun w => { w with run := some ⟨0, c.toNat⟩ }))))

/-- The cycle by which every result named in a trailer is written (R322). -/
def trailerDue (i : Instr) (w : Wave) : Nat :=
  (w.pend.filter (fun e => i.trailer.contains e.reg)).foldl (fun t e => max t e.due) 0

/-- Whether a trailer names a result of the instruction in page-fault service (R71, R156). -/
def trailerInService (i : Instr) (w : Wave) : Bool :=
  match w.service with
  | some sv => i.trailer.any sv.writes.contains
  | none => false

/-- RUNEND (R321, R322): the run ends, and the wave goes on once every result named in the trailer is written. -/
def execRunend (z y x : BitVec 7) (st : BitVec 3) (s : State) : Result :=
  gate (.runend z y x st) s (fun s =>
    let i : Instr := .runend z y x st
    let due := trailerDue i s.wave
    let held := trailerInService i s.wave
    let t := retire i 0 none s.wave s
    let t := t.onWave (fun w => { w with run := none, readyAt := max w.readyAt due })
    .next (freeSlot (if held then sleepOn .retryService t else t)))

/-! ### YIELD, TRAP, ERET, SIGCHK -/

/-- YIELD (R375): the wave ranks youngest at the next issue decision of its quad. -/
def execYield (st : BitVec 3) (s : State) : Result :=
  gate (.yield st) s (fun s => done (.yield st) s.wave (s.onWave (fun w => { w with yielded := true })))

/-- TRAP (R334). -/
def execTrap (i : BitVec 16) (st : BitVec 3) (s : State) : Result :=
  gate (.trap i st) s (fun s => raiseNext (.trap i st) (trapOf (.trap i st) 0x17 0 0 [i.toNat]) s)

/-- x of SIGCHK: SIG[20:0] XOR SIG[31:21] (R109). -/
def foldedSig (sig : Word64) : Nat := field sig.toNat 0 21 ^^^ field sig.toNat 21 11

/-- SIGCHK (R109, R280, R329). -/
def execSigchk (i : BitVec 21) (st : BitVec 3) (s : State) : Result :=
  gate (.sigchk i st) s (fun s =>
    let w := s.wave
    if !w.sigctl.getLsbD 0 then done (.sigchk i st) w s
    else
      let t := s.onWave (fun w => { w with sig := 0 })
      if foldedSig w.sig = i.toNat then done (.sigchk i st) w t
      else if w.sigctl.getLsbD 1 then
        if w.level = .supervisor then
          .next (killSpan t w.span ⟨0x21, w.pc.toNat, 0, 0, [w.sig.toNat, i.toNat]⟩ w.core false)
        else .next (containCheck t w 0x21 5 1 w.pc.toNat [w.sig.toNat, i.toNat])
      else done (.sigchk i st) w (t.onWave (fun w => { w with sigctl := w.sigctl ||| 4#64 })))

end Sys2Proof.Machine
end

