-- ==== Sys2Proof/Machine/MemOps.lean ====
section
/-!
DEFINITION. Memory instructions: ABIND, VLD, VST, VLDS, VSTS, ATOM, RED, SLD, SST, QLOCK, QUNLOCK and ERET (R141, R142,
R149 to R159, R289 to R291, R302 to R304, R311 to R314, R330, R331, R357 to R359).
-/

namespace Sys2Proof.Machine

open Sys2Proof

/-! ### Translation registers (R151) -/

/-- Whether a key id is granted to a partition; key 0 always is (R151, R281). -/
def keyGranted (s : State) (part k : Nat) : Bool :=
  k == 0 || (match tget s.parts part with | some p => p.grants.contains k | none => false)

/-- The register that ABIND leaves: bound to the rest of the page, or with LIMIT 0 (R151). -/
def bound (s : State) (part : Nat) (old : TReg) (va : Nat) (found : Except Cause Leaf) : TReg :=
  match found with
  | .ok l =>
    if keyGranted s part l.key then
      { base := BitVec.ofNat 64 va, limit := l.size - va % l.size, frame := l.frame, size := l.size,
        attr0 := BitVec.ofNat 64 l.attr0, attr1 := BitVec.ofNat 64 l.attr1 }
    else { old with base := BitVec.ofNat 64 va, limit := 0 }
  | .error _ => { old with base := BitVec.ofNat 64 va, limit := 0 }

/-- The cycles of ABIND and FBIND: 2 beats, or those of the entries walked (R73). -/
def bindWait (s : State) (w : Wave) (va : Nat) : Nat := max (2 * s.passes w) (walkWait s w va)

/-- A translation register as a wave starts with it (R86). -/
def TReg.unbound : TReg := ⟨0, 0, 0, 0, 0, 0⟩

/-- A wave's translation register. -/
def Wave.areg (w : Wave) (n : Nat) : TReg := tgetD w.a n TReg.unbound

/-- ABIND (R151): interlocked, readable after the walk that the model always makes (R73; log 78). -/
def execAbind (r : BitVec 5) (n : BitVec 4) (st : BitVec 3) (s : State) : Result :=
  gate (.abind r n st) s (fun s =>
    let w := s.wave
    let va := (w.sval r.toNat).toNat
    let t := touchWalks s w.span.part w.span.ctx [va]
    match translate s w.span.part w.span.ctx va with
    | .error (.poison pa) => .next (consumeSector t w pa 0)
    | .error (.device pa) => .fault (.deviceRegister pa)
    | found =>
      let a := bound s w.span.part (w.areg n.toNat) va found
      done (.abind r n st) w (t.onWave (fun w =>
        { w.note (.a n.toNat) [] (bindWait s w va) true with
            a := tset w.a n.toNat a, poisonA := serase w.poisonA n.toNat })))

/-! ### Elements of formatted pages (R147, R149, R150, R154) -/

/-- A located element: the leaf and virtual address of each of its bytes, those of its block's scale, and its place in
an LQ2 code. -/
structure Element where
  bytes  : List (Leaf × Nat)
  scale  : Option (Leaf × Nat)
  weight : Nat
  deriving DecidableEq, Repr

/-- The leaf of an element: that of its first byte. -/
def Element.leaf (e : Element) : Leaf := match e.bytes with | b :: _ => b.1 | [] => ⟨0, 1, 0, 0⟩

/-- The virtual address of an element. -/
def Element.va (e : Element) : Nat := match e.bytes with | b :: _ => b.2 | [] => 0

/-- Element `i` from a base on a scaled page: its offset, size, its scale's offset and its weight number; none outside
the data region (R149, R154). -/
def scaledPlace (l : Leaf) (base : Nat) (i : Int) : Option (Nat × Nat × Nat × Nat) :=
  let d := if l.efmt = 7 then 8 else 32
  let region := l.size - l.size / d
  let q := base % l.size
  let block := (q / d : Nat) + i / 32
  let b := block.toNat
  let p := (i % 32).toNat
  if q % d ≠ 0 ∨ region ≤ q ∨ block < 0 ∨ region / d ≤ b then none
  else if l.efmt = 7 then some (b * 8 + 2 * (p / 8), 2, region + b, p % 8)
  else some (b * 32 + p, 1, region + b, 0)

/-- The leaf that a byte of an element is accessed through, or its address and cause; FORMAT and a device register are met later. -/
def byteVia (s : State) (part ctx : Nat) (kind : AccessKind) (t : TReg) (off : Nat) : Except (Nat × Cause) (Leaf × Nat) :=
  match permittedVia s part ctx kind t off 1 with
  | .ok l => .ok (l, t.va off)
  | .error c => .error (t.va off, c)

/-- All values of a list of answers, or the first cause. -/
def allOk {α : Type} : List (Except (Nat × Cause) α) → Except (Nat × Cause) (List α)
  | [] => .ok []
  | .error c :: _ => .error c
  | .ok x :: rest => match allOk rest with | .ok xs => .ok (x :: xs) | .error c => .error c

/-- Element `i` on the scaled page of the base (R154). The model's choice: where the element has no place on the page, FORMAT
reports the base's VA (log 79). -/
def locateScaled (s : State) (part : Nat) (kind : AccessKind) (l : Leaf) (base : Nat) (i : Int) : Except (Nat × Cause) Element :=
  let page := base - base % l.size
  match scaledPlace l base i with
  | none => .error (base, (leafCause s part kind l base).getD .format)
  | some (off, n, scale, weight) =>
    match leafCause s part kind l (page + off) with
    | some c => .error (page + off, c)
    | none =>
      if kind = .store ∧ l.efmt = 7 then .error (page + off, .format)
      else match deviceCause l (page + off) with
        | some c => .error (page + off, c)
        | none => .ok ⟨(List.range n).map (fun j => (l, page + off + j)), some (l, page + scale), weight⟩

/-- Element `i` from a base whose page is not scaled; its page must hold unscaled elements of the same size (R154). -/
def locatePlain (s : State) (part ctx : Nat) (kind : AccessKind) (t : TReg) (size : Nat) (i : Int) :
    Except (Nat × Cause) Element :=
  match allOk ((List.range size).map (fun j => byteVia s part ctx kind t ((i * size + j) % 2 ^ 64).toNat)) with
  | .error c => .error c
  | .ok bytes =>
    match bytes.find? (fun b => b.1.efmt == 0 || elementSize b.1.efmt != size || b.1.bgeo == 1) with
    | some b => .error (b.2, .format)
    | none =>
      match bytes.filterMap (fun b => (deviceCause b.1 b.2).map (fun c => (b.2, c))) with
      | c :: _ => .error c
      | [] => .ok ⟨bytes, none, 0⟩

/-- Where element `i` from the base of a translation register lies, or the cause it meets (R154, R155). -/
def locate (s : State) (part ctx : Nat) (kind : AccessKind) (t : TReg) (i : Int) : Except (Nat × Cause) Element :=
  let base := t.base.toNat
  match (if t.limit = 0 then translate s part ctx base else .ok t.leaf) with
  | .error c => .error (base, c)
  | .ok l =>
    if l.bgeo = 1 then locateScaled s part kind l base i
    else if l.efmt = 0 then .error (base, (leafCause s part kind l base).getD .format)
    else locatePlain s part ctx kind t (elementSize l.efmt) i

/-- The floating-point format of an element format number (R147). -/
def elementFormat (efmt : Nat) : FFormat :=
  if efmt = 1 then bf16 else if efmt = 2 then f16 else if efmt = 3 then f8e4 else f8e5

/-- The value of one byte found by its leaf. -/
def leafByte (s : State) (b : Leaf × Nat) : Byte := memByte s b.1.key (b.1.pa b.2)

/-- The value of an element's scale byte; 127, which is 2^0, where there is none (R125). -/
def Element.scaleOf (s : State) (e : Element) : Nat :=
  match e.scale with
  | some b => (leafByte s b).toNat
  | none => 127

/-- A codebook row of a partition: 64 bits (R127). -/
def codebookRow (s : State) (part cb row : Nat) : Nat :=
  match tget s.parts part with
  | some p => leValue (sgetFrom p.codebooks (4096 * cb + 8 * row) 8)
  | none => 0

/-- A datum as FP32, exactly; where FP32 cannot hold it, the value is open (R120, log 13). -/
def widenElement (scale raw : Nat) (x : FVal) : Word32 :=
  match x with
  | .fin neg mag exp =>
    let r := roundF f32 .rne neg mag exp
    if r.2 &&& flagO = 0 then BitVec.ofNat 32 r.1 else Config.wideElement scale raw
  | y => BitVec.ofNat 32 (widenF y)

/-- The FP32 value that VLD.e reads (R120, R125 to R127, R154). -/
def decodeElement (s : State) (part : Nat) (e : Element) : Word32 :=
  let l := e.leaf
  let raw := leValue (e.bytes.map (leafByte s))
  let scale := e.scaleOf s
  if l.efmt = 7 then
    widenElement scale raw (rescale scale (lq2Weight (codebookRow s part l.cb (raw / 128)) (raw % 128) e.weight))
  else if l.efmt = 5 then (intToF32 (BitVec.ofNat 8 raw).toInt 0).1
  else if l.efmt = 6 then (intToF32 raw 0).1
  else widenElement scale raw (rescale scale (decodeF (elementFormat l.efmt) raw))

/-- The code that VST.e writes for an FP32 value, and its flags (R119, R121, R154). -/
def encodeElement (s : State) (e : Element) (x : Word32) : Nat × Word64 :=
  let f := elementFormat e.leaf.efmt
  let scale := e.scaleOf s
  if e.leaf.efmt = 5 then
    let r := narrowInt .rne (-128) 127 0 (decode32F x)
    (r.1.toNat % 256, r.2)
  else if e.leaf.efmt = 6 then
    let r := narrowInt .rne 0 255 0 (decode32F x)
    (r.1.toNat % 256, r.2)
  else if scale = 0xFF then (f.nan, flagI)
  else narrowF f (unscale scale (decode32F x))

/-! ### Vector loads and stores (R152, R157, R357 to R359) -/

/-- The sectors' first poisoned address among lists of addresses by lane, and the lanes that read poison. -/
def poisonOf (s : State) (reads : List (Nat × List Nat)) : Option (Nat × Word64) :=
  if s.poison.isEmpty then none
  else
    match reads.filter (fun e => e.2.any (sectorPoisoned s)) with
    | [] => none
    | hits =>
      match (hits.flatMap (·.2)).find? (sectorPoisoned s) with
      | some pa => some (pa, maskOf (hits.map (·.1)))
      | none => none

/-- Count one access of each of a list of addresses (R284). -/
def countAll (s : State) (part ctx kind : Nat) (vas : List Nat) : State :=
  vas.foldl (fun s va => countAccess s part ctx va 0 kind) s

/-- A load completes: its latency goes to the level monitors (R285). -/
def sampleLoad (s : State) (w : Wave) (late : Bool) (cycles : Nat) : State :=
  let ticks := if late then (match w.service with | some v => s.cyc - v.issued | none => 0) else cycles * 1000 / coreMhz s w.core
  sampleSource s w.span.part 0 ticks

/-- The lanes of a request through a translation register, with the leaf of each or its cause (R152, R155). -/
def findLanes (s : State) (w : Wave) (kind : AccessKind) (t : TReg) (size : Nat) (lanes : List LaneReq) :
    List (Nat × Except (Nat × Cause) (LaneReq × Leaf)) :=
  lanes.map (fun r => (r.lane,
    match accessVia s w.span.part w.span.ctx kind t r.off size with
    | .ok l => .ok (r, l)
    | .error c => .error (t.va r.off, c)))

/-- The latency of the loads of lanes, each with its leaf (R73). -/
def laneWaits (s : State) (w : Wave) (t : TReg) (size : Nat) (ok : List (LaneReq × Leaf)) : Nat :=
  loadWaits s w (ok.map (fun e => (e.2, t.va e.1.off))) ((ok.filter (fun e => t.walks e.1.off size)).map (fun e => t.va e.1.off))

/-- Perform VLD of raw bytes (R358). -/
def tryVload (late : Bool) (dest size : Nat) (t : TReg) (lanes : List LaneReq) (s : State) : Attempt :=
  let w := s.wave
  let found := findLanes s w .load t size lanes
  match firstCause (laneCauses found) with
  | some c => .stopped c
  | none =>
    let ok := laneFinds found
    match poisonOf s (ok.map (fun e => (e.1, pasOf e.2.2 (t.va e.2.1.off) size))) with
    | some p => .poisoned p.1 p.2
    | none =>
      let values := ok.map (fun e => (e.1, BitVec.ofNat 32 (loadLe s e.2.2 (t.va e.2.1.off) size)))
      let cycles := laneWaits s w t size (ok.map (·.2))
      let s := touchWalks s w.span.part w.span.ctx (walkedLanes t size lanes)
      let s := sampleLoad (countAll s w.span.part w.span.ctx 0 (ok.map (fun e => t.va e.2.1.off))) w late cycles
      let s := touchAll s w.span.part false size (ok.map (fun e => (e.2.2, t.va e.2.1.off)))
      .performed (s.onWave (fun w =>
        (w.putV dest (maskOf (values.map (·.1))) (fun l => sget values l) (latency late cycles) true).perform s cycles))

/-- What reading an element reads: its bytes and its scale. -/
def Element.reads (e : Element) : List (Leaf × Nat) := e.bytes ++ (match e.scale with | some b => [b] | none => [])

/-- The addresses that reading an element reads. -/
def Element.pas (e : Element) : List Nat := e.reads.map (fun b => b.1.pa b.2)

/-- The addresses of an element that the TLB translates for a translation register (R152, R154). -/
def Element.walked (t : TReg) (e : Element) : List Nat :=
  (e.bytes.map (·.2)).filter (fun va => decide (t.limit ≤ (va + 2 ^ 64 - t.base.toNat) % 2 ^ 64))

/-- The lanes of an element request, with the element of each or its cause (R154). -/
def findElements (s : State) (w : Wave) (kind : AccessKind) (t : TReg) (lanes : List LaneReq) :
    List (Nat × Except (Nat × Cause) (LaneReq × Element)) :=
  lanes.map (fun r => (r.lane,
    match locate s w.span.part w.span.ctx kind t r.off with
    | .ok e => .ok (r, e)
    | .error c => .error c))

/-- Perform VLD.e (R154, R358). -/
def tryVloadE (late : Bool) (dest : Nat) (t : TReg) (lanes : List LaneReq) (s : State) : Attempt :=
  let w := s.wave
  let found := findElements s w .load t lanes
  match firstCause (laneCauses found) with
  | some c => .stopped c
  | none =>
    let ok := laneFinds found
    match poisonOf s (ok.map (fun e => (e.1, e.2.2.pas))) with
    | some p => .poisoned p.1 p.2
    | none =>
      let values := ok.map (fun e => (e.1, decodeElement s w.span.part e.2.2))
      let cycles := loadWaits s w (ok.flatMap (fun e => e.2.2.reads)) (ok.flatMap (fun e => e.2.2.walked t))
      let s := touchWalks s w.span.part w.span.ctx (walkedElements s w t lanes)
      let s := sampleLoad (countAll s w.span.part w.span.ctx 0 (ok.map (fun e => e.2.2.va))) w late cycles
      let s := touchAll s w.span.part false 1 (ok.flatMap (fun e => e.2.2.reads))
      .performed (s.onWave (fun w =>
        (w.putV dest (maskOf (values.map (·.1))) (fun l => sget values l) (latency late cycles) true).perform s cycles))

/-- Store a list of values of one size, each through its leaf, in order: reflected on transmit windows, where the span's
replayable bit ends (R157, R230, R271, R274). -/
def storeList (s : State) (w : Wave) (size : Nat) (xs : List (Leaf × Nat × Nat)) : State :=
  let s := xs.foldl (fun s e =>
    countAccess (storeBytes s w.span.part (waveSender w.id) e.1 e.2.1 (leSplit size e.2.2)) w.span.part w.span.ctx e.2.1 0 1) s
  let s := clearCovered s (xs.flatMap (fun e => pasOf e.1 e.2.1 size))
  if xs.any (fun e => e.1.cls == 2) then clearReplay s w.span else s

/-- Perform VST of raw bytes (R157, R358). -/
def tryVstore (size : Nat) (t : TReg) (lanes : List LaneReq) (s : State) : Attempt :=
  let found := findLanes s s.wave .store t size lanes
  match firstCause (laneCauses found) with
  | some c => .stopped c
  | none =>
    let w := s.wave
    let ok := laneFinds found
    let cycles := laneWaits s w t size (ok.map (·.2))
    let s := touchWalks s w.span.part w.span.ctx (walkedLanes t size lanes)
    .performed ((storeList s w size (ok.map (fun e => (e.2.2, t.va e.2.1.off, e.2.1.data.toNat)))).onWave (Wave.perform s cycles))

/-- Write an element's bytes through the leaf of each. -/
def putElement (s : State) (e : Element) (code : Nat) : State :=
  (e.bytes.zip (leSplit e.bytes.length code)).foldl (fun s b => putByte s b.1.1.key (b.1.1.pa b.1.2) b.2) s

/-- Perform VST.e: each lane's value encoded with the existing scale of its block, the flags into SATF; a scale in a
poisoned sector is consumed (R119, R121, R123, R270, R358; log 14). -/
def tryVstoreE (t : TReg) (lanes : List LaneReq) (s : State) : Attempt :=
  let w := s.wave
  let found := findElements s w .store t lanes
  match firstCause (laneCauses found) with
  | some c => .stopped c
  | none =>
    let ok := laneFinds found
    match poisonOf s (ok.map (fun e => (e.1, (match e.2.2.scale with | some b => [b.1.pa b.2] | none => [])))) with
    | some p => .poisoned p.1 p.2
    | none =>
      let codes := ok.map (fun e => (e.2.2, encodeElement s e.2.2 e.2.1.data))
      let cycles := loadWaits s w (codes.flatMap (fun c => c.1.reads)) (codes.flatMap (fun c => c.1.walked t))
      let u := touchWalks s w.span.part w.span.ctx (walkedElements s w t lanes)
      let u := touchAll u w.span.part false 1 (codes.flatMap (fun c => c.1.scale.toList))
      let u := codes.foldl (fun s c => putElement s c.1 c.2.1) u
      let u := countAll u w.span.part w.span.ctx 1 (codes.map (fun c => c.1.va))
      let u := touchAll u w.span.part true 1 (codes.flatMap (fun c => c.1.bytes))
      let u := clearCovered u (codes.flatMap (fun c => c.1.bytes.map (fun b => b.1.pa b.2)))
      .performed ((orFlags u (codes.foldl (fun f c => f ||| c.2.2) 0)).onWave (Wave.perform s cycles))

/-- The lanes of a mask with their offsets and the values they store. -/
def laneReqs (mask : Word64) (off data : Nat → Word32) : List LaneReq :=
  (lanesOf mask).map (fun l => ⟨l, (off l).toNat, data l⟩)

/-! ### Order toward what is on its way to other devices (R165, R166, R168) -/

/-- The leaves that a request of plain loads or stores accesses; elements of formatted pages lie in normal memory (R148, R168). -/
def MemReq.leaves (s : State) (w : Wave) (req : MemReq) : List Leaf :=
  let plain (va : Nat) : Option Leaf := (translate s w.span.part w.span.ctx va).toOption
  let via (t : TReg) (n : Nat) (r : LaneReq) : Option Leaf := if t.walks r.off n then plain (t.va r.off) else some t.leaf
  match req with
  | .vload _ n t lanes => lanes.filterMap (via t n)
  | .vstore n t lanes => lanes.filterMap (via t n)
  | .sload _ va => (plain va.toNat).toList
  | .sstore va _ => (plain va.toNat).toList
  | .mxldz _ va => (piecesAt va.toNat 64 64).filterMap plain
  | .mxstz _ va => (piecesAt va.toNat 64 64).filterMap plain
  | .post fn _ va _ => (descPieces fn va.toNat).filterMap plain
  | .seal va => (piecesAt va.toNat 64 5).filterMap plain
  | .frame va => (plain va.toNat).toList
  | .vloadE _ _ _ => []
  | .vstoreE _ _ => []
  | .atom _ _ _ _ => []
  | .red _ _ _ => []
  | .qlock _ => []
  | .qunlock _ => []
  | .xfer _ _ _ => []
  | .remote _ _ _ => []

/-- Whether a request accesses strongly ordered memory (R168). -/
def MemReq.strong (s : State) (w : Wave) (req : MemReq) : Bool := (req.leaves s w).any (fun l => l.mt == 3)

/-- Whether an instruction is a release at .sys: ATOM or RED with .rel or .ar and SC = 1 (R102, R166). -/
def sysRelease : Instr → Bool
  | .atom _ r _ c _ _ _ _ => r.getLsbD 1 && c == 1
  | .red _ r _ c _ _ _ _ => r.getLsbD 1 && c == 1
  | _ => false

/-- Whether a request is performed only once the wave's stores, requests and records at other devices are: a release at .sys,
or an access to strongly ordered memory (R165, R166, R168). -/
def afterReflected (i : Instr) (req : MemReq) (s : State) : Bool :=
  (sysRelease i || req.strong s s.wave) && waveInFlight s s.wave.span.part s.wave.id

/-- What a request does, once it need not wait for what it must follow (R165, R168). -/
def inOrder (i : Instr) (req : MemReq) (s : State) (act : Result) : Result :=
  if afterReflected i req s then .next (waitAgain (.retryReflected false) s) else act

/-- A performed request completes; where strongly ordered memory reflects the store itself, the wave goes on once that is
performed at its receiver (R168). -/
def completed (i : Instr) (req : MemReq) (s t : State) : Result :=
  if req.strong s s.wave && waveInFlight t s.wave.span.part s.wave.id then
    .next (sleepOn (.retryReflected false) (retire i 0 none s.wave t))
  else done i s.wave t

/-- A request in the order that R165 and R168 give it. -/
def orderedRequest (i : Instr) (req : MemReq) (mask : Word64) (attempt : State → Attempt) (s : State) : Result :=
  inOrder i req s (conclude i req mask (completed i req s) (attempt s) s)

/-- VLD (R357, R358). -/
def execVld (m : BitVec 3) (w : BitVec 2) (t : BitVec 4) (o d : BitVec 6) (st : BitVec 3) (s : State) : Result :=
  gate (.vld m w t o d st) s (fun s =>
    let mask := s.wave.lanes m.toNat
    let a := s.wave.areg t.toNat
    let lanes := laneReqs mask (s.wave.vval o.toNat) (fun _ => 0)
    if w = 3 then orderedRequest (.vld m w t o d st) (.vloadE d.toNat a lanes) mask (tryVloadE false d.toNat a lanes) s
    else orderedRequest (.vld m w t o d st) (.vload d.toNat (2 ^ w.toNat) a lanes) mask (tryVload false d.toNat (2 ^ w.toNat) a lanes) s)

/-- VST (R357, R358). -/
def execVst (m : BitVec 3) (w : BitVec 2) (t : BitVec 4) (o d : BitVec 6) (st : BitVec 3) (s : State) : Result :=
  gate (.vst m w t o d st) s (fun s =>
    let mask := s.wave.lanes m.toNat
    let a := s.wave.areg t.toNat
    let lanes := laneReqs mask (s.wave.vval o.toNat) (s.wave.vval d.toNat)
    if w = 3 then orderedRequest (.vst m w t o d st) (.vstoreE a lanes) mask (tryVstoreE a lanes) s
    else orderedRequest (.vst m w t o d st) (.vstore (2 ^ w.toNat) a lanes) mask (tryVstore (2 ^ w.toNat) a lanes) s)

/-! ### Scratchpad (R141, R142) -/

/-- The block of a block select: the wave's own, or one of its span that has not ended (R102, R141, R142). -/
def scratchBlock (s : State) (w : Wave) (k : Nat) : Option Block :=
  match s.findBlock w.span (if k = 0 then w.block else k % 4) with
  | some b => if b.ended then none else some b
  | none => none

/-- The trap of the lowest lane whose offset is misaligned or out of range (R141, R336). -/
def scratchTrap (i : Instr) (k size : Nat) (b : Option Block) (lanes : List LaneReq) : Option Trap :=
  let limit := match b with | some b => b.size | none => 0
  match lanes.find? (fun r => r.off % size != 0 || decide (limit < r.off + size)) with
  | none => none
  | some r =>
    if r.off % size ≠ 0 then some (trapOf i 0x02 (laneMask r.lane) 0 [])
    else some (trapOf i 0x06 (laneMask r.lane) 0 [k, r.off])

/-- The lanes that read a poisoned sector of a scratchpad, and the first such sector. -/
def scratchPoison (b : Block) (lanes : List LaneReq) : Option (Nat × Word64) :=
  match lanes.filter (fun r => sget b.poison (r.off / 32) != 0) with
  | [] => none
  | r :: rest => some (r.off / 32, maskOf ((r :: rest).map (·.lane)))

/-- The latency of VLDS (R73). -/
def scratchWait (s : State) (w : Wave) (b : Block) : Nat := 4 * s.passes w + if b.index = w.block then 0 else 40

/-- VLDS (R141, R358). -/
def execVlds (m : BitVec 3) (w : BitVec 2) (k : BitVec 4) (o d : BitVec 6) (st : BitVec 3) (s : State) : Result :=
  gate (.vlds m w k o d st) s (fun s =>
    let i : Instr := .vlds m w k o d st
    let x := s.wave
    let size := 2 ^ w.toNat
    let lanes := laneReqs (x.lanes m.toNat) (x.vval o.toNat) (fun _ => 0)
    match scratchTrap i k.toNat size (scratchBlock s x k.toNat) lanes, scratchBlock s x k.toNat with
    | some t, _ => raise t s
    | none, none => done i x s
    | none, some b =>
      match scratchPoison b lanes with
      | some p => .next (consume s x 2 (dieBank b.core) (b.sbase / 32 + p.1) p.2)
      | none =>
        let values := lanes.map (fun r => (r.lane, BitVec.ofNat 32 (leValue (sgetFrom b.scratch r.off size))))
        done i x ((setVHeld s d.toNat (maskOf (lanes.map (·.lane))) (fun l => sget values l) (scratchWait s x b)).onWave
          (Wave.perform s (scratchWait s x b))))

/-- A scratchpad after the stores of lanes in ascending order (R157), and its poison (R271). -/
def Block.store (b : Block) (size : Nat) (lanes : List LaneReq) : Block :=
  let covered := lanes.flatMap (fun r => (List.range size).map (r.off + ·))
  { b with
    scratch := lanes.foldl (fun m r => ssetFrom m r.off (leSplit size r.data.toNat)) b.scratch,
    poison := b.poison.filter (fun e => !((List.range 32).all (fun j => covered.contains (32 * e.1 + j)))) }

/-- VSTS (R141, R358). -/
def execVsts (m : BitVec 3) (w : BitVec 2) (k : BitVec 4) (o d : BitVec 6) (st : BitVec 3) (s : State) : Result :=
  gate (.vsts m w k o d st) s (fun s =>
    let i : Instr := .vsts m w k o d st
    let x := s.wave
    let size := 2 ^ w.toNat
    let lanes := laneReqs (x.lanes m.toNat) (x.vval o.toNat) (x.vval d.toNat)
    match scratchTrap i k.toNat size (scratchBlock s x k.toNat) lanes, scratchBlock s x k.toNat with
    | some t, _ => raise t s
    | none, none => done i x s
    | none, some b =>
      done i x ((s.changeBlock b.span b.index (fun b => b.store size lanes)).onWave (Wave.perform s (scratchWait s x b))))

/-! ### Atomics (R158, R159, R289 to R291) -/

/-- f(old, x) of R290. -/
def atomicOp (aop : Nat) (old x : Word32) : Word32 :=
  match aop with
  | 0 => old + x
  | 1 => (fadd .rne old x).1
  | 2 => if old.sle x then old else x
  | 3 => if old.sle x then x else old
  | 4 => if old.ule x then old else x
  | 5 => if old.ule x then x else old
  | 6 => old &&& x
  | _ => old ||| x

/-- One lane's step of an atomic: the word it held, noted under the lane, and the new one (R290). -/
def atomicLane (aop : Nat) (t : TReg) (a : State × List (Nat × Word32)) (e : LaneReq × Leaf) : State × List (Nat × Word32) :=
  let va := t.va e.1.off
  let old := BitVec.ofNat 32 (loadLe a.1 e.2 va 4)
  (putBytes a.1 e.2.key (bytesAt e.2 va (leSplit 4 (atomicOp aop old e.1.data).toNat)), a.2 ++ [(e.1.lane, old)])

/-- Perform the lanes of ATOM or RED in ascending order, which performs each word's group as one act (R159); `finish`
gives ATOM's old values to the wave. The span's replayable bit ends (R274). -/
def tryAtomic (aop : Nat) (t : TReg) (lanes : List LaneReq) (finish : State → Nat → List (Nat × Word32) → State)
    (s : State) : Attempt :=
  let w := s.wave
  let found := findLanes s w .atomic t 4 lanes
  match firstCause (laneCauses found) with
  | some c => .stopped c
  | none =>
    let ok := laneFinds found
    match poisonOf s (ok.map (fun e => (e.1, pasOf e.2.2 (t.va e.2.1.off) 4))) with
    | some p => .poisoned p.1 p.2
    | none =>
      let cycles := laneWaits s w t 4 (ok.map (·.2)) + cyclesIn s w.core 20
      let v := touchWalks s w.span.part w.span.ctx (walkedLanes t 4 lanes)
      let r := (ok.map (·.2)).foldl (atomicLane aop t) (v, [])
      let vas := ok.map (fun e => t.va e.2.1.off)
      let u := countAll (countAll r.1 w.span.part w.span.ctx 0 vas) w.span.part w.span.ctx 1 vas
      let u := touchAll u w.span.part true 4 (ok.map (fun e => (e.2.2, t.va e.2.1.off)))
      .performed ((finish (clearReplay u w.span) cycles r.2).onWave (Wave.perform s cycles))

/-- Perform ATOM. -/
def tryAtom (late : Bool) (dest aop : Nat) (t : TReg) (lanes : List LaneReq) (s : State) : Attempt :=
  tryAtomic aop t lanes (fun s cycles olds => s.onWave (fun w =>
    w.putV dest (maskOf (olds.map (·.1))) (fun l => sget olds l) (latency late cycles) true)) s

/-- Perform RED. -/
def tryRed (aop : Nat) (t : TReg) (lanes : List LaneReq) (s : State) : Attempt :=
  tryAtomic aop t lanes (fun s _ _ => s) s

/-- ATOM (R289, R290). Every local access of the model is performed in its step, so ORD and SC order only what is on its way to
other devices (R166). -/
def execAtom (m : BitVec 3) (r : BitVec 2) (p : BitVec 3) (c : BitVec 1) (t : BitVec 2) (o d : BitVec 5) (st : BitVec 3)
    (s : State) : Result :=
  gate (.atom m r p c t o d st) s (fun s =>
    let mask := s.wave.lanes m.toNat
    let a := s.wave.areg t.toNat
    let lanes := laneReqs mask (s.wave.vval o.toNat) (s.wave.vval (d.toNat + 1))
    orderedRequest (.atom m r p c t o d st) (.atom d.toNat p.toNat a lanes) mask (tryAtom false d.toNat p.toNat a lanes) s)

/-- RED (R289, R290). -/
def execRed (m : BitVec 3) (r : BitVec 2) (p : BitVec 3) (c : BitVec 1) (t : BitVec 2) (o d : BitVec 5) (st : BitVec 3)
    (s : State) : Result :=
  gate (.red m r p c t o d st) s (fun s =>
    let mask := s.wave.lanes m.toNat
    let a := s.wave.areg t.toNat
    let lanes := laneReqs mask (s.wave.vval o.toNat) (s.wave.vval d.toNat)
    orderedRequest (.red m r p c t o d st) (.red p.toNat a lanes) mask (tryRed p.toNat a lanes) s)

/-! ### Scalar loads and stores (R330, R331) -/

/-- Perform SLD. -/
def trySload (late : Bool) (dest : Nat) (va : Nat) (s : State) : Attempt :=
  let w := s.wave
  match access s w.span.part w.span.ctx .load va 8 with
  | .error c => .stopped (noLane, va, c)
  | .ok l =>
    match poisonOf s [(noLane, pasOf l va 8)] with
    | some p => .poisoned p.1 0
    | none =>
      let x := BitVec.ofNat 64 (loadLe s l va 8)
      let cycles := loadWaits s w [(l, va)] [va]
      let s := touchWalks s w.span.part w.span.ctx [va]
      let s := touch (sampleLoad (countAccess s w.span.part w.span.ctx va 0 0) w late cycles) w.span.part false l va 8
      .performed (s.onWave (fun w => (w.putS dest x (latency late cycles) true).perform s cycles))

/-- Perform SST. -/
def trySstore (va : Nat) (x : Word64) (s : State) : Attempt :=
  let w := s.wave
  match access s w.span.part w.span.ctx .store va 8 with
  | .error c => .stopped (noLane, va, c)
  | .ok l =>
    let cycles := loadWaits s w [(l, va)] [va]
    .performed ((storeList (touchWalks s w.span.part w.span.ctx [va]) w 8 [(l, va, x.toNat)]).onWave (Wave.perform s cycles))

/-- The address of SLD and SST (R331). -/
def scalarAddress (w : Wave) (b : BitVec 5) (o : BitVec 11) : Word64 := w.sval b.toNat + BitVec.ofInt 64 (8 * o.toInt)

/-- SLD (R331). -/
def execSld (o : BitVec 11) (b d : BitVec 5) (st : BitVec 3) (s : State) : Result :=
  gate (.sld o b d st) s (fun s =>
    let va := scalarAddress s.wave b o
    orderedRequest (.sld o b d st) (.sload d.toNat va) s.wave.active (trySload false d.toNat va.toNat) s)

/-- SST (R331). -/
def execSst (o : BitVec 11) (b d : BitVec 5) (st : BitVec 3) (s : State) : Result :=
  gate (.sst o b d st) s (fun s =>
    let va := scalarAddress s.wave b o
    orderedRequest (.sst o b d st) (.sstore va (s.wave.sval d.toNat)) s.wave.active (trySstore va.toNat (s.wave.sval d.toNat)) s)

/-! ### Queue locks (R311 to R314) -/

/-- A lock word passes the checks of an 8-byte atomic access, with PERM without both RD and WR (R312). -/
def lockAccess (s : State) (w : Wave) (va : Nat) : Except Cause Leaf :=
  access s w.span.part w.span.ctx .lock va 8

/-- A wave that a replay puts to sleep keeps what is left of a SLEEPU it stands in. -/
def Wave.keepSleep (w : Wave) (left : Nat) : Wave := { w with readyAt := max w.readyAt (w.now + left) }

/-- The issuing wave waits to become a lock's holder. -/
def sleepOnLock (pa va : Nat) (s : State) : State :=
  let left := match s.wave.wait with | .sleeping t => cyclesIn s s.wave.core (t - s.wave.since) | _ => 0
  sleepOn (.locking pa va) (s.onWave (fun w => w.keepSleep left))

/-- QLOCK's act at the lock's unit: the free lock taken, or the wave appended to the waiters; with the unit full, the
wave waits for an entry (R312, R314). -/
def takeLock (l : Leaf) (va : Nat) (s : State) : State :=
  let w := s.wave
  let pa := l.pa va
  match findLock s w.span.part pa with
  | some k => sleepOnLock pa va (putLock s { k with waiters := k.waiters ++ [w.id] })
  | none =>
    let k : Lock := ⟨pa, l.key, va, w.id, w.span.part, w.span.ctx, []⟩
    if unitLoad s (lockUnit s w.span.part pa) < 64 then putLock s k
    else sleepOnLock pa va { s with lockQ := s.lockQ ++ [k] }

/-- Perform QLOCK; LOCK_OWNER if the wave holds the lock already (R312). -/
def tryQlock (i : Instr) (va : Nat) (s : State) : Attempt :=
  match lockAccess s s.wave va with
  | .error c => .stopped (noLane, va, c)
  | .ok l =>
    let t := touchWalks s s.wave.span.part s.wave.span.ctx [va]
    match findLock s s.wave.span.part (l.pa va) with
    | some k => if k.holder = s.wave.id then .refused (lockTrap i 0x0E va) else .performed (takeLock l va t)
    | none => .performed (takeLock l va t)

/-- Perform QUNLOCK; LOCK_OWNER if the wave does not hold the lock (R312). -/
def tryQunlock (i : Instr) (va : Nat) (s : State) : Attempt :=
  match lockAccess s s.wave va with
  | .error c => .stopped (noLane, va, c)
  | .ok l =>
    match findLock s s.wave.span.part (l.pa va) with
    | some k =>
      if k.holder = s.wave.id then .performed (passLock (touchWalks s s.wave.span.part s.wave.span.ctx [va]) k) else .refused (lockTrap i 0x0E va)
    | none => .refused (lockTrap i 0x0E va)

/-- QLOCK (R312). -/
def execQlock (r : BitVec 5) (st : BitVec 3) (s : State) : Result :=
  gate (.qlock r st) s (fun s =>
    let va := s.wave.sval r.toNat
    request (.qlock r st) (.qlock va) s.wave.active (tryQlock (.qlock r st) va.toNat) s)

/-- QUNLOCK (R312). -/
def execQunlock (r : BitVec 5) (st : BitVec 3) (s : State) : Result :=
  gate (.qunlock r st) s (fun s =>
    let va := s.wave.sval r.toNat
    request (.qunlock r st) (.qunlock va) s.wave.active (tryQunlock (.qunlock r st) va.toNat) s)

/-! ### ERET (R304) -/

/-- The 128 bytes of the frame that ERET reads, or what stands in the way. -/
def frameAccess (s : State) (w : Wave) : Except Cause Leaf := access s w.span.part w.span.ctx .load w.trapframe.toNat 128

/-- ERET (R304): ILLOP at user level; a frame that faults resolvably is read once the fault is served. -/
def execEret (st : BitVec 3) (s : State) : Result :=
  gate (.eret st) s (fun s =>
    let w := s.wave
    let va := w.trapframe.toNat
    if w.level = .user then raise (trapOf (.eret st) 0x01 0 0 []) s
    else inOrder (.eret st) (.frame w.trapframe) s <|
      match frameAccess s w with
      | .error c =>
        meet (.eret st) (.frame w.trapframe) 0 (noLane, va, c) (fun s => .next (waitAgain .retryService s))
          ((MemReq.frame w.trapframe).stops (noLane, va, c) s)
      | .ok l =>
        let s := (MemReq.frame w.trapframe).walks s
        match poisonOf s [(noLane, pasOf l va 128)] with
        | some p => .next (consumeSector s w p.1 0)
        | none => returnThrough (.eret st) l s)

end Sys2Proof.Machine
end

