-- ==== Sys2Proof/Machine/Paths.lean ====
section
/-!
DEFINITION. Paths of the scale-up fabric on the sending side: which devices are reachable, and putting a packet on a path
(R223 to R228).
-/

namespace Sys2Proof.Machine

open Sys2Proof

/-! ### Routes (R223 to R225) -/

/-- The bay and the seat of a device number (R223). -/
def bayOf (device : Nat) : Nat := device / 16
/-- The seat of a device number (R223). -/
def seatOf (device : Nat) : Nat := device % 16

/-- Whether this device's direct link to a seat of its bay is good (R225). -/
def linkGood (s : State) (seat : Nat) : Bool := !s.fabric.down.contains seat

/-- The relay seat of a detour to a seat: the first of the seats after it that differs from this device's own, is of a
member, and has a good link (R225). Links between other devices are taken to be good (log 15). -/
def relayOf (s : State) (own target : Nat) : Option Nat :=
  ((List.range 15).map (fun j => (target + 1 + j) % 16)).find? (fun r =>
    r != seatOf own && s.fabric.members.contains (16 * bayOf own + r) && linkGood s r)

/-- The good uplink on which a path's traffic to another bay leaves (R224). -/
def uplinkOf (s : State) (number : Nat) : Option Nat :=
  ((List.range 16).map (fun j => (number + j) % 16)).find? (fun u => !s.fabric.upDown.contains u)

/-- Whether a device can be reached from this one (R223, R225). -/
def reachable (s : State) (device : Nat) : Bool :=
  match s.fabric.number with
  | none => false
  | some own =>
    s.fabric.members.contains device &&
    (device == own ||
     (if bayOf device = bayOf own then linkGood s (seatOf device) || (relayOf s own (seatOf device)).isSome
      else (uplinkOf s 0).isSome))

/-- This device's number; 0 before a domain is formed, when nothing is reachable (R223). -/
def ownNumber (s : State) : Nat := s.fabric.number.getD 0

/-! ### Sending (R226, R228) -/

/-- The number of the path of XFERX records of a domain on a link (R228). -/
def recordPath (domid link : Nat) : Nat := 512 + 16 * domid + link

/-- The link on which a path's packet leaves: the device itself, the direct link to the destination's seat or to that of the relay,
or the uplink of the path's number; none while the destination is unreachable (R224, R225, R228). -/
def routeOf (s : State) (key : PathKey) : Option Nat :=
  match s.fabric.number with
  | none => none
  | some own =>
    if key.peer = own then some 32
    else if !reachable s key.peer then none
    else if bayOf key.peer = bayOf own then
      if linkGood s (seatOf key.peer) then some (seatOf key.peer) else relayOf s own (seatOf key.peer)
    else (uplinkOf s key.number).map (16 + ·)

/-- Append a packet to a path: it takes the path's next sequence number, leaves on its link, and stays until it is acknowledged
(R224, R226, R227). -/
def sendOn (s : State) (key : PathKey) (x : Payload) : State :=
  let f := s.fabric
  let sent (n : BitVec 32) : Sent Packet := ⟨s.cyc, s.cyc, routeOf s key, ⟨key, n, x⟩⟩
  match f.outs.find? (fun o => o.key == key) with
  | some o =>
    let o' := { o with next := o.next + 1, unacked := o.unacked ++ [sent o.next] }
    { s with fabric := { f with outs := modFirst (fun o => o.key == key) (fun _ => o') f.outs } }
  | none => { s with fabric := { f with outs := f.outs ++ [⟨key, 1, [sent 0]⟩] } }

/-- One more, or one fewer, of a wave's transfer records without an answer (R218). -/
def countUnanswered (s : State) (wave : Nat) (f : Nat → Nat) : State :=
  let n := f (tgetD s.unanswered wave 0)
  { s with unanswered := if n = 0 then terase s.unanswered wave else tset s.unanswered wave n }

end Sys2Proof.Machine
end

