-- ==== Sys2Proof/Machine/Conserved.lean ====
section
/-!
DEFINITION. Conserved domains: sealing and binding, transfers and their records, and totals (R201 to R222, R374).
-/

namespace Sys2Proof.Machine

open Sys2Proof

/-! ### Domains and cells (R201, R202, R207) -/

/-- Change a SEALED domain. -/
def changeDomain (s : State) (part domid : Nat) (f : Domain → Domain) : State :=
  setPart s part (fun p => { p with domains := tmod p.domains domid f })

/-- The first cause that the conservation unit meets at a cell's leaf: KEY, then CLASS where the page is not a conserved one of
the domain (R155, R207). -/
def cellCause (s : State) (part domid : Nat) (l : Leaf) (va : Nat) : Option Cause :=
  if !keyUsable s part l.key then some .key
  else if l.cls ≠ 1 ∨ l.domid ≠ domid then some .cls
  else deviceCause l va

/-- The leaf of a cell's address in a context (R207). -/
def cellLeaf (s : State) (part ctx domid va : Nat) : Except Cause Leaf :=
  match translate s part ctx va with
  | .error c => .error c
  | .ok l => match cellCause s part domid l va with | some c => .error c | none => .ok l

/-- The leaf of a cell of the wave's bound domain: through a15 where it holds the domain's base (R207). -/
def cellVia (s : State) (w : Wave) (t : TReg) (domid base c : Nat) : Except Cause Leaf :=
  let va := base + 4 * c
  if t.base.toNat = base ∧ 4 * c + 4 ≤ t.limit then
    match cellCause s w.span.part domid t.leaf va with | some c => .error c | none => .ok t.leaf
  else cellLeaf s w.span.part w.span.ctx domid va

/-- The FX32 value of a cell. -/
def cellValue (s : State) (l : Leaf) (va : Nat) : Int := (BitVec.ofNat 32 (loadLe s l va 4)).toInt

/-- Write a cell: four bytes, by the conservation unit alone (R202). -/
def putCell (s : State) (part : Nat) (l : Leaf) (va : Nat) (x : Int) : State :=
  touch (putBytes s l.key (bytesAt l va (leSplit 4 (BitVec.ofInt 32 x).toNat))) part true l va 4

/-! ### DOMAIN_FAULT (R211, R336) -/

/-- DOMAIN_FAULT with its cause code, lane and VA. -/
def domainTrap (i : Instr) (cause lane va : Nat) : Trap := trapOf i 0x11 (laneMask lane) va [cause]

/-- The leaf of each 32 KiB of virtual addresses that holds one of a list of cells. -/
def homesOf (cells : List (Leaf × Nat)) : List (Nat × Leaf) := (cells.map (fun e => (e.2 / 2 ^ 15, e.1))).eraseDups

/-! ### Sealing (R202 to R204) -/

/-- The doublewords of a seal record, which may reach into a second page: the causes of its five 64-byte pieces. -/
def sealPieces (s : State) (w : Wave) (va : Nat) : List (Nat × Except (Nat × Cause) (Leaf × Nat)) :=
  (List.range 5).map (fun j => (noLane,
    let a := (va + 64 * j) % 2 ^ 64
    match access s w.span.part w.span.ctx .load a 64 with
    | .ok l => .ok (l, a)
    | .error c => .error (a, c)))

/-- The fields of R203 that must be 0 or bounded. -/
def sealRecordOk (ws : List Nat) : Bool :=
  let nacc := field (ws.getD 0 0) 8 5
  field (ws.getD 0 0) 6 2 == 0 && field (ws.getD 0 0) 13 51 == 0 && decide (nacc ≤ 16) &&
  decide (ws.getD 1 0 < 2 ^ 56) && ws.getD 1 0 % 2 ^ 15 == 0 &&
  decide (1 ≤ ws.getD 2 0) && decide (ws.getD 2 0 < 2 ^ 31) &&
  (List.range 5).all (fun j => ws.getD (3 + j) 0 == 0) &&
  (List.range 16).all (fun k => decide (k < nacc) || ws.getD (8 + k) 0 == 0) &&
  (List.range 16).all (fun k => field (ws.getD (24 + k) 0) 14 2 == 0 && field (ws.getD (24 + k) 0) 17 47 == 0)

/-- A link of a seal record, its counters 0 (R203, R204). -/
def sealLink (x : Nat) : Link :=
  { valid := field x 16 1 == 1, peer := field x 0 8, peerDom := field x 8 6, sent := 0, acked := 0, refunded := 0,
    applied := 0 }

/-- The value of a doubleword as a signed figure. -/
def signed64 (x : Nat) : Int := (BitVec.ofNat 64 x).toInt

/-- A domain as its seal record describes it, with the sum of its cells and their homes (R204). -/
def sealedDomain (ctx : Nat) (ws : List Nat) (interior : Int) (homes : List (Nat × Leaf)) : Domain :=
  { ctx := ctx, base := ws.getD 1 0, ncell := ws.getD 2 0, interior := interior,
    bal := (List.range (field (ws.getD 0 0) 8 5)).map (fun k => signed64 (ws.getD (8 + k) 0)), residue := 0,
    links := (List.range 16).map (fun k => sealLink (ws.getD (24 + k) 0)), homes := homes, lost := [] }

/-- What a seal finds in the cells from `c` on: their leaves in order, or the first address that fails and whether it is
poison or a device register (R204). The model's choice: a page whose key is not usable or whose leaf is malformed fails as the pages that
the manual names do, with PAGES (log 94). -/
def sealCells (s : State) (part ctx domid base : Nat) : Nat → Nat → Except (Nat × Option Cause) (List (Leaf × Nat))
  | 0, _ => .ok []
  | n + 1, c =>
    let va := base + 4 * c
    match cellLeaf s part ctx domid va with
    | .error (.poison pa) => .error (va, some (.poison pa))
    | .error (.device pa) => .error (va, some (.device pa))
    | .error _ => .error (va, none)
    | .ok l =>
      match tget s.marks (l.pa va / 2 ^ 15) with
      | some m => if m = (part, domid) then addCell (l, va) (sealCells s part ctx domid base n (c + 1)) else .error (va, none)
      | none => addCell (l, va) (sealCells s part ctx domid base n (c + 1))
where
  /-- One more cell in front of those found. -/
  addCell (x : Leaf × Nat) : Except (Nat × Option Cause) (List (Leaf × Nat)) → Except (Nat × Option Cause) (List (Leaf × Nat))
    | .ok xs => .ok (x :: xs)
    | .error e => .error e

/-- Mark the frames of cells as a domain's (R202). The model's choice: of a page of 64 MiB or 128 GiB only the frames of 32 KiB that hold
cells are marked (log 92). -/
def markFrames (s : State) (part domid : Nat) (cells : List (Leaf × Nat)) : State :=
  { s with marks := (cells.map (fun e => e.1.pa e.2 / 2 ^ 15)).eraseDups.foldl (fun m f => tset m f (part, domid)) s.marks }

/-- The pages of the first `n` cells from a base (R203). -/
def cellPages (base n : Nat) : List Nat := (List.range ((n + 8191) / 8192)).map (fun k => base + 2 ^ 15 * k)

/-- Seal a domain from the doublewords of its record (R204): the marks, the sum and the state in one act. Every write of
the model is performed in its own step, so none is on its way. A poisoned cell is not summed as if it were good (R264). -/
def sealFrom (i : Instr) (ws : List Nat) (s : State) : Attempt :=
  let w := s.wave
  let domid := field (ws.getD 0 0) 0 6
  if !sealRecordOk ws then .refused (domainTrap i 3 noLane 0)
  else if (findDomain s w.span.part domid).isSome then .refused (domainTrap i 2 noLane 0)
  else
    let s := touchWalks s w.span.part w.span.ctx (cellPages (ws.getD 1 0) (ws.getD 2 0))
    match sealCells s w.span.part w.span.ctx domid (ws.getD 1 0) (ws.getD 2 0) 0 with
    | .error (va, some c) => .stopped (noLane, va, c)
    | .error (va, none) => .refused (domainTrap i 4 noLane va)
    | .ok cells =>
      match poisonOf s (cells.map (fun e => (noLane, pasOf e.1 e.2 4))) with
      | some p => .poisoned p.1 0
      | none =>
        match cells.find? (fun e => decide (cellValue s e.1 e.2 < 0)) with
        | some e => .refused (domainTrap i 5 noLane e.2)
        | none =>
          let d := sealedDomain w.span.ctx ws (cells.foldl (fun n e => n + cellValue s e.1 e.2) 0) (homesOf cells)
          let s := touchAll s w.span.part false 4 cells
          .performed (setPart (markFrames s w.span.part domid cells) w.span.part
            (fun p => { p with domains := tset p.domains domid d }))

/-- Perform FBIND.SEAL (R204). -/
def trySeal (i : Instr) (va : Nat) (s : State) : Attempt :=
  if va % 64 ≠ 0 then .stopped (noLane, va, .align)
  else
    let w := s.wave
    let found := sealPieces s w va
    match firstCause (laneCauses found) with
    | some c => .stopped c
    | none =>
      let pieces := (laneFinds found).map (·.2)
      match poisonOf s (pieces.map (fun e => (noLane, pasOf e.1 e.2 64))) with
      | some p => .poisoned p.1 0
      | none =>
        let ws := pieces.flatMap (fun e => (List.range 8).map (fun k => loadLe s e.1 (e.2 + 8 * k) 8))
        let s := touchWalks s w.span.part w.span.ctx (piecesAt va 64 5)
        sealFrom i ws (countAll (touchAll s w.span.part false 64 pieces) w.span.part w.span.ctx 0 (pieces.flatMap (fun e => (List.range 8).map (fun k => e.2 + 8 * k))))

/-- FBIND.SEAL (R204): the wave waits until the seal completes. -/
def execFbindSeal (r : BitVec 5) (st : BitVec 3) (s : State) : Result :=
  gate (.fbindSeal r st) s (fun s =>
    let va := s.wave.sval r.toNat
    inOrder (.fbindSeal r st) (.seal va) s
      (heldRequest (.fbindSeal r st) (.seal va) s.wave.active 0 (trySeal (.fbindSeal r st) va.toNat s) s))

/-! ### Binding (R205, R206) -/

/-- XDOM of a bound domain (R205). -/
def xdomWord (domid : Nat) (d : Domain) : Word64 := BitVec.ofNat 64 (2 ^ 63 + d.base + domid)

/-- FBIND (R206): a15 is bound as ABIND binds it. -/
def execFbind (r : BitVec 5) (st : BitVec 3) (s : State) : Result :=
  gate (.fbind r st) s (fun s =>
    let i : Instr := .fbind r st
    let w := s.wave
    let x := (w.sval r.toNat).toNat
    let P := s.passes w
    if 2 ^ 7 ≤ x then raise (domainTrap i 3 noLane 0) s
    else if field x 6 1 = 1 then
      done i w (s.onWave (fun w => { w.note (.csr 0x200) [] (2 * P) true with xdom := 0, poisonC := serase w.poisonC 0x200 }))
    else
      match findDomain s w.span.part (field x 0 6) with
      | none => raise (domainTrap i 2 noLane 0) s
      | some d =>
        let t := touchWalks s w.span.part w.span.ctx [d.base]
        match translate s w.span.part w.span.ctx d.base with
        | .error (.poison pa) => .next (consumeSector t w pa 0)
        | .error (.device pa) => .fault (.deviceRegister pa)
        | found =>
          let a := bound s w.span.part (w.areg 15) d.base found
          done i w (t.onWave (fun w =>
            { (w.note (.csr 0x200) [] (bindWait s w d.base) true).note (.a 15) [] (bindWait s w d.base) true with
                xdom := xdomWord (field x 0 6) d, a := tset w.a 15 a,
                poisonA := serase w.poisonA 15, poisonC := serase w.poisonC 0x200 })))

/-! ### Transfers (R207 to R211, R215) -/

/-- Whether an account designator is well formed and within the accounts (R207). -/
def accountOk (d : Domain) (x : Nat) : Bool := field x 4 27 == 0 && decide (field x 0 4 < d.bal.length)

/-- The rank of a cause in the table of R155. -/
def Cause.rank : Cause → Nat
  | .align => 1 | .address => 2 | .notPresent => 3 | .malformed => 4 | .key => 5 | .conserved => 6 | .cls => 7
  | .perm => 8 | .type => 9 | .format => 10 | .poison _ => 11 | .device _ => 12

/-- The earlier of two causes in the table's order, the first of equals (R155). -/
def earlier (a b : Nat × Cause) : Nat × Cause := if b.2.rank < a.2.rank then b else a

/-- What the cells that a lane names meet: their leaves by address, or the earliest cause. -/
def laneCells (s : State) (w : Wave) (t : TReg) (domid : Nat) (d : Domain) (names : List Nat) :
    Except (Nat × Cause) (List (Nat × Leaf)) :=
  let found := (names.filter (fun x => !isAccount x)).map (fun x => (x, cellVia s w t domid d.base x))
  match found.filterMap (fun e => match e.2 with | .error c => some (d.base + 4 * e.1, c) | .ok _ => none) with
  | c :: cs => .error (cs.foldl earlier c)
  | [] => .ok (found.filterMap (fun e => match e.2 with | .ok l => some (e.1, l) | .error _ => none))

/-- The first DOMAIN_FAULT cause of a lane, of RANGE, ACCOUNT, LINK and SIGN, with the VA of the cell that is out of range
(R207, R210, R211). -/
def laneDomainCause (cross : Bool) (d : Domain) (r : XferLane) : Option (Nat × Nat) :=
  let names := r.names cross
  match names.find? (fun x => !isAccount x && decide (d.ncell ≤ x)) with
  | some c => some (6, d.base + 4 * c)
  | none =>
    if names.any (fun x => isAccount x && !accountOk d x) then some (7, 0)
    else if cross && !r.badDest && !((d.links.getD (field r.dest.toNat 27 4) (sealLink 0)).valid) then some (8, 0)
    else if cross && !r.badAmount && decide (r.amount.toInt < 0) then some (9, 0)
    else none

/-- The lanes that read a poisoned amount or designator (R210, R270). -/
def spoiltLanes (lanes : List XferLane) : Word64 :=
  maskOf ((lanes.filter (fun r => r.badAmount || r.badSource || r.badDest)).map (·.lane))

/-- The signed amounts that the lanes give each local designator (R209, R215). -/
def xferDeltas (cross : Bool) (lanes : List XferLane) : List (Nat × Int) :=
  lanes.flatMap (fun r =>
    (r.source.toNat, -r.amount.toInt) :: (if cross then [] else [(r.dest.toNat, r.amount.toInt)]))

/-- The net delta of a designator. -/
def deltaOf (deltas : List (Nat × Int)) (x : Nat) : Int :=
  deltas.foldl (fun n e => if e.1 = x then n + e.2 else n) 0

/-- The lanes that name one of a list of designators (R210). -/
def lanesNaming (cross : Bool) (lanes : List XferLane) (xs : List Nat) : Word64 :=
  maskOf ((lanes.filter (fun r => (r.names cross).any xs.contains)).map (·.lane))

/-- The trap of NEG_CONTENT or FX_OVERFLOW: the lanes, and the lowest failing cell's VA, or the lowest failing account
with bit 63 set (R210, R336). -/
def contentTrap (i : Instr) (code : Nat) (cross : Bool) (base : Nat) (lanes : List XferLane) (bad : List Nat) : Trap :=
  let mask := lanesNaming cross lanes bad
  match (bad.filter (fun x => !isAccount x)).min? with
  | some c => trapOf i code mask (base + 4 * c) [mask.toNat, base + 4 * c]
  | none => trapOf i code mask 0 [mask.toNat, 2 ^ 63 + field ((bad.min?).getD 0) 0 4]

/-- Mark a refusal pending for a wave, or for the span of a wave that has ended (R217). -/
def markRefused (s : State) (wave : Nat) (r : RefusedXfer) : State :=
  if (s.findWave wave).isSome then s.changeWave wave (fun w => { w with refused := w.refused ++ [r] })
  else { s with spans := modFirst (fun x => x.members.contains wave) (fun x => { x with refused := x.refused ++ [r] }) s.spans }

/-- Return a refused amount to its source (R217): the account, the cell, or RESIDUE. The model's choice: a balance or RESIDUE may leave
the signed 64-bit range, of which FTOTAL then reads the low 64 bits (log 93); a cell that cannot be reached for any cause of its page
counts as one that is not mapped (log 95). -/
def refundSource (s : State) (part domid source : Nat) (amount : Int) : State :=
  match findDomain s part domid with
  | none => s
  | some d =>
    if isAccount source then
      changeDomain s part domid (fun d =>
        { d with bal := d.bal.zipIdx.map (fun e => if e.2 = field source 0 4 then e.1 + amount else e.1) })
    else
      let va := d.base + 4 * source
      let s := touchWalks s part d.ctx [va]
      let residue := changeDomain s part domid (fun d => { d with residue := d.residue + amount })
      match cellLeaf s part d.ctx domid va with
      | .error _ => residue
      | .ok l =>
        if !rangePoisoned s l va 4 && decide (cellValue s l va + amount ≤ 2 ^ 31 - 1) then
          changeDomain (putCell s part l va (cellValue s l va + amount)) part domid (fun d => { d with interior := d.interior + amount })
        else residue

/-- Change one link of a domain. -/
def changeLink (s : State) (part domid link : Nat) (f : Link → Link) : State :=
  changeDomain s part domid (fun d => { d with links := d.links.zipIdx.map (fun e => if e.2 = link then f e.1 else e.1) })

/-- A refused record at its source (R217): refunded, and pending for the issuing wave. -/
def refuseRecord (s : State) (part domid link source dest : Nat) (amount : Int) (reason wave : Nat) : State :=
  let s := changeLink s part domid link (fun l => { l with refunded := l.refunded + amount })
  markRefused (refundSource s part domid source amount) wave ⟨source, dest, link, amount, reason⟩

/-- Send the record of a lane, or refuse it at once where the peer is unreachable (R215). -/
def sendRecord (part domid wave : Nat) (s : State) (r : XferLane) : State :=
  let link := field r.dest.toNat 27 4
  let amount := r.amount.toInt
  match findDomain s part domid with
  | none => s
  | some d =>
    if amount = 0 then s
    else
      let k := d.links.getD link (sealLink 0)
      let s := changeLink s part domid link (fun l => { l with sent := l.sent + amount })
      if reachable s k.peer then
        countUnanswered (sendOn s ⟨k.peer, part, recordPath domid link, false⟩
          (.record (ownNumber s) domid link k.peerDom r.source.toNat r.dest.toNat amount wave)) wave (· + 1)
      else refuseRecord s part domid link r.source.toNat r.dest.toNat amount 1 wave

/-- Apply an act's deltas to the cells and balances of a domain (R209). -/
def applyDeltas (s : State) (part domid : Nat) (d : Domain) (cells : List (Nat × Leaf)) (deltas : List (Nat × Int)) : State :=
  let s := cells.foldl (fun s e =>
    let va := d.base + 4 * e.1
    if deltaOf deltas e.1 = 0 then s else putCell s part e.2 va (cellValue s e.2 va + deltaOf deltas e.1)) s
  changeDomain s part domid (fun d => { d with
    interior := d.interior + (cells.map (fun e => deltaOf deltas e.1)).foldl (· + ·) 0,
    bal := d.bal.zipIdx.map (fun e => e.1 + deltaOf deltas (2 ^ 31 + e.2)) })

/-- The cells that an act would take out of range on a side. -/
def badCells (s : State) (d : Domain) (cells : List (Nat × Leaf)) (deltas : List (Nat × Int)) (p : Int → Bool) : List Nat :=
  (cells.filter (fun e => deltaOf deltas e.1 != 0 && p (cellValue s e.2 (d.base + 4 * e.1) + deltaOf deltas e.1))).map (·.1)

/-- The accounts whose balance an act would take out of the 64-bit range (R209). -/
def badAccounts (d : Domain) (deltas : List (Nat × Int)) : List Nat :=
  (d.bal.zipIdx.filter (fun e =>
    let x := e.1 + deltaOf deltas (2 ^ 31 + e.2)
    decide (x < -2 ^ 63) || decide (2 ^ 63 ≤ x))).map (fun e => 2 ^ 31 + e.2)

/-- The act of XFER or XFERX at its domain, once every address and designator has passed (R209, R210, R215). -/
def xferAct (i : Instr) (cross : Bool) (domid : Nat) (d : Domain) (lanes : List XferLane) (cells : List (Nat × Leaf))
    (s : State) : Attempt :=
  let w := s.wave
  let deltas := xferDeltas cross lanes
  match poisonOf s (lanes.map (fun r => (r.lane, (cells.filter (fun e => (r.names cross).contains e.1)).flatMap
      (fun e => pasOf e.2 (d.base + 4 * e.1) 4)))) with
  | some p => .poisoned p.1 p.2
  | none =>
    let neg := badCells s d cells deltas (fun x => decide (x < 0))
    let above := badCells s d cells deltas (fun x => decide (2 ^ 31 - 1 < x)) ++ badAccounts d deltas
    if !neg.isEmpty then .refused (contentTrap i 0x12 cross d.base lanes neg)
    else if !above.isEmpty then .refused (contentTrap i 0x13 cross d.base lanes above)
    else
      let t := applyDeltas ((MemReq.xfer cross (w.areg 15) lanes).walks s) w.span.part domid d cells deltas
      let t := lanes.foldl (fun t r => countAny t w.span.part w.span.ctx
        (((r.names cross).filter (fun x => !isAccount x)).map (fun x => d.base + 4 * x)) 0 2) t
      let t := if cross then lanes.foldl (sendRecord w.span.part domid w.id) t else t
      .performed (clearReplay t w.span)

/-- Perform XFER or XFERX (R209, R215): UNBOUND first, then the causes of R155, then DOMAIN_FAULT, then poison in what the
lanes have read, then the act (R210). -/
def tryXfer (i : Instr) (cross : Bool) (t : TReg) (lanes : List XferLane) (s : State) : Attempt :=
  match boundDomain s s.wave with
  | none => .refused (domainTrap i 1 noLane 0)
  | some (domid, d) =>
    let found := lanes.map (fun r => (r.lane, laneCells s s.wave t domid d (r.names cross)))
    match firstCause (laneCauses found) with
    | some c => .stopped c
    | none =>
      match lanes.findSome? (fun r => (laneDomainCause cross d r).map (fun e => (r.lane, e))) with
      | some (lane, cause, va) => .refused (domainTrap i cause lane va)
      | none =>
        if spoiltLanes lanes ≠ 0 then .spoilt (spoiltLanes lanes)
        else xferAct i cross domid d lanes ((laneFinds found).flatMap (·.2)).eraseDups s

/-- The lanes of XFER and XFERX (R208). -/
def xferLanes (w : Wave) (m : BitVec 3) (b a d : BitVec 6) : List XferLane :=
  (lanesOf (w.lanes m.toNat)).map (fun l =>
    ⟨l, w.vval d.toNat l, w.vval a.toNat l, w.vval b.toNat l, w.badLane d.toNat l, w.badLane a.toNat l, w.badLane b.toNat l⟩)

/-- The cycles of the wait for the domain's answer: the largest load figure of the cells named, or of the domain's first
cell, and 20 ns (R73). -/
def answerWait (s : State) (w : Wave) (cells : List Nat) : Nat :=
  match boundDomain s w with
  | none => 0
  | some (domid, d) =>
    let named := if cells.isEmpty then [0] else cells
    loadWaits s w (named.filterMap (fun c =>
      match cellLeaf s w.span.part w.span.ctx domid (d.base + 4 * c) with
      | .ok l => some (l, d.base + 4 * c)
      | .error _ => none)) [] + cyclesIn s w.core 20

/-- XFER and XFERX whose lanes name cells while a15 is poisoned: no address is checked, since that would use it; the causes of
DOMAIN_FAULT come first, and then what is poisoned is consumed (R210, R264, R270; log 23). -/
def transferSpoilt (i : Instr) (cross : Bool) (d : Domain) (lanes : List XferLane) (s : State) : Result :=
  match lanes.findSome? (fun r => (laneDomainCause cross d r).map (fun e => (r.lane, e))) with
  | some (lane, cause, va) => raise (domainTrap i cause lane va) s
  | none =>
    .next (if spoiltLanes lanes ≠ 0 then consumeElements s s.wave (spoiltLanes lanes) else consumeRegister s s.wave)

/-- XFER and XFERX after the gate: the wave issues nothing more until the domain has answered (R209, R374). A poisoned mask
leaves no lane to be checked, and is consumed once the binding has been (R210, R270). -/
def transfer (i : Instr) (cross : Bool) (m : BitVec 3) (b a d : BitVec 6) (s : State) : Result :=
  let w := s.wave
  let lanes := xferLanes w m b a d
  let t := w.areg 15
  let cells := (lanes.flatMap (XferLane.names cross)).filter (fun x => !isAccount x)
  let wait := if lanes.isEmpty then 0 else answerWait s w cells
  let held := heldRequest i (.xfer cross t lanes) (w.lanes m.toNat) wait (tryXfer i cross t lanes s) s
  match boundDomain s w with
  | none => held
  | some (_, dom) =>
    if w.tainted (.m m.toNat) then .next (consumeRegister s w)
    else if w.tainted (.a 15) && !cells.isEmpty then transferSpoilt i cross dom lanes s
    else held

/-- XFER (R208, R209). -/
def execXfer (m : BitVec 3) (b a d : BitVec 6) (st : BitVec 3) (s : State) : Result :=
  gate (.xfer m b a d st) s (transfer (.xfer m b a d st) false m b a d)

/-- XFERX (R208, R215). -/
def execXferx (m : BitVec 3) (b a d : BitVec 6) (st : BitVec 3) (s : State) : Result :=
  gate (.xferx m b a d st) s (transfer (.xferx m b a d st) true m b a d)

/-! ### Totals (R213) -/

/-- LOCAL of a domain (R213). -/
def localTotal (d : Domain) : Int :=
  d.interior + d.bal.foldl (· + ·) 0 + d.residue + (d.links.map (fun l => l.sent - l.acked - l.refunded)).foldl (· + ·) 0

/-- A counter of a link; a link that is not valid carries no record (R213). -/
def linkFigure (d : Domain) (x : Nat) (f : Link → Int) : Int :=
  let l := d.links.getD x (sealLink 0)
  if l.valid then f l else 0

/-- The figure of a domain that FTOTAL reads (R213). -/
def figure (d : Domain) (kind x : Nat) : Int :=
  match kind with
  | 0 => d.interior
  | 1 => d.bal.getD x 0
  | 2 => d.residue
  | 3 => linkFigure d x (·.sent)
  | 4 => linkFigure d x (·.acked)
  | 5 => linkFigure d x (·.refunded)
  | 6 => linkFigure d x (·.applied)
  | 7 => localTotal d
  | 8 => d.ncell
  | _ => d.lost.length

/-- FTOTAL (R213). -/
def execFtotal (k x : BitVec 4) (d : BitVec 5) (st : BitVec 3) (s : State) : Result :=
  gate (.ftotal k x d st) s (fun s =>
    let i : Instr := .ftotal k x d st
    let w := s.wave
    match boundDomain s w with
    | none => raise (domainTrap i 1 noLane 0) s
    | some (_, dom) =>
      if k = 1 ∧ dom.bal.length ≤ x.toNat then raise (domainTrap i 7 noLane 0) s
      else done i w (setSHeld s d.toNat (BitVec.ofInt 64 (figure dom k.toNat x.toNat)) (answerWait s w [])))

end Sys2Proof.Machine
end

