-- ==== Sys2Proof/Machine/Csr.lean ====
section
/-!
DEFINITION. Control and status registers (R58, R59, R75, R105, R122, R186, R205, R278, R326 to R328, R379).
-/

namespace Sys2Proof.Machine

open Sys2Proof

/-- GEOM (R59). -/
def geom (P : Nat) : Word64 := BitVec.ofNat 64 (64 + 16 * 2 ^ 8 + P % 256 * 2 ^ 16 + 16 * 2 ^ 24)

/-- GTIME: OFF + CYC while the context is not paused, and the value at the pause otherwise (R258). -/
def gtimeOf (cyc : Nat) (c : Ctx) : Word64 :=
  match c.paused with
  | some (g, _) => BitVec.ofNat 64 g
  | none => BitVec.ofInt 64 (c.off + cyc)

/-- GTIME of a wave's context. -/
def gtime (s : State) (w : Wave) : Word64 :=
  match s.findCtx w.span.part w.span.ctx with
  | some c => gtimeOf s.cyc c
  | none => BitVec.ofNat 64 s.cyc

/-- The value of a CSR as the issuing wave reads it (R105, R328). -/
def readCsr (s : State) (n : Nat) : Word64 :=
  let w := s.wave
  if n = 0x000 then geom (s.passes w)
  else if n = 0x001 then (goodLanes s w.core w.quad).setWidth 64
  else if n = 0x002 then w.wid
  else if n = 0x003 then w.widfmt
  else if n = 0x010 then BitVec.ofNat 64 s.cyc
  else if n = 0x011 then gtime s w
  else if n = 0x020 then w.satf
  else if n = 0x021 then w.satctl
  else if n = 0x030 then w.sig
  else if n = 0x031 then w.sigctl
  else if n = 0x040 then w.sbchk
  else if n = 0x050 then w.trapvec
  else if n = 0x051 then w.trapframe
  else if n = 0x200 then w.xdom
  else if 0x100 ≤ n ∧ n ≤ 0x13F then sget (s.coreOf w.core).accown (n - 0x100)
  else 0

/-- The RW bits of a CSR (R58, R75, R122, R186, R278, R379). -/
def csrMask (n : Nat) : Word64 :=
  if n = 0x020 then 0xF
  else if n = 0x021 then 0xF1
  else if n = 0x030 then 0xFFFFFFFF
  else if n = 0x031 then 0x3
  else if n = 0x040 then 0x1
  else if n = 0x050 then 0x00FFFFFFFFFFFFC0
  else if n = 0x051 then 0x00FFFFFFFFFFFC00
  else if 0x100 ≤ n ∧ n ≤ 0x13F then 0x3FF
  else 0

/-- The kinds of write: SCSW, SCSS, SCSC (R327). -/
inductive CsrWrite where
  | write | set | clear
  deriving DecidableEq, Repr

/-- The value a kind of write gives a register before its fields' access is applied (R327). -/
def CsrWrite.apply (k : CsrWrite) (old x : Word64) : Word64 :=
  match k with
  | .write => x
  | .set => old ||| x
  | .clear => old &&& ~~~x

/-- MISS of SIGCTL, W1C: a 1 in the operand of SCSW or SCSS clears it, SCSC leaves it (R278, R327). -/
def missAfter (k : CsrWrite) (old x : Word64) : Word64 :=
  match k with
  | .clear => old &&& 4
  | _ => old &&& 4 &&& ~~~x

/-- The value of a CSR after a write: only RW and W1C fields change; a write to ACCOWN clears BUSY (R186, R327). -/
def csrAfter (n : Nat) (k : CsrWrite) (old x : Word64) : Word64 :=
  let rw := k.apply old x &&& csrMask n
  if n = 0x031 then rw ||| missAfter k old x else rw

/-- Store a CSR. -/
def storeCsr (s : State) (n : Nat) (x : Word64) : State :=
  if n = 0x020 then s.onWave (fun w => { w with satf := x })
  else if n = 0x021 then s.onWave (fun w => { w with satctl := x })
  else if n = 0x030 then s.onWave (fun w => { w with sig := x })
  else if n = 0x031 then s.onWave (fun w => { w with sigctl := x })
  else if n = 0x040 then s.onWave (fun w => { w with sbchk := x })
  else if n = 0x050 then s.onWave (fun w => { w with trapvec := x })
  else if n = 0x051 then s.onWave (fun w => { w with trapframe := x })
  else if 0x100 ≤ n ∧ n ≤ 0x13F then
    s.changeCore s.wave.core (fun c => { c with accown := sset c.accown (n - 0x100) x })
  else s

/-- Write a CSR from the issuing wave; its poison ends when the whole register is written (R271, R327). -/
def writeCsr (s : State) (n : Nat) (k : CsrWrite) (x : Word64) : State :=
  (storeCsr s n (csrAfter n k (readCsr s n) x)).onWave (fun w =>
    if k = .write then { w with poisonC := serase w.poisonC n } else w)

/-- The slot whose ACCOWN a CSR number names. -/
def ownerCsr (n : Nat) : Option Nat := if 0x100 ≤ n ∧ n ≤ 0x13F then some (n - 0x100) else none

/-- Whether a CSR number names an ACCOWN that is poisoned on a core (R264). -/
def ownerSpoilt (s : State) (core n : Nat) : Bool :=
  match ownerCsr n with
  | some z => sget (s.coreOf core).poisonO z != 0
  | none => false

/-- A whole write of ACCOWN ends its poison (R271). -/
def cleanOwner (n : Nat) (k : CsrWrite) (s : State) : State :=
  match ownerCsr n with
  | some z => if k = .write then s.changeCore s.wave.core (fun c => { c with poisonO := serase c.poisonO z }) else s
  | none => s

/-- A read of a CSR consumes an ACCOWN that is poisoned (R264, R270). -/
def readsOwner (n : Nat) (s : State) (act : Result) : Result :=
  if ownerSpoilt s s.wave.core n then .next (consumeRegister s s.wave) else act

/-- Write a CSR once no K-step of the wave on the slot whose ACCOWN it is has still to round (R262). -/
def csrWrite (i : Instr) (n : Nat) (k : CsrWrite) (x : Word64) (s : State) : Result :=
  if 0x100 ≤ n ∧ n ≤ 0x13F ∧ ownStep (s.coreOf s.wave.core) s.wave.id (n - 0x100) then
    .next (waitAgain (.retryTile (n - 0x100)) s)
  else done i s.wave (cleanOwner n k (writeCsr s n k x))

/-- SCSR (R327). -/
def execScsr (c : BitVec 12) (r : BitVec 5) (st : BitVec 3) (s : State) : Result :=
  gate (.scsr c r st) s (fun s =>
    readsOwner c.toNat s (done (.scsr c r st) s.wave (setS s r.toNat (readCsr s c.toNat) 1)))

/-- SCSW (R327). -/
def execScsw (c : BitVec 12) (r : BitVec 5) (st : BitVec 3) (s : State) : Result :=
  gate (.scsw c r st) s (fun s =>
    csrWrite (.scsw c r st) c.toNat .write (s.wave.sval r.toNat) s)

/-- SCSS (R327). -/
def execScss (c : BitVec 12) (r : BitVec 5) (st : BitVec 3) (s : State) : Result :=
  gate (.scss c r st) s (fun s =>
    readsOwner c.toNat s (csrWrite (.scss c r st) c.toNat .set (s.wave.sval r.toNat) s))

/-- SCSC (R327). -/
def execScsc (c : BitVec 12) (r : BitVec 5) (st : BitVec 3) (s : State) : Result :=
  gate (.scsc c r st) s (fun s =>
    readsOwner c.toNat s (csrWrite (.scsc c r st) c.toNat .clear (s.wave.sval r.toNat) s))

end Sys2Proof.Machine
end

