-- ==== Sys2Proof/Machine/Frame.lean ====
section
/-!
DEFINITION. The frames of the scale-out network: the transport header, the UDP checksum, and the headers of what is sent (R239,
R241).
-/

namespace Sys2Proof.Machine

open Sys2Proof

/-- The UDP port that datagrams are received on (R240). -/
abbrev transportPort : Nat := 45170

/-- The 16 bytes of a transport header, with the value of its bytes 8 to 15 (R241). -/
def transportBytes (h : NetHeader) (psn flow target : Nat) : List Byte :=
  [BitVec.ofNat 8 (h.version * 16 + h.kind), BitVec.ofNat 8 h.reserved] ++ leSplit 2 psn ++ leSplit 2 flow ++ leSplit 2 h.length ++
    leSplit 8 target

/-- What a data packet's datagram carries: the transport header, the payload, and a kind-1 packet's immediate (R241). -/
def datagramBytes (x : NetPacket) : List Byte :=
  transportBytes x.header x.psn.toNat x.flow x.va ++ x.payload ++
    (match x.immediate with | some e => leSplit 4 e.1.toNat | none => [])

/-- What an acknowledgement's datagram carries: the transport header with the next expected PSN in bytes 8 to 9, and the 128-bit bitmap
(R241). The model's choices (log 97): its PSN and its payload length are 0, the bitmap follows the header, the status of R242 stands in
byte 10, and bytes 11 to 15 are 0. -/
def ackBytes (x : NetAck) : List Byte :=
  transportBytes x.head.header 0 x.head.flow (x.next.toNat + x.status % 256 * 2 ^ 16) ++ leSplit 16 x.held.toNat

/-- The sum of a datagram's big-endian 16-bit words, the last filled with zero (RFC 768). -/
def wordSum : List Byte → Nat
  | [] => 0
  | [a] => 256 * a.toNat
  | a :: b :: rest => 256 * a.toNat + b.toNat + wordSum rest

/-- The sum of the 16-bit parts of a 128-bit address. -/
def addressSum (a : BitVec 128) : Nat := ((List.range 8).map (fun k => field a.toNat (16 * k) 16)).foldl (· + ·) 0

/-- The UDP checksum of a datagram with the pseudo-header of IPv6 (RFC 768, RFC 8200; R239): the complement of the one's complement
sum, and 0xFFFF in the place of 0. -/
def udpChecksum (h : NetHeader) (data : List Byte) : Nat :=
  let length := 8 + data.length
  let sum := addressSum h.source + addressSum h.dest + length / 65536 + length % 65536 + 17 + h.srcPort + h.dstPort +
    length % 65536 + wordSum data
  let folded := if sum = 0 then 0 else (sum - 1) % 65535 + 1
  if folded = 65535 then 65535 else 65535 - folded

/-- Whether a frame is one that the port and what stands above it accept: its size, its tags, no pause frame, IPv6 without an
extension header, and a UDP datagram to the transport's port with its checksum right (R239, R240). -/
def frameOk (h : NetHeader) (data : List Byte) : Bool :=
  decide (h.size ≤ 9216) && decide (h.tags ≤ 1) && !h.pause && h.ipv6 && !h.extension && h.dstPort == transportPort &&
  h.checksum == udpChecksum h data

/-- Whether a packet's transport header is one of a data packet: version 1, kind 0 or 1 with its immediate, byte 1 zero, and the
payload's length (R241). -/
def dataPacketOk (x : NetPacket) : Bool :=
  x.header.version == 1 && (x.header.kind == 0 && x.immediate.isNone || x.header.kind == 1 && x.immediate.isSome) &&
  x.header.reserved == 0 && x.header.length == x.payload.length && decide (x.payload.length ≤ 8192)

/-- Whether a transport header is one of an acknowledgement: version 1, kind 2, byte 1 zero, and no payload (R241; log 97). -/
def ackOk (h : NetHeader) : Bool := h.version == 1 && h.kind == 2 && h.reserved == 0 && h.length == 0

/-- The bytes that follow the transport header of a packet of a kind beside its payload: a kind-1 packet's immediate and an
acknowledgement's bitmap (R241). -/
def tailSize (kind : Nat) : Nat := if kind = 1 then 4 else if kind = 2 then 16 else 0

/-- The headers of a packet that a flow sends, before its checksum: no tag, hop limit 64, the flow's traffic class, and the label of
the flow (R239, R240; log 86). -/
def sentHeader (f : FlowFields) (kind length : Nat) : NetHeader :=
  { size := 14 + 40 + 8 + 16 + length + tailSize kind + 4, tags := 0, pause := false, ipv6 := true, extension := false,
    hops := 64, tclass := f.tclass,
    label := Config.flowLabel [f.localAddr.toNat, f.remoteAddr.toNat, f.localPort, f.remotePort] % 2 ^ 20,
    source := f.localAddr, dest := f.remoteAddr, srcPort := f.localPort, dstPort := f.remotePort, checksum := 0,
    version := 1, kind := kind, reserved := 0, length := length }

/-- A packet with its checksum, which is always sent (R239). -/
def NetPacket.checked (x : NetPacket) : NetPacket :=
  { x with header := { x.header with checksum := udpChecksum x.header (datagramBytes x) } }

/-- The acknowledgement that a flow sends (R241, R242), with its checksum (R239). -/
def ackPacket (f : FlowFields) (next : BitVec 16) (held : BitVec 128) (status : Nat) : NetAck :=
  let x : NetAck := ⟨⟨sentHeader f 2 0, f.remoteFlow⟩, next, held, status⟩
  { x with head := { x.head with header := { x.head.header with checksum := udpChecksum x.head.header (ackBytes x) } } }

/-- The data packet that a flow sends (R241, R242). -/
def dataPacket (f : FlowFields) (va : Nat) (payload : List Byte) (immediate : Option (Word32 × Nat)) : NetPacket :=
  NetPacket.checked
    { header := sentHeader f (if immediate.isSome then 1 else 0) payload.length, flow := f.remoteFlow, asid := f.remoteAsid,
      psn := f.psn, va := va, payload := payload, immediate := immediate }

end Sys2Proof.Machine
end

