-- ==== Sys2Proof/Machine/Issue.lean ====
section
/-!
DEFINITION. The choice of the wave that issues next (R68, R69, R74, R85, R110, R375), the passing of time, and the
placing of a first instruction.
-/

namespace Sys2Proof.Machine

open Sys2Proof

/-- Pass some ticks of CYC (R1). -/
def advance (s : State) (n : Nat) : State := { s with cyc := s.cyc + n }

/-- The command that a token names, if it has not completed (R190). -/
def pendingCmd (s : State) (w : Wave) (token : Word64) : Option Cmd :=
  if field token.toNat 0 9 = w.core then
    (tgetD (s.coreOf w.core).queues (field token.toNat 9 3) []).find? (fun c => c.seq == field token.toNat 16 32)
  else none

/-- Whether a QFENCE token has not completed (R197). -/
def pendingFence (s : State) (w : Wave) (token : Word64) : Bool :=
  field token.toNat 0 9 == w.core && (s.coreOf w.core).fences.any (fun f => f.seq == field token.toNat 16 32)

/-- Whether the groups of a RATOM token have all replied (R236). -/
def ratomOver (w : Wave) (seq : Nat) : Bool :=
  match tget w.tokens seq with
  | some gs => gs.all (fun g => g.status.isSome)
  | none => true

/-- The target tile of an MXLOOP (R192). -/
def Cmd.tile (c : Cmd) : Nat := field (fieldBytes c.desc 0 8) 8 6

/-- Whether a core has an MXLOOP on a tile that has not completed (R181). -/
def loopOn (s : State) (core z : Nat) : Bool :=
  (tgetD (s.coreOf core).queues 0 []).any (fun c => c.tile == z)

/-- Whether what a wave waits for has come, so that it issues again (R85, R160, R174, R187, R189, R237, R373). -/
def mayIssue (s : State) (w : Wave) : Bool :=
  match w.wait with
  | .running => true
  | .sleeping t => decide (t ≤ s.cyc)
  | .retryToken token promise =>
    let q := field token.toNat 9 3
    if q = 6 then ratomOver w (field token.toNat 16 32)
    else (if q = 7 then !pendingFence s w token else (pendingCmd s w token).isNone) ||
      (match promise with | some t => decide (t ≤ s.cyc) | none => false)
  | .retryOwner z => field (sget (s.coreOf w.core).accown z).toNat 10 1 == 0
  | .retryTile z => !loopOn s w.core z && !ownStep (s.coreOf w.core) w.id z
  | .retryReflected leaving =>
    if leaving then !buffered s w.span.part (waveSender w.id) else !waveInFlight s w.span.part w.id
  | .retryService => w.service.isNone
  | _ => false

/-- The cycle before which a wave's next instruction may not issue (R68). -/
def interlockOf (s : State) (w : Wave) : Nat :=
  if w.pend.isEmpty && decide (w.performed ≤ w.readyAt) then 0
  else match instrAt s w w.pc.toNat with
    | some i => i.interlock w
    | none => 0

/-- Whether a wave's next instruction waits for its instruction in page-fault service (R74, R156). -/
def serviceHolds (s : State) (w : Wave) : Bool :=
  w.service.isSome && (match instrAt s w w.pc.toNat with | some i => w.holdsBack i | none => false)

/-- Whether a wave's next instruction would write a fragment that the matrix engine has not read, or reads a tile into which a K-step
of the wave has not rounded (R181). -/
def matrixHolds (s : State) (w : Wave) : Bool :=
  let c := s.coreOf w.core
  stepsLeft c w.id &&
  (match instrAt s w w.pc.toNat with | some i => writesFragment c w.id i || readsUnrounded c w.id i | none => false)

/-- Whether the scoreboard holds a wave's next instruction back, so that it is not eligible (R68, R156, R181). -/
def blockedNext (s : State) (w : Wave) : Bool := serviceHolds s w || matrixHolds s w

/-- The earliest cycle at which a wave can issue: after its beats and stall, its interlocks, and once the quad's slot is
free, unless its instruction has issued already (R68, R73, R110). -/
def startOf (s : State) (w : Wave) : Nat :=
  let ready := if w.wait = .running then w.readyAt else (wake s w).readyAt
  max (max ready (interlockOf s w)) (if w.issued then 0 else tgetD s.quads (4 * w.core + w.quad) 0)

/-- Whether a wave can issue: it stands on a quad, waits for nothing, no trap of its own is to be delivered, and its next
instruction is not held back (R68). -/
def eligible (s : State) (w : Wave) : Bool :=
  w.resident && w.trap.isNone && mayIssue s w && coreRuns s w.core && w.wait != .vacant && !blockedNext s w

/-- Whether a wave's run holds its quad: a run holds it until its end, unless it waits for a result in page-fault
service (R69, R74). -/
def holdsQuad (s : State) (w : Wave) : Bool :=
  w.resident && w.run.isSome && w.wait != .retryService && w.trap.isNone && !serviceHolds s w

/-- Whether a wave issues before another: earlier, and of two at one cycle the one that has not yielded, then the
oldest (R68, R375). -/
def precedes (a b : Nat × Wave) : Bool :=
  decide (a.1 < b.1) || (a.1 == b.1 && (!a.2.yielded && b.2.yielded || (a.2.yielded == b.2.yielded && decide (a.2.id < b.2.id))))

/-- The first of a list of candidates. -/
def firstOf : List (Nat × Wave) → Option (Nat × Wave)
  | [] => none
  | c :: cs => match firstOf cs with
    | some d => if precedes d c then some d else some c
    | none => some c

/-- The wave that a quad issues next, and its cycle (R68). -/
def pick (s : State) (core quad : Nat) : Option (Nat × Wave) :=
  let here := s.allWaves.filter (fun w => w.core == core && w.quad == quad)
  let holders := here.filter (holdsQuad s)
  let candidates := (if holders.isEmpty then here else holders).filter (eligible s)
  firstOf (candidates.map (fun w => (startOf s w, w)))

/-- Insert a wave into a list by placement number. -/
def insertWave (w : Wave) : List Wave → List Wave
  | [] => [w]
  | x :: xs => if w.id < x.id then w :: x :: xs else x :: insertWave w xs

/-- Put the issuing wave back among the others. -/
def park (s : State) : State :=
  if s.wave.wait = .vacant then s
  else { s with wave := Wave.vacant, waves := insertWave s.wave s.waves }

/-- Bring the wave with a placement number into the issuing place. -/
def focus (s : State) (id : Nat) : State :=
  if s.wave.id = id ∧ s.wave.wait ≠ .vacant then s
  else
    let s := park s
    match s.waves.find? (fun w => w.id == id) with
    | some w => { s with wave := w, waves := s.waves.filter (fun x => x.id != id) }
    | none => s

/-- Whether another wave of a wave's quad could issue at a cycle. -/
def rivalled (s : State) (start : Nat) (x : Wave) : Bool :=
  s.allWaves.any (fun y => y.id != x.id && y.core == x.core && y.quad == x.quad && eligible s y && decide (startOf s y ≤ start))

/-- The issuing wave issues at a cycle: results that are due by then are readable, and the slot is taken for a beat, unless its
instruction took it when it issued before its wait (R68, R74). A wave of its quad that has yielded ranks by age again if another wave
could issue at this decision (R375). -/
def issueAt (s : State) (start : Nat) : State :=
  let w := s.wave
  let relieved := fun (x : Wave) => x.core == w.core && x.quad == w.quad && x.yielded && rivalled s start x
  let s := s.changeWaves relieved (fun x => { x with yielded := false })
  let s := s.onWave (fun w =>
    { w with now := start, wait := .running, since := s.cyc, pend := w.pend.filter (fun e => decide (start < e.due)) })
  if w.issued then s else { s with quads := tset s.quads (4 * w.core + w.quad) (start + s.passes w) }

/-- Issue on a quad: the state in which the chosen wave's next instruction, which has been fetched, acts. -/
def issueOn (s : State) (core quad : Nat) : Option State :=
  match pick s core quad with
  | some (start, w) => some (fetched (issueAt (focus s w.id) start))
  | none => none

/-- The quads on which a wave stands, as 4 x core + quad, without repeats. -/
def busyQuads (s : State) : List Nat :=
  ((s.allWaves.filter (fun w => w.resident)).map (fun w => 4 * w.core + w.quad)).eraseDups

/-- The quads in the order they are looked at: from a quad up, and around (the manual orders no two quads; log 3). -/
def quadsFrom (turn : Nat) (qs : List Nat) : List Nat :=
  let qs := (qs.map (fun q => (q, q))).foldl (fun l e => insertBy e l) []
  let qs := qs.map (·.1)
  qs.filter (fun q => decide (turn ≤ q)) ++ qs.filter (fun q => decide (q < turn))

/-- The first of a list of quads that can issue. -/
def issueFirst (s : State) : List Nat → Option State
  | [] => none
  | q :: qs => match issueOn s (q / 4) (q % 4) with
    | some s' => some { s' with quadTurn := q + 1 }
    | none => issueFirst s qs

/-- The state in which the next instruction acts, if any wave can issue (R68). -/
def nextIssue (s : State) : Option State := issueFirst s (quadsFrom s.quadTurn (busyQuads s))

/-- A PAGE_FAULT on fetch: the cause and the VA of the halfword (R90, R336). -/
def fetchTrap (va : Nat) (c : Cause) : Trap :=
  ⟨0x05, 0, BitVec.ofNat 64 va, false, [BitVec.ofNat 64 c.code], 0, 0⟩

/-- ILLOP at a word that is no instruction (R107): the frame holds the word. -/
def illegalWord (bs : List Byte) : Trap := ⟨0x01, 0, 0, false, [], leValue bs, bs.length⟩

/-! ### Placing a first instruction -/

/-- A context as CTX_OPEN opens it (R250). -/
def Ctx.opened (root save weight : Nat) (wall : Bool) (cyc : Nat) : Ctx :=
  { root := root, save := save, weight := weight, wall := wall, off := -(cyc : Int), paused := none, raised := 0,
    agedAt := cyc, placedAt := cyc, leaving := none, closing := none, launches := [], nodes := [], waiting := [] }

/-- The physical addresses of the page tables and the code page of a first instruction. -/
abbrev placedRoot : Nat := 0x40000

/-- Whether the wave in the issuing place issues the next instruction and can fetch it. -/
def fetchReady (s : State) : Bool :=
  s.agenda.isEmpty && (match nextIssue s with
    | some t => (match fetchHalf t t.wave t.wave.pc.toNat with | .ok _ => true | .error _ => false)
    | none => false)

/-- Store bytes where the next instruction is fetched from. -/
def storeAtPc (s : State) (bs : List Byte) : State :=
  match nextIssue s with
  | some t =>
    match access t t.wave.span.part t.wave.span.ctx .fetch t.wave.pc.toNat 2 with
    | .ok l => putBytes s l.key (bytesAt l t.wave.pc.toNat bs)
    | .error _ => s
  | none => s

/-- A device with one wave placed: partition 0 owns core 0, its context 0 maps virtual address 0 to a code page, and the
wave stands at virtual address 0 with 56 vector registers (log 12). -/
def placeFirst (s : State) : State :=
  let id : SpanId := ⟨0, 0, 0, 0⟩
  let w := { Wave.vacant with id := s.placed, span := id, resident := true, wait := .running }
  let part := { Partition.empty with owner := some 0, cset := 1, ctxs := [(0, Ctx.opened placedRoot 0x10000 1 false s.cyc)] }
  let block : Block := ⟨id, 0, 0, 0, [0], 0, 0, [], [], 0, none, none, [], false⟩
  let span : Span := ⟨id, .live, [], true, 0, none, [], [], [s.placed], [], []⟩
  let table (at_ word : Nat) : List (Nat × Byte) := (leSplit 8 word).zipIdx.map (fun e => (at_ + e.2, e.1))
  let s := { s with
    wave := w, agenda := [], placed := s.placed + 1, blocks := [block], spans := [span],
    parts := tset s.parts 0 part, islands := tset s.islands 0 ⟨.active, 0, none, false⟩ }
  putBytes s 0 (table placedRoot 0x48001 ++ table 0x48000 0x50001 ++ table 0x50000 0x58001 ++ table 0x58000 0x60143)

/-- Bytes stored where the next step fetches its instruction; where no wave can fetch, one is placed first. -/
def placeBytes (s : State) (bs : List Byte) : State :=
  if fetchReady s then storeAtPc s bs else storeAtPc (placeFirst s) bs

end Sys2Proof.Machine
end

