-- ==== Sys2Proof/Machine/MatrixMath.lean ====
section
/-!
DEFINITION. The arithmetic of the matrix engine: lines and fragments, K-steps, checksums and block scales that the device
forms (R125, R128 to R130, R177 to R185).
-/

namespace Sys2Proof.Machine

open Sys2Proof

/-! ### Lines of the tile store (R177) -/

/-- The index of a line in one slice. -/
def lineIndex (line slice : Nat) : Nat := 32 * line + slice

/-- The tag of a line in a slice (R177). -/
def lineTagOf (c : Core) (line slice : Nat) : Nat := (sget c.tags (lineIndex line slice)).toNat

/-- The elements of a line by its tag: 32 for 16-bit formats and 64 for 8-bit ones (R177). -/
def tagElements (tag : Nat) : Nat := if tag = 1 ∨ tag = 2 ∨ tag = 7 then 32 else 64

/-- The bytes of a line in a slice. -/
def lineBytes (c : Core) (line slice : Nat) : List Byte := sgetFrom c.tile (64 * lineIndex line slice) 64

/-- Elements of `n` bytes, little-endian, from a list of bytes. -/
def elementsOf (n : Nat) : Nat → List Byte → List Nat
  | 0, _ => []
  | k + 1, bs => leValue (bs.take n) :: elementsOf n k (bs.drop n)

/-- The codes of the elements of a line. -/
def lineCodes (c : Core) (line slice tag : Nat) : List Nat :=
  if tagElements tag = 32 then elementsOf 2 32 (lineBytes c line slice) else elementsOf 1 64 (lineBytes c line slice)

/-- The floating-point format of a tag (R177). -/
def tagFormat (tag : Nat) : FFormat :=
  if tag = 1 ∨ tag = 7 then bf16 else if tag = 2 then f16 else if tag = 3 then f8e4 else f8e5

/-- The integer of an INT8 or N8 element (R177). -/
def tagInt (tag code : Nat) : Int := if tag = 5 then (BitVec.ofNat 8 code).toInt else code

/-- The scale of a half of a line: SC0 and SC1 for FP8, SC0 for BF16S, and 2^0 where they are ignored (R177). -/
def halfScale (c : Core) (line slice tag half : Nat) : Nat :=
  if tag = 3 ∨ tag = 4 then (sget c.scales (2 * lineIndex line slice + half)).toNat
  else if tag = 7 then (sget c.scales (2 * lineIndex line slice)).toNat
  else 127

/-! ### Pairings (R179) -/

/-- The line tags that a pairing accepts (R179). -/
def tagAccepted (fmt tag : Nat) : Bool :=
  match fmt with
  | 0 => tag == 1
  | 1 => tag == 2
  | 2 => tag == 3 || tag == 4
  | 3 => tag == 3 || tag == 4
  | 4 => tag == 5 || tag == 6
  | 5 => tag == 7
  | _ => false

/-- K of a pairing (R179). -/
def stepK (fmt : Nat) : Nat := if fmt = 0 ∨ fmt = 1 ∨ fmt = 5 then 32 else 64

/-- The format of the A elements of a floating-point pairing (R179). -/
def fragFormat (fmt : Nat) : FFormat :=
  if fmt = 1 then f16 else if fmt = 2 then f8e4 else if fmt = 3 then f8e5 else bf16

/-- The lowest slice whose tag a pairing refuses in a line (R180, R336). -/
def refusedSlice (c : Core) (fmt line : Nat) : Option Nat :=
  (List.range 32).find? (fun n => !tagAccepted fmt (lineTagOf c line n))

/-- The code of element (i, k) of an A fragment held in eight registers (R178); `r` gives register and lane. -/
def fragCode (fmt : Nat) (r : Nat → Nat → Word32) (i k : Nat) : Nat :=
  if stepK fmt = 32 then field (r (k % 16 / 2) (i + 32 * (k / 16))).toNat (16 * (k % 2)) 16
  else field (r (k % 32 / 4) (i + 32 * (k / 32))).toNat (8 * (k % 4)) 8

/-- A row of A as codes, each with the position along K that it stands at: position k for a dense step (R192), the
metadata's position for a sparse one (R193). -/
abbrev ARow := List (Nat × Nat)

/-- A dense row. -/
def denseRow (codes : List Nat) : ARow := codes.zipIdx.map (fun e => (e.2, e.1))

/-! ### K-steps (R128 to R130) -/

/-- The exact sum of products, each with the sign IEEE 754 gives it; -0 is neutral (R128). -/
def dotF (ps : List (FVal × FVal)) : Option FVal :=
  ps.foldl (fun acc p => acc.bind (fun a => (mulF p.1 p.2).bind (addF .rne a))) (some (.fin true 0 0))

/-- The exact sum of optional values; an invalid one makes the sum invalid. -/
def sumF (xs : List (Option FVal)) : Option FVal :=
  xs.foldl (fun acc x => acc.bind (fun a => x.bind (addF .rne a))) (some (.fin true 0 0))

/-- A column of B for a floating-point step: for each half of 32 positions its scale and its elements. -/
abbrev BCol := List (Nat × List FVal)

/-- The column that slice `n` supplies from a line (R177). -/
def columnF (c : Core) (line n : Nat) : BCol :=
  let tag := lineTagOf c line n
  let xs := (lineCodes c line n tag).map (decodeF (tagFormat tag))
  (List.range (tagElements tag / 32)).map (fun h => (halfScale c line n tag h, (xs.drop (32 * h)).take 32))

/-- The scaled partial sum of each half of a row and a column (R129). -/
def partialsF (row : List (Nat × FVal)) (col : BCol) : List (Option FVal) :=
  col.zipIdx.map (fun e =>
    (dotF ((row.filter (fun a => a.1 / 32 == e.2)).map (fun a => (a.2, e.1.2.getD (a.1 % 32) .nan)))).map (rescale e.1.1))

/-- The exact sum that a step adds to an element (R128, R129). -/
def productF (row : List (Nat × FVal)) (col : BCol) : Option FVal := sumF (partialsF row col)

/-- A datum without its sign. -/
def FVal.abs : FVal → FVal
  | .nan => .nan
  | .inf _ => .inf false
  | .fin _ m e => .fin false m e

/-- Exact sums for each pair of a row and a column, row by row. -/
def productsF (rows : List (List (Nat × FVal))) (cols : List BCol) : List (List (Option FVal)) :=
  rows.map (fun r => cols.map (productF r))

/-- The integer that a step adds to an element (R130). -/
def productI (row : List (Nat × Int)) (col : List Int) : Int :=
  row.foldl (fun n a => n + a.2 * col.getD a.1 0) 0

/-- The words of a slot (R179): 32 rows of 32. -/
def slotWord (c : Core) (z i j : Nat) : Word32 := sget c.acc (1024 * z + 32 * i + j)

/-! ### Checksums (R184, R185) -/

/-- The checksum state of a slot that has been rebased (R184): the tile's own sums are its prediction until a step gives
them a type. -/
def Check.rebased : Check := { rows := [], cols := [], rowsB := [], colsB := [], k := 0, kind := .none }

/-- A list of words as an array from 0 up. -/
def sparseOf {w : Nat} (xs : List (BitVec w)) : Sparse w := ssetFrom [] 0 xs

/-- The actual sum of a list of FP32 words: exact, then rounded once with .rne (R185). -/
def actualF (xs : List Word32) : Word32 := (finishF .rne (sumF (xs.map (fun x => some (decode32F x))))).1

/-- The words of a row of a slot. -/
def slotRow (c : Core) (z i : Nat) : List Word32 := (List.range 32).map (slotWord c z i)
/-- The words of a column of a slot. -/
def slotCol (c : Core) (z j : Nat) : List Word32 := (List.range 32).map (fun i => slotWord c z i j)

/-- The actual sum of a list of words modulo 2^32 (R185). -/
def actualI (xs : List Word32) : Word32 := xs.foldl (· + ·) 0

/-- The sums of a tile, by rows or by columns. -/
def tileSums (f : List Word32 → Word32) (line : Nat → List Word32) : List Word32 := (List.range 32).map (fun i => f (line i))

/-- Add an exact sum to an FP32 figure and round once (R184). -/
def accrue (mode : Rounding) (x : Word32) (sum : Option FVal) : Word32 :=
  (finishF mode (sum.bind (addF mode (decode32F x)))).1

/-- The columns of a table of rows. -/
def transposed {α : Type} (d : α) (rows : List (List α)) : List (List α) :=
  (List.range 32).map (fun j => rows.map (fun r => r.getD j d))

/-- Add the sums of a step to predicted sums. -/
def accrueAll (mode : Rounding) (xs : Sparse 32) (sums : List (Option FVal)) : Sparse 32 :=
  sparseOf (sums.zipIdx.map (fun e => accrue mode (sget xs e.2) e.1))

/-- The checksum state before a step of a kind: a slot without a kind takes the tile's sums in that kind, and a slot of
the other kind becomes mixed (R184). -/
def Check.ready (k : Check) (c : Core) (z : Nat) (kind : CheckKind) : Check :=
  match k.kind with
  | .none =>
    let f := if kind = .integer then actualI else actualF
    { k with rows := sparseOf (tileSums f (slotRow c z)), cols := sparseOf (tileSums f (slotCol c z)), kind := kind }
  | x => if x = kind then k else { k with kind := .mixed }

/-- The checksum state after a floating-point step with exact sums `ps` and sums of magnitudes `bs` (R184). -/
def Check.stepF (k : Check) (n : Nat) (ps bs : List (List (Option FVal))) : Check :=
  { k with
    rows := accrueAll .rne k.rows (ps.map sumF), cols := accrueAll .rne k.cols ((transposed none ps).map sumF),
    rowsB := accrueAll .rp k.rowsB (bs.map sumF), colsB := accrueAll .rp k.colsB ((transposed none bs).map sumF), k := k.k + n }

/-- Add integer sums modulo 2^32. -/
def accrueI (xs : Sparse 32) (sums : List Int) : Sparse 32 :=
  sparseOf (sums.zipIdx.map (fun e => sget xs e.2 + BitVec.ofInt 32 e.1))

/-- The sum of a list of integers. -/
def sumI (xs : List Int) : Int := xs.foldl (· + ·) 0

/-- An integer as an exact datum. -/
def intF (n : Int) : Option FVal := some (.fin (decide (n < 0)) n.natAbs 0)

/-- The checksum state after an integer step with sums `ps` and sums of magnitudes `bs` (R184). -/
def Check.stepI (k : Check) (n : Nat) (ps bs : List (List Int)) : Check :=
  { k with
    rows := accrueI k.rows (ps.map sumI), cols := accrueI k.cols ((transposed 0 ps).map sumI),
    rowsB := accrueAll .rp k.rowsB (bs.map (fun r => intF (sumI r))),
    colsB := accrueAll .rp k.colsB ((transposed 0 bs).map (fun r => intF (sumI r))), k := k.k + n }

/-- The words of a slot and its checksum state after a K-step on A rows and the columns of B lines (R128 to R130,
R184). A sparse step has two lines (R193). -/
def stepResult (c : Core) (z fmt : Nat) (rows : List ARow) (lines : List Nat) : Sparse 32 × Check :=
  let check := (tgetD c.checks z Check.rebased).ready c z (if fmt = 4 then .integer else .float)
  let cells := (List.range 32).flatMap (fun i => (List.range 32).map (fun j => (i, j)))
  if fmt = 4 then
    let as := rows.map (fun r => r.map (fun e => (e.1, (BitVec.ofNat 8 e.2).toInt)))
    let cols := (List.range 32).map (fun n => lines.flatMap (fun l =>
      (lineCodes c l n (lineTagOf c l n)).map (tagInt (lineTagOf c l n))))
    let ps := as.map (fun r => cols.map (productI r))
    let bs := (as.map (fun r => r.map (fun e => (e.1, (e.2.natAbs : Int))))).map (fun r =>
      (cols.map (fun col => col.map (fun x => (x.natAbs : Int)))).map (productI r))
    (sparseOf (cells.map (fun e => slotWord c z e.1 e.2 + BitVec.ofInt 32 ((ps.getD e.1 []).getD e.2 0))),
      check.stepI (stepK fmt) ps bs)
  else
    let as := rows.map (fun r => r.map (fun e => (e.1, decodeF (fragFormat fmt) e.2)))
    let cols := (List.range 32).map (fun n => lines.flatMap (fun l => columnF c l n))
    let ps := productsF as cols
    let bs := productsF (as.map (fun r => r.map (fun e => (e.1, e.2.abs))))
      (cols.map (fun col => col.map (fun h => (h.1, h.2.map FVal.abs))))
    (sparseOf (cells.map (fun e => accrue .rne (slotWord c z e.1 e.2) ((ps.getD e.1 []).getD e.2 none))),
      check.stepF (stepK fmt) ps bs)

/-- A line of the tile store as a K-step reads it: for each slice its tag, its bytes and its scales (R177). -/
def Core.lineRead (c : Core) (line : Nat) : Nat × List (Nat × List Byte × List Byte) :=
  (line, (List.range 32).map (fun n =>
    (lineTagOf c line n, lineBytes c line n, sgetFrom c.scales (2 * lineIndex line n) 2)))

/-- A core with one line of one slice written: data, scales and tag; its poison ends (R177, R271). -/
def Core.putLine (c : Core) (line slice tag : Nat) (bytes scales : List Byte) : Core :=
  let k := lineIndex line slice
  { c with
    tile := ssetFrom c.tile (64 * k) bytes, scales := ssetFrom c.scales (2 * k) scales,
    tags := sset c.tags k (BitVec.ofNat 4 tag), poisonT := sclear c.poisonT (2 * k) (2 * k + 2) }

/-- A core with a line as it was read. -/
def Core.putRead (c : Core) (x : Nat × List (Nat × List Byte × List Byte)) : Core :=
  x.2.zipIdx.foldl (fun c e => c.putLine x.1 e.2 e.1.1 e.1.2.1 e.1.2.2) c

/-- What a K-step that rounds gives its slot: the words of B are those that the step has read (R181). -/
def Core.rounded (c : Core) (x : StepInput) : Sparse 32 × Check :=
  stepResult (x.lines.foldl Core.putRead c) x.slot x.fmt x.rows (x.lines.map (·.1))

/-- Replace the words of a slot. -/
def Core.putSlot (c : Core) (z : Nat) (words : Sparse 32) : Core :=
  { c with acc := words.foldl (fun m e => sset m (1024 * z + e.1) e.2) (sclear c.acc (1024 * z) (1024 * z + 1024)) }

/-- A slot after a step has rounded. -/
def Core.putStep (c : Core) (z : Nat) (r : Sparse 32 × Check) : Core :=
  { c.putSlot z r.1 with checks := tset c.checks z r.2 }

/-- A slot whose every word is written: its checksums rebase and its poison ends (R184, R308). -/
def Core.fillSlot (c : Core) (z : Nat) (words : Sparse 32) : Core :=
  { c.putSlot z words with
    checks := terase c.checks z, poisonZ := sclear c.poisonZ (1024 * z) (1024 * z + 1024) }

/-- Whether an FP32 word is a NaN or infinite. -/
def unbounded32 (x : Word32) : Bool := decide (0x7F800000 ≤ f32.body x.toNat)

/-- Whether |a - r| <= k x b x 2^-22, exactly (R185); `a` may be infinite, and then it is not. -/
def withinBound (k : Nat) (a r b : Word32) : Bool :=
  match decode32F a, decode32F r, decode32F b with
  | .fin s m e, .fin t n g, .fin _ p h =>
    let q := min (min e g) (h - 22)
    decide ((scaled s m e q - scaled t n g q).natAbs ≤ k * (scaled false p (h - 22) q).natAbs)
  | _, _, _ => false

/-- What MXCHK finds: 0 the sums agree, 1 it cannot tell, or the first failing row (0, index) or column (1, index). -/
inductive CheckAnswer where
  | agree | unclear | mismatch (column index : Nat)
  deriving DecidableEq, Repr

/-- The comparison of R185. -/
def checkSlot (c : Core) (z : Nat) : CheckAnswer :=
  let k := tgetD c.checks z Check.rebased
  let compare (f : List Word32 → Word32) (ok : Word32 → Word32 → Word32 → Bool) : CheckAnswer :=
    match (List.range 32).find? (fun i => !ok (f (slotRow c z i)) (sget k.rows i) (sget k.rowsB i)) with
    | some i => .mismatch 0 i
    | none =>
      match (List.range 32).find? (fun j => !ok (f (slotCol c z j)) (sget k.cols j) (sget k.colsB j)) with
      | some j => .mismatch 1 j
      | none => .agree
  match k.kind with
  | .none => .agree
  | .mixed => .unclear
  | .integer => compare actualI (fun a r _ => a == r)
  | .float =>
    if (List.range 1024).any (fun e => unbounded32 (sget c.acc (1024 * z + e))) ||
        (k.rows ++ k.cols ++ k.rowsB ++ k.colsB).any (fun e => unbounded32 e.2) then .unclear
    else compare actualF (withinBound k.k)

/-! ### Block scales that the device forms (R125) -/

/-- Whether a value divided by 2^(e - 127) lies within a format's finite range (R125). -/
def fitsScale (f : FFormat) (e : Nat) (x : FVal) : Bool :=
  match unscale e x, decodeF f f.maxCode with
  | .fin _ m g, .fin _ n h => decide ((scaled false m g (min g h)) ≤ scaled false n h (min g h))
  | _, _ => false

/-- The S8 scale that the device forms for a block (R125). -/
def formScale (f : FFormat) (xs : List FVal) : Nat :=
  if xs.contains .nan then 0xFF
  else ((List.range 255).find? (fun e => xs.all (fitsScale f e))).getD 254

/-- The code of a value in a block with a formed scale (R119, R121, R183). -/
def scaledCode (f : FFormat) (e : Nat) (x : FVal) : Nat :=
  if e = 0xFF then f.nan else (narrowF f (unscale e x)).1

end Sys2Proof.Machine
end

