-- ==== Sys2Proof/Machine/Matrix.lean ====
section
/-!
DEFINITION. Matrix instructions of waves: MXMMA, MXZERO, MXLDZ, MXSTZ, MXRDZ and MXCHK, and the ownership of accumulator
slots (R178 to R187, R262, R263, R307 to R309).
-/

namespace Sys2Proof.Machine

open Sys2Proof

/-! ### Ownership (R186, R187) -/

/-- ACCOWN of a slot of a core (R186). -/
def ownerOf (s : State) (core z : Nat) : Word64 := sget (s.coreOf core).accown z

/-- V = 1 with the PART and CTX of a wave (R186, R262). -/
def Wave.ownWord (w : Wave) : Word64 := BitVec.ofNat 64 (2 ^ 9 + w.span.part % 32 * 2 ^ 4 + w.span.ctx % 16)

/-- What the check of R187 answers. -/
inductive Ownership where
  | granted | trap | wait | poisoned
  deriving DecidableEq, Repr

/-- Whether ACCOWN of a slot of a core is poisoned (R264). -/
def ownerPoisoned (s : State) (core z : Nat) : Bool := sget (s.coreOf core).poisonO z != 0

/-- The check of R187: at user level the slot must be free or the context's own, and a poisoned ACCOWN is not used as if it were
good (R264); supervisor level does not check. -/
def ownership (s : State) (w : Wave) (z : Nat) : Ownership :=
  let own := ownerOf s w.core z
  if w.level = .supervisor then .granted
  else if ownerPoisoned s w.core z then .poisoned
  else if own.getLsbD 9 = false ∨ own &&& 0x1FF#64 = w.ownWord &&& 0x1FF#64 then .granted
  else if own.getLsbD 10 then .wait
  else .trap

/-- A matrix instruction has acted: a free slot becomes the context's at user level, and the block notes its core (R187,
R263). -/
def claimSlot (z : Nat) (s : State) : State :=
  let w := s.wave
  let own := ownerOf s w.core z
  let s := if w.level = .user ∧ own.getLsbD 9 = false then
      s.changeCore w.core (fun c => { c with accown := sset c.accown z ((own &&& 0x400#64) ||| w.ownWord) }) else s
  s.changeBlock w.span w.block (fun b => { b with accHome := some w.core })

/-- ACC_OWNER with its detail (R262), BUSY set first. -/
def raiseOwner (i : Instr) (z : Nat) (s : State) : Result :=
  let w := s.wave
  let own := ownerOf s w.core z
  raise (trapOf i 0x0C 0 0 [z, own.toNat, w.ownWord.toNat, w.core])
    (s.changeCore w.core (fun c => { c with accown := sset c.accown z (own ||| 0x400#64) }))

/-- What a matrix instruction on a slot meets before it acts: an incomplete MXLOOP on the slot, a K-step of its own wave that
has not rounded if it reads the tile, then its owner (R181, R187, R262, R308). -/
def withSlot (i : Instr) (z : Nat) (s : State) (act : State → Result) : Result :=
  let w := s.wave
  if loopOn s w.core z || readsUnrounded (s.coreOf w.core) w.id i then .next (waitAgain (.retryTile z) s)
  else
    match ownership s w z with
    | .trap => raiseOwner i z s
    | .wait => .next (waitAgain (.retryOwner z) s)
    | .poisoned => .next (consumeRegister s w)
    | .granted => act s

/-- MXZERO and MXLDZ write the whole tile behind the K-steps that their wave has issued on it: of those nothing stays (R181, R262,
R309). -/
def Core.overtake (c : Core) (wave z : Nat) : Core :=
  let pass (x : StepInput) : StepInput := if x.wave = wave ∧ x.slot = z then { x with gone := true } else x
  { c with
    steps := c.steps.map pass,
    flight := c.flight.map (fun (f : Flight) => if f.loop then f else { f with input := pass f.input }) }

/-! ### MXMMA (R180, R181) -/

/-- The first poisoned sector of a line, over all slices. -/
def poisonedSector (c : Core) (line : Nat) : Option Nat :=
  if c.poisonT.isEmpty then none
  else ((List.range 64).map (fun k => 64 * line + k)).find? (fun k => sget c.poisonT k != 0)

/-- The first poisoned word of a slot. -/
def poisonedWord (c : Core) (z : Nat) : Option Nat :=
  (c.poisonZ.find? (fun e => decide (1024 * z ≤ e.1) && decide (e.1 < 1024 * z + 1024))).map (·.1)

/-- The A rows of a wave's fragment in registers a to a+7 (R178). -/
def fragment (w : Wave) (fmt a : Nat) : List ARow :=
  (List.range 32).map (fun i => denseRow ((List.range (stepK fmt)).map (fragCode fmt (fun j l => w.vval (a + j) l) i)))

/-- One K-step of the issuing wave, once line and tags have passed (R180): poison of the tile and of the B line is
consumed, and the step, with the fragment and the line as they stand, waits for the matrix engine (R181; log 75). -/
def waveStep (i : Instr) (fmt line a z : Nat) (s : State) : Result :=
  let w := s.wave
  let c := s.coreOf w.core
  match poisonedWord c z with
  | some k => .next (consume s w 4 (dieBank w.core) k 0)
  | none =>
    match poisonedSector c line with
    | some k => .next (consume s w 3 (dieBank w.core) k 0)
    | none =>
      let x : StepInput := ⟨w.id, w.span, z, fmt, a, fragment w fmt a, [c.lineRead line], false⟩
      done i w ((claimSlot z s).changeCore w.core (fun c => { c with steps := c.steps ++ [x] }))

/-- MXMMA (R180). -/
def execMxmma (f : BitVec 4) (b : BitVec 5) (a z : BitVec 6) (st : BitVec 3) (s : State) : Result :=
  gate (.mxmma f b a z st) s (fun s => withSlot (.mxmma f b a z st) z.toNat s (fun s =>
    let w := s.wave
    let line := (w.sval b.toNat).toNat
    if 3071 < line then raise (trapOf (.mxmma f b a z st) 0x0D 0 0 [1, line, 0]) s
    else
      match refusedSlice (s.coreOf w.core) f.toNat line with
      | some n => raise (trapOf (.mxmma f b a z st) 0x0D 0 0 [2, line, n]) s
      | none => waveStep (.mxmma f b a z st) f.toNat line a.toNat z.toNat s))

/-! ### MXZERO and MXRDZ (R182) -/

/-- MXZERO (R182). -/
def execMxzero (z : BitVec 6) (st : BitVec 3) (s : State) : Result :=
  gate (.mxzero z st) s (fun s => withSlot (.mxzero z st) z.toNat s (fun s =>
    done (.mxzero z st) s.wave ((claimSlot z.toNat s).changeCore s.wave.core (fun c =>
      (c.fillSlot z.toNat []).overtake s.wave.id z.toNat))))

/-- A result of a slot is on its way: a write of the slot's ACCOWN waits for it (R262). -/
def noteSlot (z cycles : Nat) (s : State) : State := s.onWave (fun w => w.note (.z z) [] cycles true)

/-- The index of the word that MXRDZ gives lane L: row 2n + floor(L / 32), column L mod 32 (R182). -/
def readWord (z n l : Nat) : Nat := 1024 * z + 64 * n + l

/-- MXRDZ (R182): raw bits to the active lanes, readable after 2P + 6 cycles (R73). -/
def execMxrdz (n : BitVec 4) (d z : BitVec 6) (st : BitVec 3) (s : State) : Result :=
  gate (.mxrdz n d z st) s (fun s => withSlot (.mxrdz n d z st) z.toNat s (fun s =>
    let w := s.wave
    let c := s.coreOf w.core
    match (lanesOf w.active).filter (fun l => sget c.poisonZ (readWord z.toNat n.toNat l) != 0) with
    | l :: ls => .next (consume s w 4 (dieBank w.core) (readWord z.toNat n.toNat l) (maskOf (l :: ls)))
    | [] =>
      done (.mxrdz n d z st) w (noteSlot z.toNat (shuffleWait s w) (setVHeld (claimSlot z.toNat s) d.toNat w.active
        (fun l => sget c.acc (readWord z.toNat n.toNat l)) (shuffleWait s w)))))

/-! ### MXCHK (R185) -/

/-- The slot's checksums rebased without a change of the tile (R185). -/
def rebaseSlot (z : Nat) (core : Nat) (s : State) : State :=
  s.changeCore core (fun c => { c with checks := terase c.checks z })

/-- CHECKSUM: contained as a consumed error (R185, R273), or at supervisor level as any trap there (R288). -/
def checksumKill (z column index : Nat) (s : State) : Result :=
  let w := s.wave
  if w.level = .supervisor then .next (killSpan s w.span ⟨0x22, w.pc.toNat, 0, 0, [column, index]⟩ w.core false)
  else .next (containCheck s w 0x22 6 4 (1024 * z) [column, index])

/-- MXCHK (R185). -/
def execMxchk (c d : BitVec 5) (z : BitVec 6) (st : BitVec 3) (s : State) : Result :=
  gate (.mxchk c d z st) s (fun s => withSlot (.mxchk c d z st) z.toNat s (fun s =>
    let w := s.wave
    let core := s.coreOf w.core
    match poisonedWord core z.toNat with
    | some k => .next (consume s w 4 (dieBank w.core) k 0)
    | none =>
      let out (x : Word64) : Result :=
        let t := noteSlot z.toNat (shuffleWait s w) (setSHeld (claimSlot z.toNat s) d.toNat x (shuffleWait s w))
        done (.mxchk c d z st) w (if (w.sval c.toNat).getLsbD 0 then rebaseSlot z.toNat w.core t else t)
      match checkSlot core z.toNat with
      | .mismatch column index => checksumKill z.toNat column index s
      | .unclear => out 1
      | .agree => out 0))

/-! ### MXLDZ and MXSTZ (R182, R183) -/

/-- The 64-byte pieces of a range of virtual addresses, with the leaf of each or its cause (R155, R182). -/
def findPieces (s : State) (w : Wave) (kind : AccessKind) (va n : Nat) : List (Nat × Except (Nat × Cause) (Leaf × Nat)) :=
  (List.range n).map (fun j =>
    let a := (va + 64 * j) % 2 ^ 64
    (noLane, match permitted s w.span.part w.span.ctx kind a 64 with | .ok l => .ok (l, a) | .error c => .error (a, c)))

/-- A piece of a formatted page is no raw data (R182, R183); a piece of the device registers is reached last (R140). -/
def rawPiece (e : Nat × Except (Nat × Cause) (Leaf × Nat)) : Nat × Except (Nat × Cause) (Leaf × Nat) :=
  match e.2 with
  | .ok (l, a) =>
    if l.efmt ≠ 0 then (e.1, .error (a, .format))
    else match deviceCause l a with | some c => (e.1, .error (a, c)) | none => e
  | .error _ => e

/-- The words of a piece: leaf and address of each. -/
def pieceWords (e : Leaf × Nat) : List (Leaf × Nat) := (List.range 16).map (fun k => (e.1, e.2 + 4 * k))

/-- The cycles by which the load or store of a tile is performed (R73). -/
def tileWait (s : State) (va : Nat) (pieces : List (Leaf × Nat)) : Nat :=
  loadWaits s s.wave pieces (pagesOf (piecesAt va 64 64))

/-- Perform MXLDZ (R182). -/
def tryMxldz (z : Nat) (va : Nat) (s : State) : Attempt :=
  if va % 64 ≠ 0 then .stopped (noLane, va, .align)
  else
    let w := s.wave
    let found := (findPieces s w .load va 64).map rawPiece
    match firstCause (laneCauses found) with
    | some c => .stopped c
    | none =>
      let words := ((laneFinds found).map (·.2)).flatMap pieceWords
      match poisonOf s (words.map (fun e => (noLane, pasOf e.1 e.2 4))) with
      | some p => .poisoned p.1 0
      | none =>
        let values := words.map (fun e => BitVec.ofNat 32 (loadLe s e.1 e.2 4))
        let cycles := tileWait s va ((laneFinds found).map (·.2))
        let s := touchWalks s w.span.part w.span.ctx (piecesAt va 64 64)
        let s := countAll (claimSlot z s) w.span.part w.span.ctx 0 (words.map (·.2))
        let s := touchAll s w.span.part false 4 words
        let s := s.changeCore w.core (fun c => (c.fillSlot z (sparseOf values)).overtake w.id z)
        .performed (s.onWave (Wave.perform s cycles))

/-- Write a scaled row of an FP8 page: its formed scale and the codes of its elements (R125, R183). -/
def putScaledRow (s : State) (row : List (Element × Word32)) : State :=
  match row with
  | [] => s
  | (e, _) :: _ =>
    let f := elementFormat e.leaf.efmt
    let k := formScale f (row.map (fun x => decode32F x.2))
    let s := match e.scale with
      | some b => putByte s b.1.key (b.1.pa b.2) (BitVec.ofNat 8 k)
      | none => s
    row.foldl (fun s x => putElement s x.1 (scaledCode f k (decode32F x.2))) s

/-- Write a row of an unscaled formatted page (R119, R183). -/
def putPlainRow (s : State) (row : List (Element × Word32)) : State :=
  row.foldl (fun s x => putElement s x.1 (narrowF (elementFormat x.1.leaf.efmt) (decode32F x.2)).1) s

/-- What the store of an element's scale meets: a frame that holds cells takes no write (R202, R212). -/
def scaleCause (s : State) (part : Nat) (e : Element) : Option (Nat × Cause) :=
  match e.scale with
  | some b => (leafCause s part .store b.1 b.2).map (fun c => (b.2, c))
  | none => none

/-- An element of a formatted page that MXSTZ may write with its block's scale: not INT8, N8 or LQ2 (R183). -/
def storableElement (s : State) (w : Wave) (t : TReg) (k : Nat) : Nat × Except (Nat × Cause) Element :=
  (noLane, match locate s w.span.part w.span.ctx .store t k with
    | .error c => .error c
    | .ok e =>
      match scaleCause s w.span.part e with
      | some c => .error c
      | none => if e.leaf.efmt < 5 then .ok e else .error (e.va, .format))

/-- The elements of formatted pages that the tile goes to, element 32i + j at the index of that number (R183). -/
def tileElements (s : State) (va : Nat) : List (Nat × Except (Nat × Cause) Element) :=
  (List.range 1024).map (storableElement s s.wave { TReg.unbound with base := BitVec.ofNat 64 va })

/-- Encode the tile onto the elements of formatted pages (R183). -/
def encodeTile (z : Nat) (es : List Element) (s : State) : State :=
  let w := s.wave
  let c := s.coreOf w.core
  let row (i : Nat) : List (Element × Word32) := ((es.drop (32 * i)).take 32).zip (slotRow c z i)
  let t := (List.range 32).foldl (fun t i =>
    if es.any (fun e => e.scale.isSome) then putScaledRow t (row i) else putPlainRow t (row i)) (claimSlot z s)
  let t := touchAll t w.span.part true 1 (es.flatMap Element.reads)
  clearCovered (countAll t w.span.part w.span.ctx 1 (es.map (·.va))) (es.flatMap Element.pas)

/-- Whether the first of the pieces is one of a formatted page. -/
def formattedRange (found : List (Nat × Except (Nat × Cause) (Leaf × Nat))) : Bool :=
  match found with
  | (_, .ok (l, _)) :: _ => l.efmt != 0
  | _ => false

/-- Whether the first of the pieces can be translated. -/
def rangeKnown (found : List (Nat × Except (Nat × Cause) (Leaf × Nat))) : Bool :=
  match found with
  | (_, .ok _) :: _ => true
  | _ => false

/-- Store the tile as raw words, once its range has passed (R182). -/
def storeTile (z : Nat) (pieces : List (Leaf × Nat)) (s : State) : State :=
  let w := s.wave
  let c := s.coreOf w.core
  let values := (List.range 1024).map (fun k => (sget c.acc (1024 * z + k)).toNat)
  storeList (claimSlot z s) w 4 (((pieces.flatMap pieceWords).zip values).map (fun e => (e.1.1, e.1.2, e.2)))

/-- Perform MXSTZ (R182, R183); its tile is consumed once its addresses have passed. -/
def tryMxstz (z : Nat) (va : Nat) (s : State) : Attempt :=
  if va % 64 ≠ 0 then .stopped (noLane, va, .align)
  else
    let found := findPieces s s.wave .store va 64
    let t := touchWalks s s.wave.span.part s.wave.span.ctx (piecesAt va 64 64)
    if formattedRange found then
      let elements := tileElements s va
      match firstCause (laneCauses found ++ laneCauses elements) with
      | some c => .stopped c
      | none =>
        .performed ((encodeTile z ((laneFinds elements).map (·.2)) t).onWave
          (Wave.perform s (tileWait s va ((laneFinds found).map (·.2)))))
    else
      let found := if rangeKnown found then found.map rawPiece else found
      match firstCause (laneCauses found) with
      | some c => .stopped c
      | none =>
        let pieces := (laneFinds found).map (·.2)
        .performed ((storeTile z pieces t).onWave (Wave.perform s (tileWait s va pieces)))

/-- MXLDZ (R182). -/
def execMxldz (b : BitVec 5) (z : BitVec 6) (st : BitVec 3) (s : State) : Result :=
  gate (.mxldz b z st) s (fun s => withSlot (.mxldz b z st) z.toNat s (fun s =>
    let va := s.wave.sval b.toNat
    orderedRequest (.mxldz b z st) (.mxldz z.toNat va) s.wave.active (tryMxldz z.toNat va.toNat) s))

/-- Complete MXSTZ, unless a word of its tile is poisoned (R308). -/
def tileOut (i : Instr) (z : Nat) (req : MemReq) (a : Attempt) (s : State) : Result :=
  match a, poisonedWord (s.coreOf s.wave.core) z with
  | .performed _, some k => .next (consume (req.walks s) s.wave 4 (dieBank s.wave.core) k 0)
  | a, _ => conclude i req s.wave.active (completed i req s) a s

/-- MXSTZ (R182, R183). -/
def execMxstz (b : BitVec 5) (z : BitVec 6) (st : BitVec 3) (s : State) : Result :=
  gate (.mxstz b z st) s (fun s => withSlot (.mxstz b z st) z.toNat s (fun s =>
    let va := s.wave.sval b.toNat
    inOrder (.mxstz b z st) (.mxstz z.toNat va) s
      (tileOut (.mxstz b z st) z.toNat (.mxstz z.toNat va) (tryMxstz z.toNat va.toNat s) s)))

end Sys2Proof.Machine
end

