-- ==== Sys2Proof/Machine/Post.lean ====
section
/-!
DEFINITION. The posting of engine commands: the ENG group (R187 to R191, R197, R242, R296, R297, R380).
-/

namespace Sys2Proof.Machine

open Sys2Proof

/-! ### Descriptors (R191 to R196, R242) -/

/-- The queue of a command by FN and its descriptor's QSEL (R188, R191). -/
def queueOf (fn : Nat) (desc : List Byte) : Nat :=
  match fn with
  | 0 => 0
  | 3 => 3
  | 5 => 4
  | _ => 1 + field (fieldBytes desc 0 8) 1 1

/-- How the reading of a descriptor comes out. -/
inductive DescRead where
  | got (desc : List Byte) (pieces : List (Leaf × Nat))
  | stopped (c : LaneCause)
  | poisoned (pa : Nat)
  deriving DecidableEq, Repr

/-- Read a descriptor as a load of the wave, in pieces that no page boundary cuts (R189, R297). -/
def readDesc (s : State) (w : Wave) (fn va : Nat) : DescRead :=
  if va % 64 ≠ 0 then .stopped (noLane, va, .align)
  else
    let n := min 64 (descSize fn)
    let found := (descPieces fn va).map (fun a =>
      (noLane, match access s w.span.part w.span.ctx .load a n with | .ok l => .ok (l, a) | .error c => .error (a, c)))
    match firstCause (laneCauses found) with
    | some c => .stopped c
    | none =>
      let pieces := (laneFinds found).map (·.2)
      match poisonOf s (pieces.map (fun e => (noLane, pasOf e.1 e.2 n))) with
      | some p => .poisoned p.1
      | none => .got (pieces.flatMap (fun e => loadBytes s e.1 e.2 n)) pieces

/-- A wave has read a descriptor: its doublewords are counted, and its lines accessed (R284, R377). -/
def countDesc (s : State) (w : Wave) (fn va : Nat) (pieces : List (Leaf × Nat)) : State :=
  countAll (touchAll s w.span.part false (min 64 (descSize fn)) pieces) w.span.part w.span.ctx 0 ((List.range (descSize fn / 8)).map (fun j => va + 8 * j))

/-! ### Acceptance (R189, R190, R197, R380) -/

/-- A token (R190). -/
def engineToken64 (core q seq : Nat) : Word64 := BitVec.ofNat 64 (core + q * 2 ^ 9 + seq % 2 ^ 32 * 2 ^ 16)

/-- Whether a token names a command that a new command of queue `q`, or a fence (7), may claim (R197). -/
def claimable (c : Core) (core q : Nat) (x : Word64) : Bool :=
  let q' := field x.toNat 9 3
  field x.toNat 12 4 == 0 && field x.toNat 48 16 == 0 && field x.toNat 0 9 == core && q' != q && decide (q' ≤ 4) &&
  (c.queue q').any (fun k => k.seq == field x.toNat 16 32 && k.held && !k.claimed)

/-- Mark the command that a token names as claimed. -/
def Core.claim (c : Core) (x : Word64) : Core :=
  c.onCmd (field x.toNat 9 3) (field x.toNat 16 32) (fun k => { k with claimed := true })

/-- The SEQ of the next command of a queue, and the core with it counted (R190). -/
def Core.nextSeqOf (c : Core) (q : Nat) : Nat := tgetD c.nextSeq q 0

/-- Put a command at the end of its queue, its claim made if it can be (R189, R197). -/
def Core.enqueue (c : Core) (core cyc q fn : Nat) (id : SpanId) (block : Nat) (desc : List Byte) (succ : Option Word64) : Core :=
  let ok := match succ with | some x => claimable c core q x | none => true
  let c := match succ with | some x => if ok then c.claim x else c | none => c
  let seq := c.nextSeqOf q
  let k : Cmd :=
    { seq := seq, fn := fn, desc := desc, span := id, block := block,
      held := ok && field (fieldBytes desc 0 8) 0 1 == 1, succ := if ok then succ else none, claimed := false,
      chain := !ok, behind := (c.fences.filter (fun f => f.mask.testBit q)).map (·.seq), phase := .waiting, step := 0,
      started := 0, posted := cyc, buffer := [], stall := none, flow := none }
  { c.setQueue q (c.queue q ++ [k]) with nextSeq := tset c.nextSeq q (seq + 1) }

/-- The queue's estimate for a command accepted now (R380). -/
def estimateAt (s : State) : Word64 := BitVec.ofNat 64 (s.cyc + Config.estimateAhead s.fresh)

/-- Put a command of a wave into a queue of its core (R189). -/
def enqueueFor (s : State) (w : Wave) (q fn : Nat) (desc : List Byte) (succ : Option Word64) : State :=
  { s.changeCore w.core (fun c => c.enqueue w.core s.cyc q fn w.span w.block desc succ) with fresh := s.fresh + 1 }

/-- The wave with the token of a command that its queue accepts in sT, and the promise in sT+1 (R189, R190). -/
def takeToken (s : State) (q t wait : Nat) (w : Wave) : Wave :=
  (w.putS t (engineToken64 w.core q ((s.coreOf w.core).nextSeqOf q)) wait true).putS (t + 1) (estimateAt s) wait true

/-- Accept a command of the issuing wave: enqueued, and its token and promise given (R189, R190). -/
def accept (s : State) (q fn t : Nat) (desc : List Byte) (succ : Option Word64) (wait : Nat) : State :=
  (enqueueFor s s.wave q fn desc succ).onWave (takeToken s q t wait)

/-- Accept the command of a wave that has waited for room in its queue (R85, R189). -/
def acceptWaiting (s : State) (w : Wave) (q fn t : Nat) (desc : List Byte) (succ : Option Word64) : State :=
  (enqueueFor s w q fn desc succ).changeWave w.id (takeToken s q t 0)

/-- Whether a queue has room for a command (R188). -/
def queueRoom (s : State) (core q : Nat) : Bool := decide (((s.coreOf core).queue q).length < 32)

/-- A wave's request to post, once its descriptor is read and its slot granted: what posting does at once (R187, R263,
R274, R297). -/
def notePost (fn : Nat) (desc : List Byte) (s : State) : State :=
  let s := if fn = 5 then clearReplay s s.wave.span else s
  if fn = 0 then claimSlot (field (fieldBytes desc 0 8) 8 6) s else s

/-- The cycles of the load of a descriptor (R73). -/
def descWait (s : State) (fn va : Nat) (pieces : List (Leaf × Nat)) : Nat := loadWaits s s.wave pieces (descPieces fn va)

/-- Post with room, or wait for it; the wave issues nothing meanwhile (R85, R189). `wait` are the cycles of the descriptor's load. -/
def postOrWait (i : Instr) (fn t va : Nat) (desc : List Byte) (pieces : List (Leaf × Nat)) (succ : Option Word64) (wait : Nat)
    (s : State) : Result :=
  let w := s.wave
  let q := queueOf fn desc
  let s := (notePost fn desc (countDesc s w fn va pieces)).onWave (Wave.perform s wait)
  if queueRoom s w.core q then done i w (accept s q fn t desc succ (wait + 2 * s.passes w))
  else
    let u := retire i 0 none w s
    .next { sleepOn (.posting q fn t desc succ u.arrivals) u with arrivals := u.arrivals + 1 }

/-- An ENG instruction after the gate (R189, R297): the descriptor is read, an MXLOOP's slot is checked, and the command
posted. -/
def post (i : Instr) (fn t : Nat) (va : Word64) (succ : Option Word64) (s : State) : Result :=
  let w := s.wave
  let req : MemReq := .post fn t va succ
  inOrder i req s <|
  match readDesc s w fn va.toNat with
  | .stopped c => meet i req w.active c (done i w) (req.stops c s)
  | .poisoned pa => .next (consumeSector (req.walks s) w pa 0)
  | .got desc pieces =>
    let z := field (fieldBytes desc 0 8) 8 6
    let act := postOrWait i fn t va.toNat desc pieces succ (descWait s fn va.toNat pieces) (req.walks s)
    if fn = 0 then
      match ownership s w z with
      | .trap => raiseOwner i z (req.walks s)
      | .wait => .next (waitAgain (.retryOwner z) (req.walks s))
      | .poisoned => .next (consumeRegister (req.walks s) w)
      | .granted => act
    else act

/-- The successor token of an ENG instruction: none where the field is 0 (R197). -/
def successor (w : Wave) (u : BitVec 5) : Option Word64 := if u = 0 then none else some (w.sval u.toNat)

/-- MXLOOP (R192, R296). -/
def execMxloop (u e t : BitVec 5) (st : BitVec 3) (s : State) : Result :=
  gate (.mxloop u e t st) s (fun s => post (.mxloop u e t st) 0 t.toNat (s.wave.sval e.toNat) (successor s.wave u) s)

/-- CPY (R194, R296). -/
def execCpy (u e t : BitVec 5) (st : BitVec 3) (s : State) : Result :=
  gate (.cpy u e t st) s (fun s => post (.cpy u e t st) 1 t.toNat (s.wave.sval e.toNat) (successor s.wave u) s)

/-- BLOAD (R195, R296). -/
def execBload (u e t : BitVec 5) (st : BitVec 3) (s : State) : Result :=
  gate (.bload u e t st) s (fun s => post (.bload u e t st) 2 t.toNat (s.wave.sval e.toNat) (successor s.wave u) s)

/-- CBLD (R196, R296). -/
def execCbld (u e t : BitVec 5) (st : BitVec 3) (s : State) : Result :=
  gate (.cbld u e t st) s (fun s => post (.cbld u e t st) 3 t.toNat (s.wave.sval e.toNat) (successor s.wave u) s)

/-- NWRI (R242, R296). -/
def execNwri (u e t : BitVec 5) (st : BitVec 3) (s : State) : Result :=
  gate (.nwri u e t st) s (fun s => post (.nwri u e t st) 5 t.toNat (s.wave.sval e.toNat) (successor s.wave u) s)

/-! ### QFENCE (R197) -/

/-- Put a queue fence on a core. One whose successor cannot be claimed performs nothing: it holds no queue and waits for
the older fences alone (R197). -/
def Core.fence (c : Core) (core : Nat) (id : SpanId) (block mask : Nat) (succ : Option Word64) : Core :=
  let ok := match succ with | some x => claimable c core 7 x | none => true
  let c := match succ with | some x => if ok then c.claim x else c | none => c
  let seq := c.nextSeqOf 7
  let named := (List.range 5).filter (fun q => mask.testBit q)
  let waits := if ok then named.flatMap (fun q => (c.queue q).map (fun k => (q, k.seq))) else c.fences.map (fun f => (7, f.seq))
  let f : Fence := ⟨seq, id, block, if ok then mask else 0, waits, if ok then succ else none, !ok⟩
  ({ c with fences := c.fences ++ [f], nextSeq := tset c.nextSeq 7 (seq + 1) }).settleFences (c.fences.length + 1)

/-- QFENCE (R197): its mask is in bits [4:0] of its register; nothing is read from memory. -/
def execQfence (u e t : BitVec 5) (st : BitVec 3) (s : State) : Result :=
  gate (.qfence u e t st) s (fun s =>
    let w := s.wave
    let mask := field (w.sval e.toNat).toNat 0 5
    let token := engineToken64 w.core 7 ((s.coreOf w.core).nextSeqOf 7)
    let promise := estimateAt s
    let t' := s.changeCore w.core (fun c => c.fence w.core w.span w.block mask (successor w u))
    let wait := 2 * s.passes w
    done (.qfence u e t st) w { (setSHeld (setSHeld t' t.toNat token wait) (t.toNat + 1) promise wait) with
      fresh := s.fresh + 1 })

end Sys2Proof.Machine
end

