-- ==== Sys2Proof/Machine/Sync.lean ====
section
/-!
DEFINITION. Instructions by which waves meet, wait and exchange packets: barriers, fences, channels, SLEEPU, CPWAIT and
WAITK (R77 to R80, R160, R167, R174, R237, R243, R292, R318, R319, R332, R373).
-/

namespace Sys2Proof.Machine

open Sys2Proof

/-! ### Barriers (R77 to R79, R292) -/

/-- Arrive at a barrier: the wave sleeps until every wave of its group that has not ended stands there (R77). -/
def arrive (i : Instr) (k : BarrierKind) (s : State) : Result :=
  let t := retire i 0 none s.wave s
  let t := { sleepOn (.barrier k t.arrivals) t with arrivals := t.arrivals + 1 }
  .next (releaseBarrier k t.wave t)

/-- A barrier after the gate: SAT_BARRIER if ARM = 1, which clears ARM (R78). -/
def barrier (i : Instr) (k : BarrierKind) (s : State) : Result :=
  let w := s.wave
  if w.satctl.getLsbD 0 then
    raise (trapOf i 0x08 0 0 [w.satf.toNat]) (s.onWave (fun w => { w with satctl := w.satctl &&& ~~~1#64 }))
  else arrive i k s

/-- BAR (R77). -/
def execBar (st : BitVec 3) (s : State) : Result := gate (.bar st) s (fun s => barrier (.bar st) .block s)

/-- SBAR (R77). -/
def execSbar (st : BitVec 3) (s : State) : Result := gate (.sbar st) s (fun s => barrier (.sbar st) .span s)

/-- Whether a wave's grid was launched with the grid-barrier flag (R79). -/
def gridFlag (s : State) (w : Wave) : Bool :=
  match s.launchOf w.span with
  | some l => l.gbar
  | none => false

/-- GBAR (R77): GRID_BARRIER in a grid launched without the flag (R79). -/
def execGbar (st : BitVec 3) (s : State) : Result :=
  gate (.gbar st) s (fun s =>
    if gridFlag s s.wave then barrier (.gbar st) .grid s else raise (trapOf (.gbar st) 0x09 0 0 []) s)

/-! ### Fences (R167, R174) -/

/-- FENCE (R167): it issues once the wave's earlier accesses are performed as R73 times them (`Instr.settles`, in the interlock), and at
scopes .dom and .sys it waits for what travels to other devices as well. -/
def execFence (c : BitVec 3) (st : BitVec 3) (s : State) : Result :=
  gate (.fence c st) s (fun s =>
    if 4 ≤ c.toNat ∧ waveInFlight s s.wave.span.part s.wave.id then .next (waitAgain (.retryReflected false) s)
    else done (.fence c st) s.wave s)

/-- XFER_REFUSED: the number of pending refusals and the first one's details; taking the trap clears them (R217, R336). -/
def refusedTrap (i : Instr) (r : RefusedXfer) (s : State) : Result :=
  let n := s.wave.refused.length
  raise (trapOf i 0x14 0 0 [n, r.source + r.dest * 2 ^ 32, r.link, (r.amount % 2 ^ 64).toNat, r.reason])
    (s.onWave (fun w => { w with refused := [] }))

/-- WFENCE (R174): it waits for the wave's stores, requests and records, and then reports a pending refusal. -/
def execWfence (st : BitVec 3) (s : State) : Result :=
  gate (.wfence st) s (fun s =>
    if waveInFlight s s.wave.span.part s.wave.id then .next (waitAgain (.retryReflected false) s)
    else
      match s.wave.refused with
      | r :: _ => refusedTrap (.wfence st) r s
      | [] => done (.wfence st) s.wave s)

/-! ### Channels (R80, R318, R319) -/

/-- The packets of a channel of a span. -/
def channelOf (s : State) (id : SpanId) (c : Nat) : List (List Word32) :=
  match s.findSpan id with
  | some x => tgetD x.channels c []
  | none => []

/-- Set the packets of a channel. -/
def setChannel (s : State) (id : SpanId) (c : Nat) (ps : List (List Word32)) : State :=
  s.changeSpan id (fun x => { x with channels := tset x.channels c ps })

/-- The waiting wave with the least arrival number, among those of a span for which `f` gives one. -/
def firstWaiting (s : State) (p : Wave → Option Nat) : Option Wave :=
  (s.allWaves.filterMap (fun w => (p w).map (fun n => (n, w)))).foldl
    (fun best e => match best with | some b => if e.1 < b.1 then some e else some b | none => some e) none |>.map (·.2)

/-- The arrival number of a wave that waits to receive from a channel of a span. -/
def receiverOf (id : SpanId) (c : Nat) (w : Wave) : Option Nat :=
  match w.wait with
  | .receiving k _ _ n => if w.span = id ∧ k = c then some n else none
  | _ => none

/-- The arrival number of a wave that waits to send on a channel of a span. -/
def senderTo (id : SpanId) (c : Nat) (w : Wave) : Option Nat :=
  match w.wait with
  | .sending k _ n => if w.span = id ∧ k = c then some n else none
  | _ => none

/-- Give a packet to a wave's destination register (R319). -/
def Wave.takePacket (w : Wave) (d : Nat) (mask : Word64) (p : List Word32) (wait : Nat) : Wave :=
  w.putV d mask (fun l => p.getD l 0) wait true

/-- Append a packet to a channel: it goes to the oldest waiting receiver if there is one, to which it is readable after
RECV's latency from now (R73, R319). -/
def deliverPacket (s : State) (id : SpanId) (c : Nat) (p : List Word32) : State :=
  match firstWaiting s (receiverOf id c) with
  | some r =>
    match r.wait with
    | .receiving _ d mask _ =>
      s.changeWave r.id (fun w => (wake s w).takePacket d mask p ((wake s w).readyAt - w.now + crossWait s w))
    | _ => s
  | none => setChannel s id c (channelOf s id c ++ [p])

/-- SEND (R319): one whole packet, zeros for the lanes outside active(M); it sleeps while the channel holds four. -/
def execSend (m : BitVec 3) (c d : BitVec 6) (st : BitVec 3) (s : State) : Result :=
  gate (.send m c d st) s (fun s =>
    let w := s.wave
    let mask := w.lanes m.toNat
    let p := (List.range laneCount).map (fun l => if mask.getLsbD l then w.vval d.toNat l else 0)
    let t := retire (.send m c d st) 0 none w s
    if (channelOf s w.span c.toNat).length < 4 then .next (deliverPacket t w.span c.toNat p)
    else .next { sleepOn (.sending c.toNat p t.arrivals) t with arrivals := t.arrivals + 1 })

/-- Move the packet of the oldest waiting sender into a channel that has room (R80). -/
def admitSender (s : State) (id : SpanId) (c : Nat) : State :=
  match firstWaiting s (senderTo id c) with
  | some x =>
    match x.wait with
    | .sending _ p _ => (setChannel s id c (channelOf s id c ++ [p])).changeWave x.id (wake s)
    | _ => s
  | none => s

/-- RECV (R319): the oldest packet, its elements to the lanes of active(M); it sleeps while the channel is empty. -/
def execRecv (m : BitVec 3) (c d : BitVec 6) (st : BitVec 3) (s : State) : Result :=
  gate (.recv m c d st) s (fun s =>
    let w := s.wave
    let mask := w.lanes m.toNat
    match channelOf s w.span c.toNat with
    | p :: rest =>
      let t := s.onWave (fun w => w.takePacket d.toNat mask p (crossWait s w))
      let t := retire (.recv m c d st) 0 none w t
      .next (admitSender (setChannel t w.span c.toNat rest) w.span c.toNat)
    | [] =>
      let t := retire (.recv m c d st) 0 none w s
      .next { sleepOn (.receiving c.toNat d.toNat mask t.arrivals) t with arrivals := t.arrivals + 1 })

/-! ### Sleeping (R332) -/

/-- SLEEPU (R332): until CYC reaches its value at issue plus sS[31:0]. -/
def execSleepu (r : BitVec 5) (st : BitVec 3) (s : State) : Result :=
  gate (.sleepu r st) s (fun s =>
    let n := field (s.wave.sval r.toNat).toNat 0 32
    let t := retire (.sleepu r st) 0 none s.wave s
    .next (if n = 0 then t else sleepOn (.sleeping (s.cyc + n)) t))

/-! ### Engine tokens (R160, R190) -/

/-- The status records that were saved with the wave's block on a core that it has left (R190, R257). -/
def keptRecords (s : State) (w : Wave) (core : Nat) : Option (List DoneRec) :=
  match s.findBlock w.span w.block with
  | some b => (b.kept.find? (fun e => e.1 == core)).map (·.2)
  | none => none

/-- Whether the command or fence of a token has not completed. -/
def tokenPending (s : State) (w : Wave) (x : Word64) : Bool :=
  if tokenCore x ≠ w.core then false
  else if tokenQueue x = 7 then
    (s.coreOf w.core).fences.any (fun f => f.seq == tokenSeq x)
  else (tgetD (s.coreOf w.core).queues (tokenQueue x) []).any (fun c => c.seq == tokenSeq x)

/-- The status record of a completed token: status, elements performed, first failing VA; EXPIRED, with open figures, if
it is no longer kept (R190; log 16). -/
def tokenStatus (s : State) (w : Wave) (x : Word64) : Nat × Nat × Nat :=
  let kept := (keptRecords s w (tokenCore x)).getD []
  let records := if tokenCore x = w.core then (s.coreOf w.core).done ++ kept else kept
  match records.find? (fun d => d.queue == tokenQueue x && d.seq == tokenSeq x) with
  | some d => (d.status, d.count, d.va.getD (Config.engineFigure s.fresh))
  | none => (7, Config.engineFigure s.fresh, Config.engineFigure (s.fresh + 1))

/-- The issuing wave has made the checks of CPWAIT or WAITK and waits for a token: it makes them no more (R160, R373). -/
def awaitToken (x : Word64) (promise : Option Nat) (s : State) : State :=
  waitAgain (.retryToken x promise) (s.onWave (fun w => { w with inWait := true }))

/-- ENGINE_FAULT (R190, R336). -/
def engineTrap (i : Instr) (x : Word64) (st : Nat × Nat × Nat) : Trap :=
  trapOf i 0x0B 0 0 [x.toNat, st.1, st.2.1, st.2.2]

/-- COPY_LATE: the token, and a new estimate later than the present CYC (R160, R380). -/
def lateTrap (i : Instr) (s : State) (x : Word64) : Trap :=
  trapOf i 0x0A 0 0 [x.toNat, s.cyc + 1 + Config.lateAhead s.fresh]

/-- CPWAIT (R160). -/
def execCpwait (r : BitVec 5) (st : BitVec 3) (s : State) : Result :=
  gate (.cpwait r st) s (fun s =>
    let i : Instr := .cpwait r st
    let w := s.wave
    let x := w.sval r.toNat
    let promise := (w.sval (r.toNat + 1)).toNat
    if !w.inWait && !engineToken s w x then raise (trapOf i 0x01 0 0 []) s
    else if tokenPending s w x then
      if promise ≤ s.cyc then raise (lateTrap i s x) { s with fresh := s.fresh + 1 }
      else .next (awaitToken x (some promise) s)
    else if (tokenStatus s w x).1 ≠ 0 then raise (engineTrap i x (tokenStatus s w x)) { s with fresh := s.fresh + 2 }
    else done i w s)

/-! ### WAITK (R237, R243, R373) -/

/-- The lanes of the groups of a RATOM whose status a test accepts (R237). -/
def groupLanes (p : Nat → Bool) (gs : List RatomGroup) : Word64 :=
  gs.foldl (fun m g => match g.status with | some x => if p x then m ||| g.lanes else m | none => m) 0

/-- The first group of a RATOM whose status a test accepts: its device and status. -/
def groupFirst (p : Nat → Bool) (gs : List RatomGroup) : Nat × Nat :=
  match gs.find? (fun g => match g.status with | some x => p x | none => false) with
  | some g => (g.device, g.status.getD 0)
  | none => (0, 0)

/-- Consume the outcome of a RATOM token (R237). -/
def Wave.consumeToken (w : Wave) (seq : Nat) : Wave :=
  { w with tokens := tmod w.tokens seq (fun gs => gs.map (fun g => { g with status := some 0 })) }

/-- How many RATOMs its wave had issued when the last group of a RATOM with sequence number `seq` replied (R237). -/
def completedAt (seq : Nat) (gs : List RatomGroup) : Nat := gs.foldl (fun n g => max n g.heard) (seq + 1)

/-- WAITK on a RATOM token (R237): it sleeps until the token completes, and a token that completed more than 256 RATOMs
earlier is EXPIRED. -/
def waitRatom (i : Instr) (x : Word64) (s : State) : Result :=
  let w := s.wave
  let seq := tokenSeq x
  match tget w.tokens seq with
  | none => done i w s
  | some gs =>
    if !gs.all (fun g => g.status.isSome) then .next (awaitToken x none s)
    else if completedAt seq gs + 256 < w.ratoms then raiseNext i (trapOf i 0x15 0 0 [5, 0, 0, 7]) s
    else
      let poison := groupLanes (· == 3) gs
      let bad := groupLanes (· != 0) gs
      let t := s.onWave (fun w => w.consumeToken seq)
      if poison ≠ 0 then
        raiseNext i (trapOf i 0x16 poison 0 [poison.toNat, (groupFirst (· == 3) gs).1]) t
      else if bad ≠ 0 then
        raiseNext i (trapOf i 0x15 bad 0
          [5, bad.toNat, (groupFirst (· != 0) gs).1, (groupFirst (· != 0) gs).2]) t
      else done i w s

/-- What a notification gives the register of its waiter: immediate in [31:0], flow in [43:32] (R243). -/
def notificationWord (e : Word32 × Nat) : Word64 := BitVec.ofNat 64 (e.1.toNat + e.2 % 4096 * 2 ^ 32)

/-- WAITK on a notification queue (R243). The manual names no latency for its register: readable after 1 beat, not
interlocked, and at once where the wave has slept (DESIGN CHOICE, log 71). -/
def waitNotification (i : Instr) (r queue : Nat) (s : State) : Result :=
  let w := s.wave
  let entries := match tget s.parts w.span.part with | some p => tgetD p.notif queue [] | none => []
  match entries with
  | e :: rest =>
    let t := setPart s w.span.part (fun p => { p with notif := tset p.notif queue rest })
    done i w (setS t r (notificationWord e) 1)
  | [] =>
    let t := retire i 0 none w s
    .next { sleepOn (.notification queue r t.arrivals) t with arrivals := t.arrivals + 1 }

/-- WAITK (R373): its checks and the trap for a pending refusal come before its wait. -/
def execWaitk (r : BitVec 5) (st : BitVec 3) (s : State) : Result :=
  gate (.waitk r st) s (fun s =>
    let i : Instr := .waitk r st
    let w := s.wave
    let x := w.sval r.toNat
    if !w.inWait && waitkIllegal s w x then raise (trapOf i 0x01 0 0 []) s
    else
      match (if w.inWait then none else w.refused.head?) with
      | some e => refusedTrap i e s
      | none =>
        if tokenQueue x = 5 then waitNotification i r.toNat (field x.toNat 16 6) s
        else if tokenQueue x = 6 then waitRatom i x s
        else if tokenPending s w x then .next (awaitToken x none s)
        else if (tokenStatus s w x).1 ≠ 0 then raise (engineTrap i x (tokenStatus s w x)) { s with fresh := s.fresh + 2 }
        else done i w s)

end Sys2Proof.Machine
end

