-- ==== Sys2Proof/Machine/Engine.lean ====
section
/-!
DEFINITION. The engines: the start, the work and the completion of commands, and the K-steps of MXLOOP (R169, R170, R181,
R188 to R198, R242).
-/

namespace Sys2Proof.Machine

open Sys2Proof

/-! ### Outcomes -/

/-- How a piece of a command's work comes out. -/
inductive Work where
  | performed (t : State)
  | ended (t : State) (status : Nat) (va : Option Nat)
  | stalled (t : State) (va : Nat) (c : Cause) (kind : Nat)
  | waits
  | device (pa : Nat)
  deriving DecidableEq, Repr

/-- Go on with the next piece of work if this one was performed. -/
def Work.next (x : Work) (f : State → Work) : Work :=
  match x with
  | .performed t => f t
  | y => y

/-- An engine reads a poisoned unit: an ENGINE record, and the command ends with POISON (R190, R268, R272). -/
def poisonEnd (s : State) (core : Nat) (c : Cmd) (unit bank addr : Nat) (va : Option Nat) : Work :=
  .ended (recordUncorrected s bank 7 ⟨core, 0, 0, unit, c.span.part, c.span.ctx⟩ addr 0) 3 va

/-- An engine reads a poisoned sector of memory (R272). -/
def sectorEnd (s : State) (core : Nat) (c : Cmd) (pa : Nat) (va : Option Nat) : Work :=
  poisonEnd s core c (sectorPlace s pa).2 (sectorPlace s pa).1 (pa / 32 * 32) va

/-- The end that a cause of R155 gives a command, at an address (R190). -/
def causeEnd (s : State) (core : Nat) (c : Cmd) (va kind : Nat) (x : Cause) : Work :=
  match x with
  | .align => .ended s 5 (some va)
  | .conserved => .ended s 2 (some va)
  | .notPresent => .stalled s va x kind
  | .perm => .stalled s va x kind
  | .poison pa => sectorEnd s core c pa (some va)
  | .device pa => .device pa
  | _ => .ended s 1 (some va)

/-- The command at the head of a queue. -/
def headCmd (s : State) (core q : Nat) : Option Cmd := ((s.coreOf core).queue q).head?

/-- Change the command at the head of a queue. -/
def onHead (s : State) (core q : Nat) (f : Cmd → Cmd) : State :=
  s.changeCore core (fun c => match c.queue q with | k :: ks => c.setQueue q (f k :: ks) | [] => c)

/-- Set how far the head of a queue has come. -/
def endHead (s : State) (core q status count : Nat) (va : Option Nat) : State :=
  onHead s core q (fun k => { k with phase := .finished status count va })

/-- What the command at the head of a queue has performed. -/
def headStep (s : State) (core q : Nat) : Nat := match headCmd s core q with | some c => c.step | none => 0

/-- The head of a queue stalls at a resolvable fault; a report that found no room is declined at once (R190, R248). -/
def stallHead (s : State) (core q : Nat) (c : Cmd) (va : Nat) (cause : Cause) (kind : Nat) : State :=
  let r := pageRequest s c.span.part c.span.ctx va cause.code kind (.engine core q)
  if r.2.2 then onHead r.1 core q (fun k => { k with stall := some (r.2.1, va) })
  else endHead r.1 core q 1 (headStep s core q) (some va)

/-- A stalled command's fault has been answered: resolved, it goes on; declined, it ends with FAULT (R190, R251). -/
def answerEngine (s : State) (core q fault : Nat) (resolved : Bool) : State :=
  match headCmd s core q with
  | some c =>
    match c.stall with
    | some (n, va) =>
      if n ≠ fault then s
      else
        let s := onHead s core q (fun k => { k with stall := none })
        if resolved then s else endHead s core q 1 c.step (some va)
    | none => s
  | none => s

/-! ### Reading and writing for a command (R155, R170, R188, R194) -/

/-- The leaf of an access of a command. -/
def cmdAccess (s : State) (c : Cmd) (kind : AccessKind) (va n : Nat) : Except Cause Leaf :=
  access s c.span.part c.span.ctx kind va n

/-- An engine's access of an address walks for it, unless ALIGN stops it (R145, R155). -/
def cmdWalk (s : State) (c : Cmd) (va : Nat) (found : Except Cause Leaf) : State :=
  match found with
  | .error .align => s
  | _ => touchWalks s c.span.part c.span.ctx [va]

/-- The poisoned sector that reading a range meets. -/
def poisonIn (s : State) (pas : List Nat) : Option Nat := if s.poison.isEmpty then none else pas.find? (sectorPoisoned s)

/-- Read `n` bytes, which no page boundary cuts, and go on with them. -/
def readGlobal (s : State) (core : Nat) (c : Cmd) (va n size : Nat) (f : State → List Byte → Work) : Work :=
  let t := cmdWalk s c va (cmdAccess s c .load va size)
  match cmdAccess s c .load va size with
  | .error e => causeEnd t core c va 0 e
  | .ok l =>
    match poisonIn s (pasOf l va n) with
    | some pa => sectorEnd t core c pa (some va)
    | none => f (touch (countAccess t c.span.part c.span.ctx va 1 0) c.span.part false l va n) (loadBytes s l va n)

/-- Cut a range into pieces that no 64-byte boundary cuts. The first argument bounds their number. -/
def cutRange : Nat → Nat → Nat → List (Nat × Nat)
  | 0, _, _ => []
  | fuel + 1, va, n =>
    if n = 0 then []
    else
      let k := min n (64 - va % 64)
      (va % 2 ^ 64, k) :: cutRange fuel ((va + k) % 2 ^ 64) (n - k)

/-- Read a range piece by piece. -/
def readPieces (core : Nat) (c : Cmd) (f : State → List Byte → Work) : List (Nat × Nat) → List Byte → State → Work
  | [], acc, s => f s acc
  | (va, n) :: rest, acc, s => readGlobal s core c va n 1 (fun s bs => readPieces core c f rest (acc ++ bs) s)

/-- Read any range of bytes. -/
def readRange (s : State) (core : Nat) (c : Cmd) (va n : Nat) (f : State → List Byte → Work) : Work :=
  readPieces core c f (cutRange (n / 64 + 2) va n) [] s

/-- Write bytes of one element: the local image, and the reflection on a transmit window, where the span's replayable bit
ends (R170, R230, R274). -/
def writeGlobal (s : State) (core : Nat) (c : Cmd) (token va : Nat) (bs : List Byte) : Work :=
  let t := cmdWalk s c va (cmdAccess s c .store va bs.length)
  match cmdAccess s c .store va bs.length with
  | .error e => causeEnd t core c va 1 e
  | .ok l =>
    let s := countAccess (storeBytes t c.span.part (commandSender token) l va bs) c.span.part c.span.ctx va 1 1
    let s := clearCovered s (pasOf l va bs.length)
    .performed (if l.cls = 2 then clearReplay s c.span else s)

/-- Whether a range of bytes lies in the scratchpad allocation of the command's block (R188). -/
def scratchHolds (s : State) (c : Cmd) (off n : Nat) : Bool :=
  match s.findBlock c.span c.block with
  | none => false
  | some b => decide (off + n ≤ b.size)

/-- Read bytes of the command's block's scratchpad (R188): RANGE outside its allocation. A scratchpad has no VA: the model's choice of
the first failing address is the offset (log 91). -/
def readScratch (s : State) (core : Nat) (c : Cmd) (off n : Nat) (f : List Byte → Work) : Work :=
  match s.findBlock c.span c.block with
  | none => .ended s 5 (some off)
  | some b =>
    if b.size < off + n then .ended s 5 (some off)
    else
      match (List.range n).find? (fun j => sget b.poison ((off + j) / 32) != 0) with
      | some j => poisonEnd s core c 2 (dieBank core) (b.sbase / 32 + (off + j) / 32) (some off)
      | none => f (sgetFrom b.scratch off n)

/-- A scratchpad after a write of bytes at an offset, the poison of sectors it covers ended (R271). -/
def Block.write (b : Block) (off : Nat) (bs : List Byte) : Block :=
  { b with
    scratch := ssetFrom b.scratch off bs,
    poison := b.poison.filter (fun e => !(decide (off ≤ 32 * e.1) && decide (32 * e.1 + 32 ≤ off + bs.length))) }

/-- Write bytes of the command's block's scratchpad; the first failing address is the offset (log 91). -/
def writeScratch (s : State) (c : Cmd) (off : Nat) (bs : List Byte) : Work :=
  match s.findBlock c.span c.block with
  | none => .ended s 5 (some off)
  | some b =>
    if b.size < off + bs.length then .ended s 5 (some off)
    else .performed (s.changeBlock c.span c.block (fun b => b.write off bs))

/-! ### Descriptor fields (R191 to R196, R242) -/

/-- Doubleword `k` of a descriptor. -/
def Cmd.dword (c : Cmd) (k : Nat) : Nat := fieldBytes c.desc (8 * k) 8

/-- A field of a descriptor's header. -/
def Cmd.head (c : Cmd) (lo len : Nat) : Nat := field (c.dword 0) lo len

/-- A signed field. -/
def signedField (x lo len : Nat) : Int := (BitVec.ofNat len (field x lo len)).toInt

/-- Whether a doubleword has no bit outside a mask. -/
def onlyBits (x mask : Nat) : Bool := BitVec.ofNat 64 x &&& ~~~(BitVec.ofNat 64 mask) == 0

/-- Whether every field that the tables do not name is 0 (R191). -/
def Cmd.reservedOk (c : Cmd) : Bool :=
  match c.fn with
  | 0 => onlyBits (c.dword 0) 0xFFFF00073FF1 && onlyBits (c.dword 2) 0xFFFF0FFF && c.dword 3 == 0
  | 1 => onlyBits (c.dword 0) 0x7FFF && c.dword 3 == 0 && c.dword 31 == 0 &&
      (List.range (min 9 (c.head 6 4))).all (fun d => field (c.dword (4 + 3 * d)) 32 32 == 0)
  | 2 => onlyBits (c.dword 0) 0xFFFFFFF3 && c.dword 3 == 0
  | 3 => onlyBits (c.dword 0) 0xD
  | _ => onlyBits (c.dword 0) 0x3F0FFF0001

/-! ### CPY (R194) -/

/-- A dimension of a copy: its count and its two strides. -/
def Cmd.dim (c : Cmd) (d : Nat) : Nat × Int × Int :=
  (field (c.dword (4 + 3 * d)) 0 32, signedField (c.dword (5 + 3 * d)) 0 64, signedField (c.dword (6 + 3 * d)) 0 64)

/-- The dimensions of a copy. -/
def Cmd.dims (c : Cmd) : List (Nat × Int × Int) := (List.range (c.head 6 4)).map c.dim

/-- Whether a copy's header fields and counts are in range (R194). -/
def Cmd.copyOk (c : Cmd) : Bool :=
  decide (c.head 2 2 ≤ 2) && decide (1 ≤ c.head 6 4) && decide (c.head 6 4 ≤ 9) && decide (c.head 10 3 ≤ 6) &&
  decide (c.head 13 2 ≤ 1) && c.dims.all (fun d => decide (1 ≤ d.1))

/-- The number of elements of a copy. -/
def Cmd.copyTotal (c : Cmd) : Nat := (c.dims.map (·.1)).foldl (· * ·) 1

/-- The source and destination offsets of element `n`, i0 fastest (R194). -/
def copyOffsets : List (Nat × Int × Int) → Nat → Int × Int
  | [], _ => (0, 0)
  | d :: ds, n =>
    let r := copyOffsets ds (n / d.1)
    let i : Int := (n % d.1 : Nat)
    (i * d.2.1 + r.1, i * d.2.2 + r.2)

/-- A 64-bit address moved by a signed offset. -/
def shiftAddr (a : Nat) (o : Int) : Nat := ((a + o) % 2 ^ 64).toNat

/-- Append bytes to the command's metadata entry, and the entry to its queue once it has 512 (R194). -/
def appendMeta (s : State) (core q : Nat) (c : Cmd) (bs : List Byte) : Work :=
  let n := c.head 4 2
  let entries := tgetD (s.coreOf core).mdq n []
  if 64 ≤ entries.length then .waits
  else
    let buffer := c.buffer ++ bs
    if buffer.length < 512 then .performed (onHead s core q (fun k => { k with buffer := buffer }))
    else .performed (onHead (s.changeCore core (fun k => { k with mdq := tset k.mdq n (entries ++ [buffer]) })) core q
      (fun k => { k with buffer := [] }))

/-- Write an element of a copy to its destination. -/
def copyOut (core q : Nat) (c : Cmd) (t : Nat) (s : State) (bs : List Byte) : Work :=
  match c.head 2 2 with
  | 0 => writeGlobal s core c (cmdToken core q c.seq) t bs
  | 1 => writeScratch s c t bs
  | _ => appendMeta s core q c bs

/-- Copy one element (R194). -/
def copyElement (core q : Nat) (c : Cmd) (s : State) : Work :=
  let size := 2 ^ c.head 10 3
  let o := copyOffsets c.dims c.step
  let from_ := shiftAddr (c.dword 1) o.1
  let to_ := if c.head 2 2 = 2 then 0 else shiftAddr (c.dword 2) o.2
  if from_ % size ≠ 0 then .ended s 5 (some from_)
  else if to_ % size ≠ 0 then .ended s 5 (some to_)
  else if c.head 13 2 = 1 then readScratch s core c from_ size (copyOut core q c to_ s)
  else readGlobal s core c from_ size size (copyOut core q c to_)

/-! ### Progress of the head of a queue -/

/-- Apply a piece of work at the head of a queue: performed, `next` follows; ended or stalled, it is with what the command
has performed (R190). -/
def settleWork (core q : Nat) (c : Cmd) (s : State) (x : Work) (next : State → Result) : Result :=
  match x with
  | .performed t => next t
  | .ended t status va => .next (endHead t core q status (headStep t core q) va)
  | .stalled t va cause kind => .next (stallHead t core q c va cause kind)
  | .waits => .next s
  | .device pa => .fault (.deviceRegister pa)

/-- The head of a queue has performed some more. -/
def countHead (core q n : Nat) (s : State) : State := onHead s core q (fun k => { k with step := k.step + n })

/-- Perform work items at the head of a queue until one does not complete, and then `finish`. Each counts its own elements.
The first argument bounds the number of items left. -/
def runWork (core q : Nat) (work : Cmd → State → Work) (finish : State → Result) : Nat → State → Result
  | 0, s => finish s
  | n + 1, s =>
    match headCmd s core q with
    | none => .next s
    | some c => settleWork core q c s (work c s) (runWork core q work finish n)

/-- The end of a copy: a partial metadata entry is dropped and gives RANGE (R194). -/
def finishCopy (core q total : Nat) (s : State) : Result :=
  match headCmd s core q with
  | none => .next s
  | some c =>
    .next (if c.buffer.isEmpty then endHead s core q 0 total none
      else endHead (onHead s core q (fun k => { k with buffer := [] })) core q 5 total none)

/-- Go on with a copy (R194). -/
def runCopy (core q : Nat) (c : Cmd) (s : State) : Result :=
  if !c.copyOk then .next (endHead s core q 5 0 none)
  else runWork core q (fun c s => (copyElement core q c s).next (fun t => .performed (countHead core q 1 t)))
    (finishCopy core q c.copyTotal) (c.copyTotal - c.step) s

/-! ### BLOAD (R195) -/

/-- Whether a tag accepts a source page's element format; 0 is an unformatted page (R195). -/
def sourceAccepted (tag efmt : Nat) : Bool :=
  match tag with
  | 1 => efmt == 0 || efmt == 1
  | 2 => efmt == 0 || efmt == 2
  | 3 => efmt == 0 || efmt == 3 || efmt == 7
  | 4 => efmt == 0 || efmt == 4
  | 5 => efmt == 0 || efmt == 5
  | 6 => efmt == 0 || efmt == 6
  | 7 => efmt == 7
  | _ => false

/-- The code that an element gives a line: raw, or sign and mag/8 of an LQ2 weight (R127, R195). -/
def lineCode (s : State) (part tag : Nat) (e : Element) : Nat :=
  let raw := leValue (e.bytes.map (leafByte s))
  if e.leaf.efmt = 7 then (narrowF (tagFormat tag) (lq2Weight (codebookRow s part e.leaf.cb (raw / 128)) (raw % 128) e.weight)).1
  else raw

/-- An element of an unformatted page: raw bytes of the tag's size, in a page that is not formatted (R195). -/
def rawElement (s : State) (c : Cmd) (base size : Nat) (i : Int) : Except (Nat × Cause) Element :=
  let va := shiftAddr base (i * size)
  match allOk ((List.range size).map (fun j =>
    let a := (va + j) % 2 ^ 64
    match cmdAccess s c .load a 1 with | .ok l => .ok (l, a) | .error x => .error (a, x))) with
  | .error e => .error e
  | .ok bytes =>
    match bytes.find? (fun b => b.1.efmt != 0) with
    | some b => .error (b.2, .format)
    | none => .ok ⟨bytes, none, 0⟩

/-- An element that BLOAD reads (R154, R195). -/
def tileElement (s : State) (c : Cmd) (tag base : Nat) (raw : Bool) (i : Int) : Except (Nat × Cause) Element :=
  if raw then rawElement s c base (if tagElements tag = 32 then 2 else 1) i
  else
    match locate s c.span.part c.span.ctx .load { TReg.unbound with base := BitVec.ofNat 64 base } i with
    | .ok e => if sourceAccepted tag e.leaf.efmt then .ok e else .error (e.va, .format)
    | .error e => .error e

/-- The end that a cause gives BLOAD: FORMAT for a page that does not fit (R195). -/
def bloadEnd (s : State) (core : Nat) (c : Cmd) (e : Nat × Cause) : Work :=
  match e.2 with
  | .format => .ended s 4 (some e.1)
  | x => causeEnd s core c e.1 0 x

/-- The bytes of an element of a line by its tag (R177). -/
def lineElementSize (tag : Nat) : Nat := if tagElements tag = 32 then 2 else 1

/-- What one element of a line gives it: its bytes, and its scale where a half of the line starts with it (R195); the bytes that it
was read from, each by its page and address, and its address. -/
structure LinePiece where
  bytes : List Byte
  scale : Byte
  reads : List (Leaf × Nat)
  va    : Nat
  deriving DecidableEq, Repr

/-- Read one element of a line, or what ends or stalls the command there (R154, R195, R272). -/
def readPiece (s : State) (core : Nat) (c : Cmd) (tag base : Nat) (raw : Bool) (i : Int) : Except Work LinePiece :=
  match tileElement s c tag base raw i with
  | .error e => .error (bloadEnd s core c e)
  | .ok e =>
    match poisonIn s e.pas with
    | some pa => .error (sectorEnd s core c pa (some e.va))
    | none => .ok ⟨leSplit (lineElementSize tag) (lineCode s c.span.part tag e), BitVec.ofNat 8 (e.scaleOf s), e.reads, e.va⟩

/-- The elements that can be read, in order, up to the first that cannot, with what that one meets. -/
def readUpTo (read : Nat → Except Work LinePiece) : List Nat → List LinePiece × Option Work
  | [] => ([], none)
  | k :: ks =>
    match read k with
    | .error x => ([], some x)
    | .ok p => let r := readUpTo read ks; (p :: r.1, r.2)

/-- A core with elements from `k` on written to one line of one slice, with its tag and the scale of each half that starts
among them, both being those of an unscaled line of 32 elements; the poison of a half ends when all of it is written (R177, R195,
R271). -/
def Core.putPieces (c : Core) (line slice tag k : Nat) (ps : List LinePiece) : Core :=
  let n := lineIndex line slice
  let size := lineElementSize tag
  let bytes := ps.flatMap (·.bytes)
  let starts := ps.zipIdx.filter (fun e => (k + e.2) % 32 == 0)
  let covers (h : Nat) : Bool := decide (size * k ≤ 32 * h) && decide (32 * h + 32 ≤ size * k + bytes.length)
  { c with
    tile := ssetFrom c.tile (64 * n + size * k) bytes,
    scales := starts.foldl (fun m e =>
      let m := sset m (2 * n + (k + e.2) / 32) e.1.scale
      if size = 2 ∧ tag ≠ 7 then sset m (2 * n + 1) e.1.scale else m) c.scales,
    tags := if ps.isEmpty then c.tags else sset c.tags n (BitVec.ofNat 4 tag),
    poisonT := c.poisonT.filter (fun e => !((e.1 == 2 * n && covers 0) || (e.1 == 2 * n + 1 && covers 1))) }

/-- Load what is left of one slice of a line, from element `k` on: the elements before one that fails are written and counted
(R190, R195). -/
def loadSlice (core q : Nat) (c : Cmd) (tag line base : Nat) (raw : Bool) (start stride : Int) (n k : Nat) (s : State) :
    Work :=
  let ks := (List.range (tagElements tag)).drop k
  let r := readUpTo (fun j => readPiece s core c tag base raw (start + j * stride)) ks
  let write (t : State) : State :=
    let t := touchWalks t c.span.part c.span.ctx (base :: r.1.flatMap (fun p => p.reads.map (·.2)))
    let t := r.1.foldl (fun t p => countAccess (touchAll t c.span.part false 1 p.reads) c.span.part c.span.ctx p.va 1 0) t
    countHead core q r.1.length (t.changeCore core (fun x => x.putPieces line n tag k r.1))
  match r.2 with
  | none => .performed (write s)
  | some (.ended t status va) => .ended (write t) status va
  | some (.stalled t va x kind) => .stalled (write t) va x kind
  | some x => x

/-- Load the slice of a line that the command has come to (R195). The model's choice: the lines come in order, of each its slices in
order, and of each slice its elements in order, which fixes what is performed before an element that fails (log 89). -/
def loadNext (core q : Nat) (raw scaled : Bool) (c : Cmd) (s : State) : Work :=
  let tag := c.head 4 4
  let per := 32 * tagElements tag
  let m := c.step / per
  let n := c.step % per / tagElements tag
  let line := c.head 8 12 + m
  let k := signedField (c.dword 2) 0 32
  let cs := signedField (c.dword 2) 32 32
  let start (n : Nat) : Int := n * cs + (m * tagElements tag : Nat) * k
  if 3071 < line then .ended s 5 none
  else if scaled && (k != 1 || (List.range 32).any (fun n => start n % 32 != 0)) then .ended s 4 (some (c.dword 1))
  else loadSlice core q c tag line (c.dword 1) raw (start n) k n (c.step % tagElements tag) s

/-- Go on with BLOAD (R195). Its count is in elements (R190). -/
def runBload (core q : Nat) (c : Cmd) (s : State) : Result :=
  let lines := c.head 20 12
  let total := lines * 32 * tagElements (c.head 4 4)
  if lines = 0 ∨ 3072 < lines then .next (endHead s core q 5 0 none)
  else
    match cmdAccess s c .load (c.dword 1) 1 with
    | .error e => settleWork core q c s (bloadEnd s core c (c.dword 1, e)) .next
    | .ok l =>
      if !sourceAccepted (c.head 4 4) l.efmt then .next (endHead s core q 4 c.step (some (c.dword 1)))
      else
        runWork core q (loadNext core q (l.efmt == 0) (l.bgeo == 1))
          (fun s => .next (endHead s core q 0 total none)) (32 * lines - c.step / tagElements (c.head 4 4)) s

/-! ### CBLD (R196) -/

/-- Whether every row of a codebook image has 0 in bits [63:33] (R127, R196). -/
def codebookOk (image : List Byte) : Bool := (List.range 512).all (fun r => field (fieldBytes image (8 * r) 8) 33 31 == 0)

/-- Read and check a codebook image; it takes effect at completion (R196). The manual names no failing address for an image
that does not fit, so it is left open (log 16). The count of its status is the model's choice: the 512 rows, or 0 (log 90). -/
def runCbld (core q : Nat) (c : Cmd) (s : State) : Result :=
  let va := c.dword 1
  if va % 4096 ≠ 0 then .next (endHead s core q 5 0 (some va))
  else
    let x := readRange s core c va 4096 (fun s image =>
      if codebookOk image then .performed (onHead s core q (fun k => { k with buffer := image })) else .ended s 4 none)
    settleWork core q c s x (fun s => .next (endHead s core q 0 512 none))

/-- Replace a codebook of a partition as one act (R196). -/
def putCodebook (s : State) (c : Cmd) : State :=
  let n := c.head 2 2
  setPart s c.span.part (fun p =>
    { p with codebooks := ssetFrom (sclear p.codebooks (4096 * n) (4096 * n + 4096)) (4096 * n) c.buffer })

/-! ### NWRI (R241, R242) -/

/-- The number of packets of an NWRI (R242). -/
def nwriPackets (length : Nat) : Nat := max 1 ((length + 8191) / 8192)

/-- Put a packet on a flow (R240, R241). -/
def putOnFlow (s : State) (part flow : Nat) (x : NetPacket) : State :=
  setPart s part (fun p => { p with flows := tmod p.flows flow (fun f =>
    { f with fields := { f.fields with psn := f.fields.psn + 1 }, unacked := f.unacked ++ [⟨s.cyc, s.cyc, some (40 + f.fields.ethPort), x⟩] }) })

/-- Send the next packet of an NWRI: up to 8,192 bytes, the last with the immediate; it waits while 8,192 packets of the
flow are unacknowledged (R241, R242). -/
def sendPacket (core q : Nat) (c : Cmd) (s : State) : Work :=
  let n := c.head 16 12
  let length := field (c.dword 3) 0 32
  match (match tget s.parts c.span.part with | some p => tget p.flows n | none => none) with
  | none => .ended s 5 none
  | some f =>
    if 8192 ≤ f.unacked.length then .waits
    else
      let off := 8192 * c.step
      let last := c.step + 1 = nwriPackets length
      readRange s core c ((c.dword 1 + off) % 2 ^ 64) (min 8192 (length - off)) (fun s bs =>
        let imm := if last then some (BitVec.ofNat 32 (field (c.dword 3) 32 32), c.head 32 6) else none
        let x := dataPacket f.fields ((c.dword 2 + off) % 2 ^ 64) bs imm
        .performed (onHead (putOnFlow s c.span.part n x) core q (fun k => { k with flow := some (n, f.fields.psn.toNat) })))

/-- Go on with an NWRI: its packets leave, and it ends when the acknowledgement of the last one arrives (R242). -/
def runNwri (core q : Nat) (c : Cmd) (s : State) : Result :=
  let length := field (c.dword 3) 0 32
  if 2 ^ 20 < length then .next (endHead s core q 5 0 none)
  else runWork core q (fun c s => (sendPacket core q c s).next (fun t => .performed (countHead core q 1 t))) .next
    (nwriPackets length - c.step) s

/-! ### MXLOOP (R181, R192, R193) -/

/-- Whether an MXLOOP's header fields are in range (R192). -/
def Cmd.loopOk (c : Cmd) : Bool :=
  decide (c.head 4 4 ≤ 5) && (c.head 16 3 == 0 || decide (4 ≤ c.head 16 3)) && decide (1 ≤ c.head 32 16)

/-- Whether a matrix access of a wave on a tile of a core is in page-fault service (R181). -/
def tileInService (s : State) (core z : Nat) : Bool :=
  s.allWaves.any (fun w => w.core == core && (match w.service with
    | some v => match v.req with | .mxldz k _ => k == z | .mxstz k _ => k == z | _ => false
    | none => false))

/-- Whether a K-step of a wave on a tile has not rounded (R181). -/
def tileStep (c : Core) (z : Nat) : Bool :=
  c.steps.any (fun x => x.slot == z) || c.flight.any (fun f => !f.loop && f.input.slot == z)

/-- Start an MXLOOP once every matrix instruction on its tile that was issued before its posting has completed (R181,
R192). -/
def startLoop (core q : Nat) (c : Cmd) (s : State) : Result :=
  if !c.loopOk then .next (endHead s core q 5 0 none)
  else if tileInService s core c.tile || tileStep (s.coreOf core) c.tile then .next s
  else .next (onHead s core q (fun k => { k with phase := .running }))

/-- Row `i` of an A operand in the scratchpad: K values of the pairing's size at byte 64i (R192). -/
def loopRow (fmt : Nat) (bytes : List Byte) (i : Nat) : List Nat :=
  let n := if stepK fmt = 32 then 2 else 1
  elementsOf n (stepK fmt) (bytes.drop (64 * i))

/-- The two positions of a group in a metadata row (R193). -/
def metaPair (row g : Nat) : Nat × Nat := (field row (4 * g) 2, field row (4 * g + 2) 2)

/-- Whether every group of a metadata entry that a step uses has i1 < i2 (R193). -/
def metaOk (fmt : Nat) (entry : List Byte) : Bool :=
  (List.range 32).all (fun i => (List.range (stepK fmt / 2)).all (fun g =>
    decide ((metaPair (fieldBytes entry (16 * i) 16) g).1 < (metaPair (fieldBytes entry (16 * i) 16) g).2)))

/-- A compressed row with the positions that its metadata row gives (R193). -/
def sparseRow (codes : List Nat) (row : Nat) : ARow :=
  codes.zipIdx.map (fun e =>
    let p := metaPair row (e.2 / 2)
    (4 * (e.2 / 2) + (if e.2 % 2 = 0 then p.1 else p.2), e.1))

/-- The rows of a step: dense, or sparse with the metadata entry it takes (R192, R193). -/
def loopRows (fmt : Nat) (bytes : List Byte) (entry : Option (List Byte)) : List ARow :=
  (List.range 32).map (fun i => match entry with
    | none => denseRow (loopRow fmt bytes i)
    | some e => sparseRow (loopRow fmt bytes i) (fieldBytes e (16 * i) 16))

/-- Take the oldest entry of a metadata queue. -/
def Core.takeMeta (c : Core) (n : Nat) : Core := { c with mdq := tset c.mdq n ((tgetD c.mdq n []).drop 1) }

/-- The matrix engine starts a K-step: the next may start 8 cycles later (R181). -/
def launchStep (core : Nat) (loop : Bool) (x : StepInput) (s : State) : State :=
  s.changeCore core (fun c => { c with
    flight := c.flight ++ [⟨loop, s.cyc, x⟩], lastLoop := loop, stepAt := s.cyc + nanosIn s core 8 })

/-- The K-step of an MXLOOP on A bytes and lines that have passed their range and tags (R180, R192, R193). -/
def loopCompute (core : Nat) (c : Cmd) (fmt : Nat) (lines : List Nat) (entry : Option (List Byte)) (s : State)
    (bytes : List Byte) : Work :=
  let k := s.coreOf core
  match poisonedWord k c.tile, lines.findSome? (poisonedSector k) with
  | some x, _ => poisonEnd s core c 4 (dieBank core) x none
  | none, some x => poisonEnd s core c 3 (dieBank core) x none
  | none, none =>
    let x : StepInput := ⟨0, c.span, c.tile, fmt, 0, loopRows fmt bytes entry, lines.map k.lineRead, false⟩
    .performed (onHead (launchStep core true x s) core 0 (fun k => { k with started := k.started + 1 }))

/-- Start the next K-step of an MXLOOP (R181, R192, R193): RANGE of the line, the offset or the allocation comes before the
FORMAT of a tag. The offset field is a multiple of 64; the increments are in bytes. The first failing address of a read outside the
allocation is its offset (log 91). -/
def loopStep (core : Nat) (c : Cmd) (s : State) : Work :=
  let fmt := c.head 4 4
  let sel := c.head 16 3
  let first := field (c.dword 1) 0 32
  let off := (first : Nat) + (c.started : Int) * signedField (c.dword 1) 32 32
  let line := (field (c.dword 2) 0 12 : Nat) + (c.started : Int) * signedField (c.dword 2) 16 16
  let lines := if sel = 0 then [line.toNat] else [line.toNat, line.toNat + 1]
  if off < 0 ∨ first % 64 ≠ 0 ∨ line < 0 ∨ lines.any (fun l => decide (3071 < l)) then .ended s 5 none
  else if !scratchHolds s c off.toNat 2048 then .ended s 5 (some off.toNat)
  else if lines.any (fun l => (refusedSlice (s.coreOf core) fmt l).isSome) then .ended s 4 none
  else if sel = 0 then readScratch s core c off.toNat 2048 (loopCompute core c fmt lines none s)
  else
    match tgetD (s.coreOf core).mdq (sel - 4) [] with
    | [] => .waits
    | e :: _ =>
      readScratch s core c off.toNat 2048 (fun bytes =>
        let t := s.changeCore core (fun k => k.takeMeta (sel - 4))
        if !metaOk fmt e then .ended t 4 none else loopCompute core c fmt lines (some e) t bytes)

/-- The running MXLOOP at the head of MXQ (R181). -/
def runningLoop (s : State) (core : Nat) : Option Cmd :=
  match headCmd s core 0 with
  | some c => if c.phase = .running ∧ c.stall = none then some c else none
  | none => none

/-- The next step of the MXLOOP at the head of MXQ, if it has one left that does not wait for its metadata (R181, R193). A
step that ends the command is left until the steps before it have rounded, as they are performed. -/
def loopReady (s : State) (core : Nat) : Option (Cmd × Work) :=
  match runningLoop s core with
  | none => none
  | some c =>
    if c.head 32 16 ≤ c.started then none
    else
      match loopStep core c s with
      | .waits => none
      | .performed t => some (c, .performed t)
      | x => if c.started = c.step then some (c, x) else none

/-- The step of the oldest waiting wave: its first in program order (R181). -/
def waveReady (c : Core) : Option StepInput :=
  c.steps.foldl (fun best x => match best with
    | some b => if x.wave < b.wave then some x else some b
    | none => some x) none

/-- Start a wave's step (R181). -/
def startWaveStep (core : Nat) (x : StepInput) (s : State) : State :=
  launchStep core false x (s.changeCore core (fun c => { c with steps := dropFirst (fun y => y == x) c.steps }))

/-- MATRIX_STEP_START (R181): at most one step every 8 cycles; of a wave's step and an MXLOOP's, the kind that did not start
the step before. -/
def execMatrixStepStart (core : Nat) (s : State) : Result :=
  let c := s.coreOf core
  if !coreRuns s core || decide (s.cyc < c.stepAt) then .next s
  else
    match waveReady c, loopReady s core with
    | none, none => .next s
    | some x, none => .next (startWaveStep core x s)
    | none, some (k, y) => settleWork core 0 k s y .next
    | some x, some (k, y) => if c.lastLoop then .next (startWaveStep core x s) else settleWork core 0 k s y .next

/-- An MXLOOP's step has rounded; with the last one the MXLOOP is done (R192). The count of its status is the model's choice: the
K-steps that have rounded (log 90). -/
def loopRounded (core : Nat) (s : State) : State :=
  match runningLoop s core with
  | none => s
  | some c =>
    let t := countHead core 0 1 s
    if c.step + 1 = c.head 32 16 then endHead t core 0 0 (c.step + 1) none else t

/-- A core after its oldest K-step in flight has rounded: into its tile, unless an MXZERO or MXLDZ of its wave has taken the tile's
place since (R181, R262). -/
def Core.roundStep (c : Core) (x : StepInput) (rest : List Flight) : Core :=
  { (if x.gone then c else c.putStep x.slot (c.rounded x)) with flight := rest }

/-- A wave one of whose K-steps on a tile rounds now: what reads the tile issues no earlier (R181). -/
def Wave.stepRounded (s : State) (z : Nat) (w : Wave) : Wave := w.note (.tile z) [] (w.present s - w.now) true

/-- MATRIX_STEP_ROUND (R181): the oldest step that has started rounds into its tile, 32 cycles after its start. -/
def execMatrixStepRound (core : Nat) (s : State) : Result :=
  match (s.coreOf core).flight with
  | [] => .next s
  | f :: rest =>
    if !coreRuns s core || decide (s.cyc < f.start + nanosIn s core 32) then .next s
    else
      let t := s.changeCore core (fun c => c.roundStep f.input rest)
      .next (if f.loop then loopRounded core t else t.changeWave f.input.wave (Wave.stepRounded s f.input.slot))

/-! ### Start and completion (R169, R190, R197) -/

/-- Whether the head of a queue may start: not held, behind no fence, its fault answered (R169, R191, R197). -/
def mayStart (k : Core) (c : Cmd) : Bool :=
  !c.held && !c.behind.any (fun n => k.fences.any (fun f => f.seq == n)) && c.stall.isNone

/-- Do a command's work by its function. -/
def runCmd (core q : Nat) (c : Cmd) (s : State) : Result :=
  match c.fn with
  | 0 => if c.phase = .waiting then startLoop core q c s else .next s
  | 1 => runCopy core q c s
  | 2 => runBload core q c s
  | 3 => runCbld core q c s
  | _ => runNwri core q c s

/-- Mark the head of a queue as running, except an MXLOOP, which its own start marks. -/
def markRunning (core q : Nat) (s : State) : State :=
  onHead s core q (fun k => if k.fn = 0 then k else { k with phase := .running })

/-- ENGINE_COMMAND_START (R169): a queue starts its next command that is not held, or goes on with one that has waited. -/
def execEngineCommandStart (core queue : Nat) (s : State) : Result :=
  match headCmd s core queue with
  | none => .next s
  | some c =>
    if !coreRuns s core || !mayStart (s.coreOf core) c then .next s
    else
      match c.phase with
      | .finished _ _ _ => .next s
      | _ =>
        if c.chain then .next (endHead s core queue 8 0 none)
        else if !c.reservedOk then .next (endHead s core queue 5 0 none)
        else runCmd core queue c (markRunning core queue s)

/-- The oldest wave that waits to post to a queue of a core. -/
def firstPoster (s : State) (core q : Nat) : Option Wave :=
  firstWaiting s (fun w => match w.wait with
    | .posting k _ _ _ _ n => if w.resident ∧ w.core = core ∧ k = q then some n else none
    | _ => none)

/-- A queue has room again: the oldest wave that waits for it posts (R189). -/
def admitPoster (s : State) (core q : Nat) : State :=
  if !queueRoom s core q then s
  else
    match firstPoster s core q with
    | some w =>
      match w.wait with
      | .posting _ fn t desc succ _ => acceptWaiting (s.changeWave w.id (wake s)) w q fn t desc succ
      | _ => s
    | none => s

/-- Report the completion of the command at the head of a queue: steps of an MXLOOP that ended early go with it; its record is kept, its
claimed successor and the fences follow, a waiting wave posts, and its block may be over (R169, R190, R196, R197, R285, R299). -/
def completeHead (core q : Nat) (c : Cmd) (status count : Nat) (va : Option Nat) (s : State) : State :=
  let s := if c.fn = 3 ∧ status = 0 then putCodebook s c else s
  let s := s.changeCore core (fun k =>
    let k := if q = 0 then k.dropLoopSteps else k
    let k := (((k.setQueue q ((k.queue q).drop 1)).note ⟨q, c.seq, status, count, va⟩).release c.succ (status == 0))
    k.settleFences k.fences.length)
  let s := sampleSource s c.span.part 1 (s.cyc - c.posted)
  closeBlock (admitPoster s core q) c.span c.block

/-- ENGINE_COMMAND_COMPLETE (R190): the finished command at the head of a queue is reported, once its reflected writes are
performed at their receivers (R169, R170). -/
def execEngineCommandComplete (core queue : Nat) (s : State) : Result :=
  match headCmd s core queue with
  | none => .next s
  | some c =>
    match c.phase with
    | .finished status count va =>
      if !coreRuns s core || inFlight s c.span.part (commandSender (cmdToken core queue c.seq)) then .next s
      else .next (completeHead core queue c status count va s)
    | _ => .next s

end Sys2Proof.Machine
end

