-- ==== Sys2Proof/Machine/Errors.lean ====
section
/-!
DEFINITION. Errors as the arrays detect them, the HBM patrol, and the relaunch of killed spans (R264 to R276).
-/

namespace Sys2Proof.Machine

open Sys2Proof

/-! ### Detected errors (R264, R269, R271) -/

/-- The number of error banks (R265). -/
abbrev bankCount : Nat := 22

/-- The register of a wave that a unit belongs to, and its place there. -/
def unitRegister : PoisonUnit → Option (RegId × Nat)
  | .element _ r l => some (.v r, l)
  | .scalar _ r => some (.s r, 0)
  | .mask _ r => some (.m r, 0)
  | .translation _ r => some (.a r, 0)
  | .csr _ n => some (.csr n, 0)
  | _ => none

/-- The results that are not yet readable, with what a register holds until then poisoned as well (R264; log 73). -/
def poisonOld (u : PoisonUnit) (pend : List Pend) : List Pend :=
  match unitRegister u with
  | some (r, k) => pend.map (fun e => if e.reg = r then { e with bad := sset e.bad k 1 } else e)
  | none => pend

/-- A checkpoint with one of its registers' units poisoned (R264). -/
def Checkpoint.poison (u : PoisonUnit) (c : Checkpoint) : Checkpoint :=
  let c := { c with pend := poisonOld u c.pend }
  match u with
  | .element _ r l => { c with poisonV := sset c.poisonV (64 * r + l) 1 }
  | .scalar _ r => { c with poisonS := sset c.poisonS r 1 }
  | .mask _ r => { c with poisonM := sset c.poisonM r 1 }
  | .translation _ r => { c with poisonA := sset c.poisonA r 1 }
  | .csr _ n => { c with poisonC := sset c.poisonC n 1 }
  | _ => c

/-- A wave with one of its registers' units poisoned, in what it keeps for a squash as well: a value that comes back is not
good again (R264; log 73). -/
def Wave.poison (w : Wave) (u : PoisonUnit) : Wave :=
  let w := { w with
    pend := poisonOld u w.pend,
    service := w.service.map (fun v => { v with before := v.before.poison u }),
    fuse := w.fuse.map (fun f => { f with before := f.before.poison u }) }
  match u with
  | .element _ r l => { w with poisonV := sset w.poisonV (64 * r + l) 1 }
  | .scalar _ r => { w with poisonS := sset w.poisonS r 1 }
  | .mask _ r => { w with poisonM := sset w.poisonM r 1 }
  | .translation _ r => { w with poisonA := sset w.poisonA r 1 }
  | .csr _ n => { w with poisonC := sset w.poisonC n 1 }
  | _ => w

/-- Poison a unit (R264). A block of a core is named by the base of its allocation. -/
def poisonUnit (s : State) (u : PoisonUnit) : State :=
  match u with
  | .element w _ _ => s.changeWave w (fun x => x.poison u)
  | .scalar w _ => s.changeWave w (fun x => x.poison u)
  | .mask w _ => s.changeWave w (fun x => x.poison u)
  | .translation w _ => s.changeWave w (fun x => x.poison u)
  | .csr w n =>
    match ownerCsr n, s.findWave w with
    | some z, some x => s.changeCore x.core (fun c => { c with poisonO := sset c.poisonO z 1 })
    | some _, none => s
    | none, _ => s.changeWave w (fun x => x.poison u)
  | .scratch core block sector =>
    let here (b : Block) : Bool := b.core == core && b.sbase == block && !b.ended && decide (32 * sector < b.size)
    let bs := modFirst here (fun b => { b with poison := sset b.poison sector 1 }) s.blocks
    { s with blocks := bs }
  | .tileSector core line slice half =>
    s.changeCore core (fun c => { c with poisonT := sset c.poisonT ((line * 32 + slice) * 2 + half) 1 })
  | .tileWord core slot word =>
    s.changeCore core (fun c => { c with poisonZ := sset c.poisonZ (1024 * slot + word) 1 })
  | .sector pa => poisonSector s pa
  | .none => s

/-- Where a unit of a core lies, as ERRLOC names it: core, quad, lane and UNIT (R267). -/
def unitPlace (s : State) (u : PoisonUnit) : Option ErrLoc :=
  let ofWave (id lane unit : Nat) : Option ErrLoc := (s.findWave id).map (fun w => ⟨w.core, w.quad, lane, unit, 0, 0⟩)
  match u with
  | .element w _ l => ofWave w l 0
  | .scalar w _ => ofWave w 0 1
  | .mask w _ => ofWave w 0 1
  | .translation w _ => ofWave w 0 1
  | .csr w _ => ofWave w 0 1
  | .scratch core _ _ => some ⟨core, 0, 0, 2, 0, 0⟩
  | .tileSector core _ _ _ => some ⟨core, 0, 0, 3, 0, 0⟩
  | .tileWord core _ _ => some ⟨core, 0, 0, 4, 0, 0⟩
  | .sector _ => none
  | .none => none

/-- ERRLOC of a detected error, which nothing has consumed: PART and CTX are 0 (R267). A sector is detected in the bank array of a
die or in its HBM stack. -/
def errorPlace (s : State) (d : Detected) : ErrLoc :=
  match unitPlace s d.unit, d.unit with
  | some loc, _ => loc
  | none, .sector _ => ⟨0, 0, 0, if d.bank < 8 then 5 else 6, 0, 0⟩
  | none, _ => { d.loc with part := 0, ctx := 0 }

/-- Whether an error is detected in the bank that serves its unit: the die of a core's arrays, a die's banks of the bank array or
the stack of a sector (R265). -/
def errorFits (s : State) (d : Detected) : Bool :=
  decide (d.bank < bankCount) &&
  (match unitPlace s d.unit, d.unit with
   | some loc, _ => d.bank == dieBank loc.core
   | none, .sector pa => decide (d.bank < 8) || d.bank == hbmBank pa
   | none, .none => true
   | none, _ => false)

/-- ERRADDR of a detected error: the sector, or the array index that the array reports (R267). -/
def errorAddr (d : Detected) : Nat := match d.unit with | .sector pa => pa / 32 * 32 | _ => d.addr

/-- Whether a detected error is applied before another of its cycle: by CORE, then by UNIT (R269). -/
def errorBefore (s : State) (d e : Detected) : Bool :=
  let a := errorPlace s d
  let b := errorPlace s e
  decide (a.core < b.core) || (a.core == b.core && decide (a.unit < b.unit))

/-- Put a detected error into its place among those of its cycle. -/
def insertDetected (s : State) (d : Detected) : List Detected → List Detected
  | [] => [d]
  | e :: es => if errorBefore s d e then d :: e :: es else e :: insertDetected s d es

/-- One detected error: a corrected one is counted; an uncorrectable one poisons its unit, and makes a LATENT record unless its
consumer is what meets it first, which then makes the record (R264, R269, R271). -/
def applyDetected (s : State) (d : Detected) : State :=
  if d.corrected then recordCorrected s d.bank 1 (errorPlace s d) (errorAddr d)
  else if d.met then poisonUnit s d.unit
  else recordUncorrected (poisonUnit s d.unit) d.bank 3 (errorPlace s d) (errorAddr d) 0

/-- The errors detected in one cycle, behind the clears of banks in that cycle, in the order of R269. -/
def detect (clears : List Nat) (errors : List Detected) (s : State) : State :=
  let s := clears.foldl (fun s bank => clearBank bank (1#64 <<< 63) s) s
  ((errors.filter (errorFits s)).foldl (fun l d => insertDetected s d l) []).foldl applyDetected s

/-- CORRECTED_ERROR (R269): CECNT rises, and an empty bank takes the record. -/
def execCorrectedError (clears : List Nat) (errors : List Detected) (s : State) : Result :=
  .next (detect clears (errors.filter (·.corrected)) s)

/-- UNCORRECTABLE_ERROR (R269, R271): the unit is poisoned, and a LATENT record is made where nothing consumes it. Errors
corrected in the same cycle are applied with it. -/
def execUncorrectableError (clears : List Nat) (errors : List Detected) (s : State) : Result := .next (detect clears errors s)

/-! ### The HBM patrol (R272) -/

/-- ERRLOC of the HBM patrol, which is no consumer (R267). -/
def patrolLoc : ErrLoc := ⟨0, 0, 0, 6, 0, 0⟩

/-- PATROL_SCRUB (R272): a correctable error is corrected and counted; an uncorrectable one poisons the sector and makes a
PATROL record. A sector already poisoned is not poisoned anew. -/
def execPatrolScrub (pa : Nat) (found : PatrolResult) (s : State) : Result :=
  let addr := pa / 32 * 32
  if 0x9000000000 ≤ pa then .next s
  else
    match found with
    | .clean => .next s
    | .corrected => .next (recordCorrected s (hbmBank pa) 1 patrolLoc addr)
    | .uncorrectable =>
      if sectorPoisoned s pa then .next s
      else .next (recordUncorrected (poisonSector s pa) (hbmBank pa) 4 patrolLoc addr 0)

/-! ### Relaunch (R275, R276) -/

/-- The killed spans that are launched again together: the span, or all the spans of its GBAR grid (R276). -/
def relaunchGroup (s : State) (id : SpanId) : List SpanId :=
  (s.spans.filter (fun x => x.phase == .killed && (x.id == id || ((gridLaunch s id).isSome && sameGrid id x.id)))).map (·.id)

/-- A killed span as it waits for its new bind records: no frame, no channel, replayable again as at its start (R274,
R275). -/
def Span.again (nonreplay : Bool) (x : Span) : Span :=
  { x with phase := .again, relaunched := x.relaunched + 1, replayable := !nonreplay, frame := none, channels := [] }

/-- SPAN_RELAUNCH (R275): a killed replayable span is to be launched again from its launch record. -/
def execSpanRelaunch (span : SpanId) (s : State) : Result :=
  let nonreplay := match s.launchOf span with | some l => l.nonreplay | none => true
  .next ((relaunchGroup s span).foldl (fun s id => s.changeSpan id (Span.again nonreplay)) s)

end Sys2Proof.Machine
end

