-- ==== Sys2Proof/Machine/Remote.lean ====
section
/-!
DEFINITION. Remote stores and remote atomics on the initiating side (R234 to R236, R315, R316).
-/

namespace Sys2Proof.Machine

open Sys2Proof

/-- Device, entry and slot of a peer value (R234). -/
def peerDevice (x : Word64) : Nat := field x.toNat 0 8
/-- What a lane of RST or RATOM meets, in the order of R235: a REMOTE_FAULT by cause and device, or a cause of R155 at an
address. -/
inductive PeerStop where
  | remote (cause device : Nat)
  | access (va : Nat) (c : Cause)
  deriving DecidableEq, Repr

/-- The first check of R235 that a lane fails. -/
def peerStop (s : State) (w : Wave) (atomic : Bool) (r : PeerLane) : Option PeerStop :=
  let x := r.peer
  if x &&& ~~~0x3F3FFF#64 ≠ 0 ∨ (!atomic && peerSlot x != 0) then some (.remote 1 0)
  else
    match ratEntry s w.span.part (peerEntry x) with
    | none => some (.remote 2 (peerDevice x))
    | some e =>
      if !reachable s (peerDevice x) then some (.remote 3 (peerDevice x))
      else if r.off % 4 ≠ 0 then some (.access ((e.w1.toNat + r.off) % 2 ^ 64) .align)
      else if field e.w2.toNat 0 32 < r.off + 4 then some (.remote 4 (peerDevice x))
      else if atomic then
        let va := replyWord e (peerSlot x) r.lane
        match access s w.span.part w.span.ctx .store va 4 with
        | .error c => some (.access va c)
        | .ok _ => none
      else none

/-- Whether a failed check is a resolvable cause, which no trap reports (R156). -/
def PeerStop.resolvable : PeerStop → Bool
  | .access _ c => c.category == 3
  | _ => false

/-- The failed check that is reported: the lowest lane's that traps, or else the lowest lane's (R235, R155). -/
def reportedPeer (cs : List (Nat × PeerStop)) : Option (Nat × PeerStop) :=
  match cs.find? (fun e => !e.2.resolvable) with
  | some e => some e
  | none => cs.head?

/-- Insert a number into a rising list without repeats. -/
def insertRising (x : Nat) : List Nat → List Nat
  | [] => [x]
  | y :: ys => if x < y then x :: y :: ys else if x = y then y :: ys else y :: insertRising x ys

/-- The distinct peer values of the lanes, ascending (R235). -/
def peerGroups (lanes : List PeerLane) : List Nat := lanes.foldl (fun gs r => insertRising r.peer.toNat gs) []

/-- The lanes of a group. -/
def groupOf (lanes : List PeerLane) (x : Nat) : List PeerLane := lanes.filter (fun r => r.peer.toNat == x)

/-- The request of a group: its destination addresses and operands (R235). -/
def groupPayload (s : State) (w : Wave) (atomic : Bool) (rop token x : Nat) (lanes : List PeerLane) : Payload :=
  match ratEntry s w.span.part (field x 8 6) with
  | none => .remoteStore 0 [] (waveSender w.id)
  | some e =>
    let ls := (groupOf lanes x).map (fun r => (⟨r.lane, (e.w1.toNat + r.off) % 2 ^ 64, r.data⟩ : RemoteLane))
    let asid := field e.w0.toNat 16 9
    if atomic then .remoteAtomic asid rop ls (waveSender w.id) token x w.span.ctx
    else .remoteStore asid ls (waveSender w.id)

/-- Send the request of a group on its path (R228, R235). -/
def sendGroup (w : Wave) (atomic : Bool) (rop token : Nat) (lanes : List PeerLane) (s : State) (x : Nat) : State :=
  sendOn s ⟨field x 0 8, w.span.part, 256 + field x 8 6, false⟩ (groupPayload s w atomic rop token x lanes)

/-- The token of a wave's RATOM (R190, R236). -/
def ratomToken (core seq : Nat) : Word64 := BitVec.ofNat 64 (core + 6 * 2 ^ 9 + seq % 2 ^ 32 * 2 ^ 16)

/-- A wave has issued a RATOM: its token waits for every group (R236, R316). -/
def Wave.noteRatom (w : Wave) (lanes : List PeerLane) : Wave :=
  { w with
    ratoms := w.ratoms + 1,
    tokens := tset w.tokens w.ratoms ((peerGroups lanes).map (fun x =>
      ⟨x, field x 0 8, maskOf ((groupOf lanes x).map (·.lane)), none, 0⟩)) }

/-- Perform RST or RATOM (R235, R236, R274): every request leaves, and RATOM gives its token, readable after 1 beat. -/
def tryRemote (late : Bool) (i : Instr) (atomic : Bool) (rop : Nat) (lanes : List PeerLane) (s : State) : Attempt :=
  let w := s.wave
  let found := lanes.filterMap (fun r => (peerStop s w atomic r).map (fun x => (r.lane, x)))
  match reportedPeer found with
  | some (lane, .remote cause device) => .refused (trapOf i 0x15 (laneMask lane) 0 [cause, lane, device, 0])
  | some (lane, .access va c) => .stopped (lane, va, c)
  | none =>
    let s := (peerGroups lanes).foldl (sendGroup w atomic rop w.ratoms lanes)
      (clearReplay ((MemReq.remote atomic rop lanes).walks s) w.span)
    if atomic then
      .performed (s.onWave (fun w =>
        (w.putS 30 (ratomToken w.core w.ratoms) (latency late (s.passes w)) false).noteRatom lanes))
    else .performed s

/-- The lanes of RST and RATOM, with the peer value of each (R235). -/
def peerLanes (w : Wave) (m : BitVec 3) (v : BitVec 1) (p o d : BitVec 5) : List PeerLane :=
  (lanesOf (w.lanes m.toNat)).map (fun l =>
    ⟨l, if v = 0 then w.sval p.toNat else (w.vval p.toNat l).setWidth 64, (w.vval o.toNat l).toNat, w.vval d.toNat l⟩)

/-- The issue slot of the wave's quad is taken for further cycles (R316). -/
def holdSlot (extra : Nat) (s : State) : State :=
  let q := 4 * s.wave.core + s.wave.quad
  { s with quads := tset s.quads q (tgetD s.quads q 0 + extra) }

/-- RST and RATOM after the gate: one issue beat for each distinct peer group (R316). -/
def remote (i : Instr) (atomic : Bool) (rop : Nat) (mask : Word64) (lanes : List PeerLane) (s : State) : Result :=
  let w := s.wave
  let extra := ((peerGroups lanes).length - 1) * s.passes w
  conclude i (.remote atomic rop lanes) mask (fun t => .next (holdSlot extra (retire i extra none w t)))
    (tryRemote false i atomic rop lanes s) s

/-- RST (R315). -/
def execRst (m : BitVec 3) (v : BitVec 1) (p o d : BitVec 5) (st : BitVec 3) (s : State) : Result :=
  gate (.rst m v p o d st) s (fun s =>
    remote (.rst m v p o d st) false 0 (s.wave.lanes m.toNat) (peerLanes s.wave m v p o d) s)

/-- RATOM (R315). -/
def execRatom (m : BitVec 3) (r : BitVec 2) (v : BitVec 1) (p o d : BitVec 5) (st : BitVec 3) (s : State) : Result :=
  gate (.ratom m r v p o d st) s (fun s =>
    remote (.ratom m r v p o d st) true r.toNat (s.wave.lanes m.toNat) (peerLanes s.wave m v p o d) s)

end Sys2Proof.Machine
end

