-- ==== Sys2Proof/Machine/Replay.lean ====
section
/-!
DEFINITION. What happens to a wave without an issue of its own: the replay of an instruction in page-fault service, the
delivery of a trap that waited, and the end of a sleep or of a promise (R156, R160, R302, R332, R337).
-/

namespace Sys2Proof.Machine

open Sys2Proof

/-! ### Replays (R156, R189) -/

/-- The attempt of a logged instruction, every lane translated again (R156). ERET's frame is read when ERET executes again,
and an ENG instruction is replayed by `replayPost`. -/
def replayAttempt (v : Service) (s : State) : Attempt :=
  match v.req with
  | .vload d n t lanes => tryVload true d n t lanes s
  | .vloadE d t lanes => tryVloadE true d t lanes s
  | .vstore n t lanes => tryVstore n t lanes s
  | .vstoreE t lanes => tryVstoreE t lanes s
  | .atom d aop t lanes => tryAtom true d aop t lanes s
  | .red aop t lanes => tryRed aop t lanes s
  | .sload d va => trySload true d va.toNat s
  | .sstore va x => trySstore va.toNat x s
  | .qlock va => tryQlock v.instr va.toNat s
  | .qunlock va => tryQunlock v.instr va.toNat s
  | .mxldz z va => tryMxldz z va.toNat s
  | .mxstz z va => tryMxstz z va.toNat s
  | .post _ _ _ _ => .performed s
  | .seal va => trySeal v.instr va.toNat s
  | .xfer cross t lanes => tryXfer v.instr cross t lanes s
  | .remote atomic rop lanes => tryRemote true v.instr atomic rop lanes s
  | .frame _ => .performed s

/-- The wave as before its logged instruction issued: younger instructions are squashed (R156, R337). -/
def Wave.rewind (v : Service) (w : Wave) : Wave :=
  { w.restore v.before with
      service := none, trap := none, fuse := none, inWait := false, issued := false, wait := .running }

/-- The state with the issuing wave rewound to before its logged instruction. -/
def rewound (v : Service) (s : State) : State := s.onWave (fun w => w.rewind v)

/-- A declined fault: the instruction raises PAGE_FAULT with state as before it issued (R156). -/
def declineService (v : Service) (s : State) : Result :=
  raise (pageFault v.instr v.req.treg v.mask v.sources v.lane v.va.toNat v.cause) (rewound v s)

/-- A replay meets a cause: a resolvable one is reported anew, any other traps as at issue (R155, R156). -/
def replayMeet (v : Service) (c : LaneCause) (s : State) : Result :=
  let w := s.wave
  match c.2.2 with
  | .device pa => .fault (.deviceRegister pa)
  | .poison pa => .next (consumeSector (rewound v s) (rewound v s).wave pa (laneMask c.1))
  | x =>
    if x.category = 3 then
      let r := pageRequest s w.span.part w.span.ctx c.2.1 x.code v.req.kind (.wave w.id)
      let v' := { v with fault := r.2.1, lane := c.1, va := BitVec.ofNat 64 c.2.1, cause := x.code }
      if r.2.2 then .next (r.1.onWave (fun w => { w with service := some v' })) else declineService v' r.1
    else raise (causeTrap v.instr v.req.treg v.mask v.sources c) (rewound v s)

/-- A replay has been performed while its wave stands in a fused sequence: a trap inside the sequence must not undo it, so it
is performed on the state before the sequence as well (R133, R156). -/
def renewFuse (again : State → Option State) (s t : State) : State :=
  match s.wave.fuse with
  | none => t
  | some f =>
    match again (s.onWave (fun w => { w.restore f.before with fuse := none })) with
    | some u => t.onWave (fun w => { w with fuse := some { f with before := u.wave.checkpoint } })
    | none => t

/-- The state of a performed attempt. -/
def Attempt.state : Attempt → Option State
  | .performed t => some t
  | _ => none

/-- A wave whose strongly ordered store is on its way to another device goes on once that is performed there (R168). -/
def holdReflected (v : Service) (s : State) : State :=
  if v.req.strong s s.wave && waveInFlight s s.wave.span.part s.wave.id && s.wave.wait matches .running | .retryService then
    sleepOn (.retryReflected false) s
  else s

/-- The outcome of a replay. -/
def replayConclude (v : Service) (a : Attempt) (s : State) : Result :=
  match a with
  | .performed t =>
    if afterReflected v.instr v.req s then .next s
    else
      .next (holdReflected v ((renewFuse (fun s => (replayAttempt v s).state) s t).onWave (fun w => { w with service := none })))
  | .spoilt lanes => .next (consumeElements (rewound v s) (rewound v s).wave lanes)
  | .stopped c => replayMeet v c (v.req.stops c s)
  | .poisoned pa lanes =>
    let s := rewound v (v.req.walks s)
    .next (consumeSector s s.wave pa lanes)
  | .refused t => raise t (rewound v (v.req.walks s))

/-- The command of a replayed ENG instruction is accepted (R189). -/
def replayAccept (fn t : Nat) (va : Word64) (desc : List Byte) (pieces : List (Leaf × Nat)) (succ : Option Word64) (s : State) :
    State :=
  let s := (notePost fn desc (countDesc s s.wave fn va.toNat pieces)).onWave (Wave.perform s 0)
  let take (s : State) : State := accept s (queueOf fn desc) fn t desc succ 0
  (renewFuse (fun s => some (take s)) s (take s)).onWave (fun w => { w with service := none })

/-- Replay an ENG instruction from its descriptor read, the wait for queue space included (R168, R189). -/
def replayPost (v : Service) (fn t : Nat) (va : Word64) (succ : Option Word64) (s : State) : Result :=
  if afterReflected v.instr v.req s then .next s else
  let w := s.wave
  match readDesc s w fn va.toNat with
  | .stopped c => replayMeet v c (v.req.stops c s)
  | .poisoned pa =>
    let s := rewound v (v.req.walks s)
    .next (consumeSector s s.wave pa 0)
  | .got desc pieces =>
    let z := field (fieldBytes desc 0 8) 8 6
    let t' := v.req.walks s
    let act : Result := .next (if queueRoom s w.core (queueOf fn desc) then replayAccept fn t va desc pieces succ t' else t')
    if fn = 0 then
      match ownership s w z with
      | .trap => raiseOwner v.instr z (rewound v t')
      | .wait => .next t'
      | .poisoned => .next (consumeRegister (rewound v t') (rewound v t').wave)
      | .granted => act
    else act

/-- Replay MXLDZ or MXSTZ: the owner is checked again before it acts (R187). -/
def replayTile (v : Service) (z : Nat) (store : Bool) (s : State) : Result :=
  let w := s.wave
  match ownership s w z with
  | .trap => raiseOwner v.instr z (rewound v s)
  | .wait => .next s
  | .poisoned => .next (consumeRegister (rewound v s) (rewound v s).wave)
  | .granted =>
    match replayAttempt v s, (if store then poisonedWord (s.coreOf w.core) z else none) with
    | .performed _, some k =>
      let s := rewound v (v.req.walks s)
      .next (consume s s.wave 4 (dieBank w.core) k 0)
    | a, _ => replayConclude v a s

/-- The issuing wave's logged instruction replays (R156). -/
def replayNow (v : Service) (s : State) : Result :=
  if v.declined then declineService v s
  else
    match v.req with
    | .post fn t va succ => replayPost v fn t va succ s
    | .mxldz z _ => replayTile v z false s
    | .mxstz z _ => replayTile v z true s
    | _ => replayConclude v (replayAttempt v s) s

/-- Whether a page request of a partition is still open. -/
def faultOpen (s : State) (part id : Nat) : Bool :=
  match tget s.parts part with
  | some p => p.faults.any (fun f => f.id == id)
  | none => false

/-- INSTRUCTION_REPLAY (R156): a wave's logged instruction replays once its fault has been answered, while its island runs (R12,
R15). -/
def execInstructionReplay (wave : Nat) (s : State) : Result :=
  match s.findWave wave with
  | none => .next s
  | some w =>
    match w.service with
    | none => .next s
    | some v => if w.resident && coreRuns s w.core && !faultOpen s w.span.part v.fault then replayNow v (focus s wave) else .next s

/-- The fault of a wave has been declined (R156, R251): it traps, or, while it is out or its island does not run, with its replay
(R15, R88). -/
def declineWave (wave fault : Nat) (s : State) : Result :=
  match s.findWave wave with
  | none => .next s
  | some w =>
    match w.service with
    | none => .next s
    | some v =>
      if v.fault ≠ fault then .next s
      else if w.resident && coreRuns s w.core then declineService v (focus s wave)
      else .next (s.changeWave wave (fun w => { w with service := some { v with declined := true } }))

/-! ### Traps that waited (R302, R337) -/

/-- TRAP_DELIVERY (R302): a trap that stood behind an instruction in page-fault service is delivered once that has
completed, or behind what is on its way to other devices (R168), while its island runs (R12, R15). -/
def execTrapDelivery (wave : Nat) (s : State) : Result :=
  match s.findWave wave with
  | none => .next s
  | some w =>
    match w.trap with
    | none => .next s
    | some t => if w.resident && coreRuns s w.core && w.service.isNone then deliver t (focus s wave) else .next s

/-! ### Sleeps and promises (R160, R332) -/

/-- SLEEP_EXPIRY (R332): a sleeping wave becomes eligible once CYC has reached its target. -/
def execSleepExpiry (wave : Nat) (s : State) : Result :=
  match s.findWave wave with
  | none => .next s
  | some w =>
    match w.wait with
    | .sleeping t => if t ≤ s.cyc then .next (s.changeWave wave (wake s)) else .next s
    | _ => .next s

/-- The wave as it issues again now: its next issue cycle follows from the present CYC. -/
def Wave.resumed (s : State) (w : Wave) : Wave := { wake s w with now := (wake s w).readyAt }

/-- CPWAIT_PROMISE_EXPIRY (R160): CYC has reached the promise and the command has not completed: COPY_LATE. -/
def execCpwaitPromiseExpiry (wave : Nat) (s : State) : Result :=
  match s.findWave wave with
  | none => .next s
  | some w =>
    match w.wait with
    | .retryToken token (some promise) =>
      if w.resident && coreRuns s w.core && decide (promise ≤ s.cyc) && tokenPending s w token then
        match instrAt s w w.pc.toNat with
        | some i =>
          let t := (focus s wave).onWave (fun w => w.resumed s)
          raise (lateTrap i t token) { t with fresh := t.fresh + 1 }
        | none => .next s
      else .next s
    | _ => .next s

end Sys2Proof.Machine
end

