-- ==== Sys2Proof/Machine/Fabric.lean ====
section
/-!
DEFINITION. The scale-up fabric: links, paths and their acknowledgements, what arrives on a path, and the combining buffer
(R171, R216, R217, R223 to R238).
-/

namespace Sys2Proof.Machine

open Sys2Proof

/-! ### Links (R224, R225) -/

/-- Change the fabric. -/
def onFabric (s : State) (f : Fabric → Fabric) : State := { s with fabric := f s.fabric }

/-- What this device knows of a direct link that has brought no flit yet. -/
def LinkState.idle : LinkState := ⟨0, 0, none⟩

/-- A direct link as this device receives on it. -/
def linkState (s : State) (seat : Nat) : LinkState := tgetD s.fabric.links seat LinkState.idle

/-- A direct link after a flit: failures of the CRC are counted one after another, and the time since which flits have come without
fail and without a gap of 10 us is kept (R225). The model's choices, where the rule is silent (log 96): a flit that fails its CRC still
is a flit received, so that the 10 us start anew at it; and the 1 ms for which a link must have stayed up starts anew at every flit that
fails its CRC and at every gap of 10 us. -/
def LinkState.flitAt (cyc : Nat) (crcOk : Bool) (x : LinkState) : LinkState :=
  if crcOk then ⟨0, cyc, if x.since.isSome && decide (cyc < x.flit + 10000) then x.since else some cyc⟩
  else ⟨x.fails + 1, cyc, none⟩

/-- Whether a direct link is to be declared down: 16 flits in succession have failed their CRC, or none has come for 10 us
(R225). -/
def LinkState.failed (cyc : Nat) (x : LinkState) : Bool := decide (16 ≤ x.fails) || decide (x.flit + 10000 ≤ cyc)

/-- Whether a direct link has stayed up for 1 ms (R225). -/
def LinkState.steady (cyc : Nat) (x : LinkState) : Bool :=
  !x.failed cyc && (match x.since with | some t => decide (t + 1000000 ≤ cyc) | none => false)

/-- FABRIC_LINK_DOWN (R225). The device has no direct link to its own seat. -/
def execFabricLinkDown (seat : Nat) (s : State) : Result :=
  .next (if seat < 16 ∧ !s.fabric.down.contains seat ∧ (linkState s seat).failed s.cyc then
      onFabric s (fun f => { f with down := f.down ++ [seat] }) else s)

/-- FABRIC_LINK_RESTORE (R225): a link that has stayed up for 1 ms is used again. -/
def execFabricLinkRestore (seat : Nat) (s : State) : Result :=
  .next (if (linkState s seat).steady s.cyc then onFabric s (fun f => { f with down := f.down.filter (· != seat) }) else s)

/-- UPLINK_DOWN (R224). -/
def execUplinkDown (link : Nat) (s : State) : Result :=
  .next (if link < 16 ∧ !s.fabric.upDown.contains link then onFabric s (fun f => { f with upDown := f.upDown ++ [link] }) else s)

/-- UPLINK_UP (R224). -/
def execUplinkUp (link : Nat) (s : State) : Result :=
  .next (onFabric s (fun f => { f with upDown := f.upDown.filter (· != link) }))

/-! ### The sending side of a path (R227, R228, R233) -/

/-- Change the sending side of a path. -/
def onOut (s : State) (key : PathKey) (f : OutPath → OutPath) : State :=
  onFabric s (fun x => { x with outs := modFirst (fun o => o.key == key) f x.outs })

/-- The packets of a path that are not acknowledged. -/
def unackedOn (s : State) (key : PathKey) : List (Sent Packet) :=
  match s.fabric.outs.find? (fun o => o.key == key) with
  | some o => o.unacked
  | none => []

/-- Whether a sequence number lies before another, modulo 2^32. -/
def seqBefore (a b : BitVec 32) : Bool := (a - b).getLsbD 31

/-- Whether a bitmap shows a packet missing: the expected one, and every one below the highest packet held (R227). Bit `i`
is the packet `i + 1` beyond the expected one. -/
def shownMissing (next : BitVec 32) (held : Word64) (seq : BitVec 32) : Bool :=
  let d := (seq - next).toNat
  if d = 0 then held != 0
  else decide (d ≤ 64) && !held.getLsbD (d - 1) && (lanesOf held).any (fun i => decide (d - 1 < i))

/-- A packet that is sent again now, on the link that its route then takes (R225, R227). -/
def Sent.again {α : Type} (cyc : Nat) (via : Option Nat) (x : Sent α) : Sent α := { x with last := cyc, via := via }

/-- Raise REFLECT_LOST at the source of a path: number, destination, VA, image VA, count (R233). -/
def lostAtSource (s : State) (key : PathKey) (va image count : Nat) : State :=
  reflectLost s key.part key.peer key.number va image count

/-- An acknowledgement of a path of this device (R227, R233): acknowledged packets leave the path, those shown missing are sent again,
and a report of discarded stores raises REFLECT_LOST. -/
def acknowledge (path : PathKey) (n : BitVec 32) (held : Word64) (lost : Option (Nat × Nat × Nat)) (s : State) : State :=
  let acked := (unackedOn s path).filter (fun k => seqBefore k.packet.seq n)
  let s := acked.foldl (fun s k => sampleSource s path.part 2 (s.cyc - k.first)) s
  let s := onOut s path (fun o => { o with
    unacked := (o.unacked.filter (fun k => !seqBefore k.packet.seq n)).map (fun k =>
      if shownMissing n held k.packet.seq then k.again s.cyc (routeOf s path) else k) })
  match lost with
  | some (va, image, count) => lostAtSource s path va image count
  | none => s

/-- The device's record of a direct link after a flit on it; the links of other numbers keep none (R225). -/
def noteFlit (link : Nat) (crcOk : Bool) (s : State) : State :=
  if link < 16 then onFabric s (fun f => { f with links := tset f.links link ((linkState s link).flitAt s.cyc crcOk) }) else s

/-- Whether this device's crossbar forwards what is for another device: to a seat of its own bay, on a good direct link (R225). -/
def forwards (s : State) (dest : Nat) : Bool :=
  match s.fabric.number with
  | some own => bayOf own == bayOf dest && linkGood s (seatOf dest)
  | none => false

/-- FABRIC_ACK_RECEIVE (R225, R227, R233): its flit counts for the link that brings it; an acknowledgement for another device is
forwarded as a packet is, and one for this device acts on its path. -/
def execFabricAckReceive (route : AckRoute) (next : Nat) (held : Word64) (lost : Option (Nat × Nat × Nat)) (s : State) : Result :=
  let n := BitVec.ofNat 32 next
  let s := noteFlit route.link true s
  .next (
    if s.fabric.number = some route.dest then acknowledge route.path n held lost s
    else if forwards s route.dest then
      onFabric s (fun f => { f with acks := f.acks ++ [⟨some (seatOf route.dest), route.dest, route.path, n, held, lost⟩] })
    else s)

/-- FABRIC_RETRANSMIT_TIMEOUT (R227): 4 us after its sending, an unacknowledged packet is sent again. -/
def execFabricRetransmitTimeout (path : PathKey) (seq : Nat) (s : State) : Result :=
  .next (onOut s path (fun o => { o with
    unacked := o.unacked.map (fun k =>
      if k.packet.seq = BitVec.ofNat 32 seq ∧ k.last + 4000 ≤ s.cyc then k.again s.cyc (routeOf s path) else k) }))

/-- A group of a RATOM that has no answer gets a status, its wave having issued `n` RATOMs (R236, R237). -/
def RatomGroup.answer (n status : Nat) (g : RatomGroup) : RatomGroup :=
  if g.status.isSome then g else { g with status := some status, heard := n }

/-- Refuse every unanswered group of RATOMs on a path with FAULT (R228). -/
def failGroups (s : State) (key : PathKey) : State :=
  s.changeWaves (fun w => w.span.part == key.part) (fun w =>
    { w with tokens := w.tokens.map (fun (t : Nat × List RatomGroup) =>
        (t.1, t.2.map (fun g =>
          if g.device = key.peer ∧ field g.group 8 6 + 256 = key.number then g.answer w.ratoms 1 else g))) })

/-- The destination VA of a store's first byte and the VA of its local image: 0 for RST (R233). -/
def storeVas : Payload → Option (Nat × Nat)
  | .store _ va image _ _ => some (va, image)
  | .remoteStore _ lanes _ => some ((lanes.head?.map (·.va)).getD 0, 0)
  | .remoteAtomic _ _ _ _ _ _ _ => none
  | .atomicReply _ _ _ _ _ _ => none
  | .record _ _ _ _ _ _ _ _ => none
  | .recordAck _ _ _ _ => none
  | .recordRefusal _ _ _ _ _ _ _ => none

/-- What a path's discarded packets report: the destination VA of the first store, the VA of its image, and the count (R233). -/
def lostReport (xs : List Payload) : Option (Nat × Nat × Nat) :=
  match xs.filterMap storeVas with
  | [] => none
  | v :: vs => some (v.1, v.2, vs.length + 1)

/-- Report the stores among lost packets at their source (R233). -/
def reportLost (s : State) (key : PathKey) (xs : List Payload) : State :=
  match lostReport xs with
  | none => s
  | some r => lostAtSource s key r.1 r.2.1 r.2.2

/-- FABRIC_PATH_FAILED (R227, R228): a path of numbers 0 to 319 whose oldest packet has been unacknowledged for 100 ms
loses its packets; unanswered RATOM groups on it are refused. -/
def execFabricPathFailed (path : PathKey) (s : State) : Result :=
  match unackedOn s path with
  | [] => .next s
  | k :: ks =>
    if 319 < path.number ∨ s.cyc < k.first + 100000000 then .next s
    else
      let t := onOut s path (fun o => { o with unacked := [] })
      if path.reverse then .next t
      else
        let t := reportLost t path ((k :: ks).map (·.packet.payload))
        .next (if 256 ≤ path.number then failGroups t path else t)

/-- COMBINING_BUFFER_DRAIN (R171, R233): the oldest buffered store of an entry leaves on its path, or is lost at once. -/
def execCombiningBufferDrain (p entry : Nat) (s : State) : Result :=
  match tget s.parts p with
  | none => .next s
  | some q =>
    match q.combining.find? (fun e => e.1.number == entry) with
    | none => .next s
    | some e =>
      let t := setPart s p (fun q => { q with combining := dropFirst (fun e => e.1.number == entry) q.combining })
      if reachable s e.1.peer then .next (sendOn t e.1 e.2) else .next (reportLost t e.1 [e.2])

/-! ### The receiving side of a path (R226, R228) -/

/-- A path that has received nothing. -/
def InPath.fresh (key : PathKey) : InPath := ⟨key, 0, [], [], none⟩

/-- The receiving side of a path. -/
def inPath (s : State) (key : PathKey) : InPath :=
  (s.fabric.ins.find? (fun o => o.key == key)).getD (InPath.fresh key)

/-- Change the receiving side of a path. -/
def onIn (s : State) (key : PathKey) (f : InPath → InPath) : State :=
  onFabric s (fun x =>
    if x.ins.any (fun o => o.key == key) then { x with ins := modFirst (fun o => o.key == key) f x.ins }
    else { x with ins := x.ins ++ [f (InPath.fresh key)] })

/-- Move held packets that are now in sequence behind those to be performed. The first argument bounds their number. -/
def InPath.collect : Nat → InPath → InPath
  | 0, o => o
  | fuel + 1, o =>
    match o.held.find? (fun k => k.seq == o.expected) with
    | some k =>
      ({ o with expected := o.expected + 1, held := o.held.filter (fun x => x.seq != k.seq),
                ready := o.ready ++ [k] } : InPath).collect fuel
    | none => o

/-- A whole packet arrives: in sequence, ahead of a gap within the window of 512, or already received (R226, R227). -/
def InPath.receive (k : Packet) (o : InPath) : InPath :=
  if k.seq = o.expected then
    ({ o with expected := o.expected + 1, ready := o.ready ++ [k] } : InPath).collect o.held.length
  else if !seqBefore k.seq o.expected && decide (o.held.length < 512) && !o.held.any (fun x => x.seq == k.seq) then
    { o with held := o.held ++ [k] }
  else o

/-- Whether a path number is reserved (R228). -/
def pathReserved (n : Nat) : Bool := (decide (320 ≤ n) && decide (n ≤ 511)) || decide (1536 ≤ n)

/-- The acknowledgement of a path: the next expected number, those received in sequence and not yet performed being expected still,
and the bitmap of those held beyond it (R227). -/
def InPath.ack (o : InPath) : BitVec 32 × Word64 :=
  let next := o.expected - BitVec.ofNat 32 o.ready.length
  let seqs := (o.ready.drop 1 ++ o.held).map (·.seq)
  (next, maskOf ((List.range 64).filter (fun i => seqs.contains (next + 1 + BitVec.ofNat 32 i))))

/-- Send the acknowledgement of a path to its source, on the link that the route to it takes (R224, R225, R227, R228), with a report of
discarded stores (R233; that the report travels in the acknowledgement is the model's choice, log 98). -/
def sendReport (s : State) (key : PathKey) (lost : Option (Nat × Nat × Nat)) : State :=
  let r := (inPath s key).ack
  onFabric s (fun f => { f with acks := f.acks ++ [⟨routeOf s key, key.peer, key, r.1, r.2, lost⟩] })

/-- Send the acknowledgement of a path (R227). -/
def sendAck (s : State) (key : PathKey) : State := sendReport s key none

/-- Forward another device's packet, without performing it: on the direct link to its seat, if that link is good (R225). -/
def relay (dest : Nat) (packet : Packet) (s : State) : State :=
  if forwards s dest then onFabric s (fun f => { f with relayed := f.relayed ++ [(seatOf dest, dest, packet)] }) else s

/-- FABRIC_FLIT_RECEIVE (R225 to R228): on a link numbered as `Sent` numbers them. A flit that fails its CRC, or names a reserved
path, is discarded; a packet for another device is forwarded; and one for this device is received and acknowledged, again where it
has been performed before. -/
def execFabricFlitReceive (link dest : Nat) (crcOk : Bool) (packet : Packet) (s : State) : Result :=
  let s := noteFlit link crcOk s
  .next (
    if !crcOk || pathReserved packet.path.number then s
    else if s.fabric.number ≠ some dest then relay dest packet s
    else sendAck (onIn s packet.path (InPath.receive packet)) packet.path)

/-- The packet of a path that is performed next: none while a fault holds the path (R233). -/
def nextOn (s : State) (key : PathKey) : Option Packet :=
  let o := inPath s key
  if o.fault.isSome then none else o.ready.head?

/-- What the next packet of a path carries. -/
def nextPayload (s : State) (key : PathKey) : Option Payload := (nextOn s key).map (fun k => k.payload)

/-- The packet of a path has been performed, refused or lost: it is acknowledged (R227). -/
def tookNext (s : State) (key : PathKey) : State := sendAck (onIn s key (fun o => { o with ready := o.ready.drop 1 })) key

/-! ### Translation at the destination (R232) -/

/-- The partition and the context of an address-space id (R226). -/
def asidPart (asid : Nat) : Nat := asid / 16
/-- The context of an address-space id (R226). -/
def asidCtx (asid : Nat) : Nat := asid % 16

/-- Whether the context of an ASID is open in an owned partition (R232). -/
def asidOpen (s : State) (asid : Nat) : Bool :=
  match tget s.parts (asidPart asid) with
  | some p => p.owner.isSome && (tget p.ctxs (asidCtx asid)).isSome
  | none => false

/-- The cause that an arriving store or atomic meets at a leaf, in the order of R155 (R212, R232). -/
def arrivalCause (s : State) (part : Nat) (l : Leaf) (va : Nat) : Option Cause :=
  if !keyUsable s part l.key then some .key
  else if l.cls = 1 ∨ marked s (l.pa va) then some .conserved
  else if l.cls ≠ 3 then some .cls
  else if !l.wr then some .perm
  else if l.mt ≠ 0 then some .type
  else if l.efmt ≠ 0 then some .format
  else deviceCause l va

/-- The state after the walks for the addresses of an arriving packet: none where its context is not open (R144, R145, R232). -/
def arriveWalks (s : State) (asid : Nat) (vas : List Nat) : State :=
  if asidOpen s asid then touchWalks s (asidPart asid) (asidCtx asid) vas else s

/-- How the translation of an arriving access comes out (R232). -/
inductive Arrival where
  | ok (found : List (Leaf × Nat))
  | refused (status : Nat)
  | faults (va cause : Nat)
  | device (pa : Nat)
  deriving DecidableEq, Repr

/-- The leaf of one arriving address, or the cause it meets. -/
def arriveOne (s : State) (asid va : Nat) : Except Cause Leaf :=
  match translate s (asidPart asid) (asidCtx asid) va with
  | .error c => .error c
  | .ok l => match arrivalCause s (asidPart asid) l va with | some c => .error c | none => .ok l

/-- The translation of all addresses of an arriving packet: the first category of R155 that any of them meets (R232). -/
def arriveAll (s : State) (asid : Nat) (vas : List Nat) : Arrival :=
  if !asidOpen s asid then .refused 1
  else
    let found := vas.zipIdx.map (fun (e : Nat × Nat) =>
      (e.2, match arriveOne s asid e.1 with | .ok l => .ok (l, e.1) | .error c => .error (e.1, c)))
    match firstCause (laneCauses found) with
    | none => .ok ((laneFinds found).map (·.2))
    | some c =>
      match c.2.2 with
      | .device pa => .device pa
      | .conserved => .refused 2
      | .poison _ => .refused 3
      | x => if x.category = 3 then .faults c.2.1 x.code else .refused 1

/-- Hold a path at a resolvable fault (R233); the answer says whether the fault was reported (R248). -/
def holdPath (s : State) (key : PathKey) (asid va cause kind : Nat) : State × Bool :=
  let r := pageRequest s (asidPart asid) (asidCtx asid) va cause kind (.path key)
  if r.2.2 then (onIn r.1 key (fun o => { o with fault := some r.2.1 }), true) else (r.1, false)

/-! ### Lost stores (R233) -/

/-- The ASID that a packet names. -/
def payloadAsid : Payload → Nat
  | .store asid _ _ _ _ => asid
  | .remoteStore asid _ _ => asid
  | .remoteAtomic asid _ _ _ _ _ _ => asid
  | .atomicReply _ _ _ _ _ _ => 0
  | .record _ _ _ _ _ _ _ _ => 0
  | .recordAck _ _ _ _ => 0
  | .recordRefusal _ _ _ _ _ _ _ => 0

/-- Send an answer on the reverse direction of a path (R228). -/
def answerOn (s : State) (key : PathKey) (x : Payload) : State := sendOn s { key with reverse := true } x

/-- Refuse a remote atomic with a status (R232, R236). -/
def refuseAtomic (key : PathKey) (status : Nat) (s : State) : Payload → State
  | .remoteAtomic _ _ _ wave token group ctx => answerOn s key (.atomicReply status [] wave token group ctx)
  | .store _ _ _ _ _ => s
  | .remoteStore _ _ _ => s
  | .atomicReply _ _ _ _ _ _ => s
  | .record _ _ _ _ _ _ _ _ => s
  | .recordAck _ _ _ _ => s
  | .recordRefusal _ _ _ _ _ _ _ => s

/-- Raise REFLECT_LOST at the destination, where the partition of the first packet's ASID has an owner (R233). -/
def lostAtDestination (s : State) (key : PathKey) (asid : Nat) (r : Nat × Nat × Nat) : State :=
  let owned := match tget s.parts (asidPart asid) with | some p => p.owner.isSome | none => false
  if owned then reflectLost s (asidPart asid) key.peer key.number r.1 r.2.1 r.2.2 else s

/-- The store at the head of a path is lost, with every packet waiting behind it: both ends raise REFLECT_LOST, this device its own, and
another device the source's when the report of the acknowledgement reaches it; a RATOM among them is refused with FAULT (R232,
R233). -/
def losePath (s : State) (key : PathKey) : State :=
  let xs := (inPath s key).ready.map (·.payload)
  let own := s.fabric.number == some key.peer
  let s := onIn s key (fun o => { o with ready := [], fault := none })
  let s := xs.foldl (refuseAtomic key 1) (sendReport s key (if own then none else lostReport xs))
  match lostReport xs with
  | none => s
  | some r =>
    let s := lostAtDestination s key ((xs.head?.map payloadAsid).getD 0) r
    if own then lostAtSource s key r.1 r.2.1 r.2.2 else s

/-! ### Arriving stores and atomics (R157, R232, R235, R236, R238) -/

/-- Perform an arriving store of bytes at an address of a partition. -/
def landBytes (s : State) (part : Nat) (l : Leaf) (va : Nat) (bs : List Byte) : State :=
  clearCovered (touch (putBytes s l.key (bytesAt l va bs)) part true l va bs.length) (pasOf l va bs.length)

/-- Perform the parts of one arriving store, whose poison ends where they cover a sector together (R271). -/
def landParts (s : State) (part : Nat) (xs : List (Leaf × Nat × List Byte)) : State :=
  clearCovered (xs.foldl (fun s e => landBytes s part e.1 e.2.1 e.2.2) s) (xs.flatMap (fun e => pasOf e.1 e.2.1 e.2.2.length))

/-- What an arriving store writes: each address with its bytes. -/
def storeParts : Payload → List (Nat × List Byte)
  | .store _ va _ bs _ => [(va, bs)]
  | .remoteStore _ lanes _ => lanes.map (fun r => (r.va, leSplit 4 r.value.toNat))
  | .remoteAtomic _ _ _ _ _ _ _ => []
  | .atomicReply _ _ _ _ _ _ => []
  | .record _ _ _ _ _ _ _ _ => []
  | .recordAck _ _ _ _ => []
  | .recordRefusal _ _ _ _ _ _ _ => []

/-- Perform, hold or lose the store at the head of a path (R232, R233). -/
def landStore (key : PathKey) (x : Payload) (s : State) : Result :=
  let asid := payloadAsid x
  let parts := storeParts x
  let s := arriveWalks s asid (parts.map (·.1))
  match arriveAll s asid (parts.map (·.1)) with
  | .device pa => .fault (.deviceRegister pa)
  | .refused _ => .next (losePath s key)
  | .faults va cause =>
    let r := holdPath s key asid va cause 1
    .next (if r.2 then r.1 else losePath r.1 key)
  | .ok found =>
    let t := landParts s (asidPart asid) ((found.map (·.1)).zip parts)
    let t := countAny t (asidPart asid) (asidCtx asid) (parts.map (·.1)) 2 1
    .next (tookNext t key)

/-- REFLECTED_STORE_ARRIVE (R232): a reflected store or an RST. -/
def execReflectedStoreArrive (path : PathKey) (s : State) : Result :=
  match nextOn s path with
  | none => .next s
  | some k => if (storeVas k.payload).isSome then landStore path k.payload s else .next s

/-- The operation of a RATOM: add, unsigned minimum and maximum, or (R236). -/
def remoteOp (rop : Nat) (old x : Word32) : Word32 :=
  match rop with
  | 0 => old + x
  | 1 => if old.ule x then old else x
  | 2 => if old.ule x then x else old
  | _ => old ||| x

/-- One lane of a remote atomic: the word it found, noted, and the new one (R159, R236). -/
def remoteLane (rop : Nat) (a : State × List RemoteLane) (e : RemoteLane × Leaf) : State × List RemoteLane :=
  let old := BitVec.ofNat 32 (loadLe a.1 e.2 e.1.va 4)
  (putBytes a.1 e.2.key (bytesAt e.2 e.1.va (leSplit 4 (remoteOp rop old e.1.value).toNat)), a.2 ++ [{ e.1 with value := old }])

/-- The service wave performs a remote atomic, repeating it once at an uncorrectable error; when the repeat fails too
nothing is written, the error is recorded, and the reply is POISON (R238, R268). -/
def serveAtomic (key : PathKey) (asid rop : Nat) (lanes : List RemoteLane) (wave token group ctx : Nat) (firstBad secondBad : Bool)
    (found : List (Leaf × Nat)) (s : State) : State :=
  let bad := poisonIn s (found.flatMap (fun e => pasOf e.1 e.2 4))
  if (bad.isSome || firstBad) && (bad.isSome || secondBad) then
    let pa := bad.getD ((found.head?.map (fun e => e.1.pa e.2)).getD 0)
    let place := sectorPlace s pa
    let t := recordUncorrected s place.1 8 ⟨0, 0, 0, place.2, asidPart asid, asidCtx asid⟩ (pa / 32 * 32) 0
    answerOn t key (.atomicReply 3 [] wave token group ctx)
  else
    let r := (lanes.zip (found.map (·.1))).foldl (remoteLane rop) (s, [])
    let vas := lanes.map (·.va)
    let t := touchAll r.1 (asidPart asid) true 4 found
    let t := countAny (countAny t (asidPart asid) (asidCtx asid) vas 2 0) (asidPart asid) (asidCtx asid) vas 2 1
    answerOn t key (.atomicReply 0 r.2 wave token group ctx)

/-- REMOTE_ATOMIC (R232, R238): the request at the head of a path. -/
def execRemoteAtomic (path : PathKey) (firstBad secondBad : Bool) (s : State) : Result :=
  match nextPayload s path with
  | some (.remoteAtomic asid rop lanes wave token group ctx) =>
    let x : Payload := .remoteAtomic asid rop lanes wave token group ctx
    let s := arriveWalks s asid (lanes.map (·.va))
    match arriveAll s asid (lanes.map (·.va)) with
    | .device pa => .fault (.deviceRegister pa)
    | .refused status => .next (refuseAtomic path status (tookNext s path) x)
    | .faults va cause =>
      let r := holdPath s path asid va cause 2
      .next (if r.2 then r.1 else refuseAtomic path 1 (tookNext r.1 path) x)
    | .ok found =>
      .next (serveAtomic path asid rop lanes wave token group ctx firstBad secondBad found (tookNext s path))
  | _ => .next s

/-- The fault of a held path has been answered (R233): resolved, the path goes on; declined, its store is lost, or its
RATOM refused with FAULT. -/
def answerPath (s : State) (key : PathKey) (fault : Nat) (resolved : Bool) : State :=
  let o := inPath s key
  if o.fault ≠ some fault then s
  else
    let t := onIn s key (fun o => { o with fault := none })
    if resolved then t
    else
      match o.ready.head? with
      | some k => if (storeVas k.payload).isSome then losePath t key else refuseAtomic key 1 (tookNext t key) k.payload
      | none => t

/-- PATH_FAULT_SERVICED (R233): the destination's service answers a held path's fault itself. -/
def execPathFaultServiced (path : PathKey) (resolved : Bool) (s : State) : Result :=
  let o := inPath s path
  match o.fault, o.ready.head? with
  | some id, some k => .next (answerPath (closeFault s (asidPart (payloadAsid k.payload)) id) path id resolved)
  | _, _ => .next s

/-! ### Replies of remote atomics (R236) -/

/-- Write an old value to its reply word, where the page still takes a store. -/
def writeReply (part ctx slot : Nat) (e : EntryWords) (s : State) (r : RemoteLane) : State :=
  let va := replyWord e slot r.lane
  let s := touchWalks s part ctx [va]
  match access s part ctx .store va 4 with
  | .ok l => landBytes s part l va (leSplit 4 r.value.toNat)
  | .error _ => s

/-- RATOM_REPLY (R236): the old values go to the reply window, and the group of the token has its status. -/
def execRatomReply (path : PathKey) (s : State) : Result :=
  match nextPayload s path with
  | some (.atomicReply status olds wave token group ctx) =>
    let t := tookNext s path
    let t := match ratEntry s path.part (field group 8 6) with
      | some e => if status = 0 then
            countAny (olds.foldl (writeReply path.part ctx (field group 16 6) e) t) path.part ctx
              (olds.map (fun (r : RemoteLane) => replyWord e (field group 16 6) r.lane)) 2 1
          else t
      | none => t
    .next (t.changeWave (wave / 2) (fun w =>
      { w with tokens := tmod w.tokens token (fun gs =>
          gs.map (fun (g : RatomGroup) => if g.group = group then g.answer w.ratoms status else g)) }))
  | _ => .next s

/-! ### Transfer records (R216, R217) -/

/-- The link of a domain that names a device and its domain (R216). -/
def linkNaming (d : Domain) (device domid : Nat) : Option Nat :=
  (d.links.zipIdx.find? (fun e => e.1.valid && e.1.peer == device && e.1.peerDom == domid)).map (·.2)

/-- One more amount applied on a link. -/
def noteApplied (s : State) (part domid link : Nat) (amount : Int) : State :=
  changeLink s part domid link (fun l => { l with applied := l.applied + amount })

/-- Apply an amount to an account, or refuse it (R216). -/
def applyAccount (s : State) (part domid link n : Nat) (d : Domain) (amount : Int) : State × Nat :=
  if 2 ^ 63 ≤ d.bal.getD n 0 + amount ∨ d.bal.getD n 0 + amount < -2 ^ 63 then (s, 5)
  else
    let add (e : Int × Nat) : Int := if e.2 = n then e.1 + amount else e.1
    (noteApplied (changeDomain s part domid (fun d => { d with bal := d.bal.zipIdx.map add })) part domid link amount, 0)

/-- Apply an amount to a cell, or refuse it (R216). The model's choice: a cell that cannot be reached for any cause of its page, an
unusable key, a malformed or poisoned table entry or a device register among them, counts as one that is not mapped (log 95). -/
def applyCell (s : State) (part domid link c : Nat) (d : Domain) (amount : Int) : State × Nat :=
  let va := d.base + 4 * c
  let s := touchWalks s part d.ctx [va]
  match cellLeaf s part d.ctx domid va with
  | .error _ => (s, 3)
  | .ok l =>
    if rangePoisoned s l va 4 then (s, 4)
    else if 2 ^ 31 - 1 < cellValue s l va + amount then (s, 5)
    else
      let t := changeDomain (putCell s part l va (cellValue s l va + amount)) part domid
        (fun d => { d with interior := d.interior + amount })
      (noteApplied (countAccess t part d.ctx va 2 2) part domid link amount, 0)

/-- Apply an arriving record, or give the reason of its refusal (R216): 1 LINK, 2 RANGE, 3 UNMAPPED, 4 POISON, 5 OVERFLOW. -/
def applyRecord (s : State) (part device domid peerDom dest : Nat) (amount : Int) : State × Nat :=
  match findDomain s part peerDom with
  | none => (s, 1)
  | some d =>
    match linkNaming d device domid with
    | none => (s, 1)
    | some link =>
      if isAccount dest then
        if field dest 4 23 ≠ 0 ∨ d.bal.length ≤ field dest 0 4 then (s, 2)
        else applyAccount s part peerDom link (field dest 0 4) d amount
      else if d.ncell ≤ field dest 0 27 then (s, 2)
      else applyCell s part peerDom link (field dest 0 27) d amount

/-- XFER_RECORD_APPLY (R216): the record at the head of a path is applied or refused, and answered. -/
def execXferRecordApply (path : PathKey) (s : State) : Result :=
  match nextPayload s path with
  | some (.record device domid link peerDom source dest amount wave) =>
    let r := applyRecord (tookNext s path) path.part device domid peerDom dest amount
    .next (answerOn r.1 path
      (if r.2 = 0 then .recordAck domid link amount wave else .recordRefusal domid link source dest amount r.2 wave))
  | _ => .next s

/-- XFER_RECORD_ACK (R217): ACKED of the link rises. -/
def execXferRecordAck (path : PathKey) (s : State) : Result :=
  match nextPayload s path with
  | some (.recordAck domid link amount wave) =>
    let t := changeLink (tookNext s path) path.part domid link (fun l => { l with acked := l.acked + amount })
    .next (countUnanswered t wave (· - 1))
  | _ => .next s

/-- XFER_RECORD_REFUSAL (R217): the amount is refunded, and the refusal is pending for its wave. -/
def execXferRecordRefusal (path : PathKey) (s : State) : Result :=
  match nextPayload s path with
  | some (.recordRefusal domid link source dest amount reason wave) =>
    let t := refuseRecord (tookNext s path) path.part domid link source dest amount reason wave
    .next (countUnanswered t wave (· - 1))
  | _ => .next s

end Sys2Proof.Machine
end

