-- ==== Sys2Proof/Machine/Graph.lean ====
section
/-!
DEFINITION. Graph nodes: EMIT, RECIN, and the launching of consumer blocks from a node's queue (R83, R84, R300, R301, R317).
-/

namespace Sys2Proof.Machine

open Sys2Proof

/-! ### Node queues (R84, R300) -/

/-- The coalescing count of a node (R252). -/
def nodeCount (c : Ctx) (n : Node) : Nat :=
  match tget c.launches n.launch with
  | some l => max 1 l.coalesce
  | none => 64

/-- Take the oldest records of a node for one consumer block, which is then ready to be placed (R84, R300). -/
def Node.launchFrom (n : Node) (count : Nat) : Node :=
  { n with queue := n.queue.drop count, batch := n.batch + 1, ready := n.ready ++ [(n.batch, n.queue.take count)] }

/-- Launch consumer blocks while the coalescing count of records is queued (R84). The first argument bounds their number. -/
def launchFull (count : Nat) : Nat → Node → Node
  | 0, n => n
  | fuel + 1, n => if count ≤ n.queue.length then launchFull count fuel (n.launchFrom count) else n

/-- Append records to a node's queue as one act (R84, R300). -/
def appendRecords (s : State) (part ctx node : Nat) (recs : List (List Byte)) : State :=
  s.changeCtx part ctx (fun c =>
    { c with nodes := tmod c.nodes node (fun n =>
        let m := { n with queue := n.queue ++ recs }
        let m := launchFull (nodeCount c m) m.queue.length m
        if n.queue.isEmpty || m.batch != n.batch then { m with since := s.cyc } else m) })

/-! ### EMIT (R83, R300) -/

/-- The record of a lane: four elements, 16 bytes (R83). -/
def recordOf (w : Wave) (d l : Nat) : List Byte := (List.range 4).flatMap (fun j => leSplit 4 (w.vval (d + j) l).toNat)

/-- EMITMAX of a grid (R84, R252). -/
def emitMaxOf (s : State) (id : SpanId) : Nat := match s.launchOf id with | some l => l.emitMax | none => 0

/-- The records that the wave's block has emitted. -/
def emittedOf (s : State) (w : Wave) : Nat := match s.findBlock w.span w.block with | some b => b.emitted | none => 0

/-- EMIT (R300). -/
def execEmit (m : BitVec 3) (n d : BitVec 6) (st : BitVec 3) (s : State) : Result :=
  gate (.emit m n d st) s (fun s =>
    let i : Instr := .emit m n d st
    let w := s.wave
    let mask := w.lanes m.toNat
    let count := popcount mask
    match successorNode s w.span (w.sval n.toNat).toNat with
    | none => raise (trapOf i 0x01 0 0 []) s
    | some node =>
      if count ≠ 0 ∧ emitMaxOf s w.span < emittedOf s w + count then
        raise (trapOf i 0x10 0 0 [count, emittedOf s w, emitMaxOf s w.span]) s
      else
        let t := appendRecords (clearReplay s w.span) w.span.part w.span.ctx node ((lanesOf mask).map (recordOf w d.toNat))
        done i w (t.changeBlock w.span w.block (fun b => { b with emitted := b.emitted + count })))

/-! ### RECIN (R83, R317) -/

/-- Word `j` of the record that a lane of a wave was launched for (R317). -/
def recordWord (rs : List (List Byte)) (w : Wave) (j l : Nat) : Word32 :=
  BitVec.ofNat 32 (fieldBytes (rs.getD (64 * w.index + l) []) (4 * j) 4)

/-- RECIN (R317): readable after 4 beats (R73). -/
def execRecin (m : BitVec 3) (d : BitVec 6) (st : BitVec 3) (s : State) : Result :=
  gate (.recin m d st) s (fun s =>
    let i : Instr := .recin m d st
    let w := s.wave
    match blockRecords s w with
    | none => raise (trapOf i 0x01 0 0 []) s
    | some rs =>
      done i w ((List.range 4).foldl (fun s j =>
        setVHeld s (d.toNat + j) (w.lanes m.toNat) (recordWord rs w j) (4 * s.passes w)) s))

end Sys2Proof.Machine
end

