-- ==== Sys2Proof/Machine/Net.lean ====
section
/-!
DEFINITION. The scale-out network: packets, acknowledgements and notifications (R175, R239 to R243).
-/

namespace Sys2Proof.Machine

open Sys2Proof

/-- A flow of a partition (R240). -/
def findFlow (s : State) (p n : Nat) : Option Flow :=
  match tget s.parts p with
  | some q => tget q.flows n
  | none => none

/-- Change a flow. -/
def onFlow (s : State) (p n : Nat) (f : Flow → Flow) : State := setPart s p (fun q => { q with flows := tmod q.flows n f })

/-- A flow as FLOW creates it: it expects its peer's packets from the PSN that it starts with itself (R240). -/
def Flow.opened (fields : FlowFields) (timeout cyc : Nat) : Flow :=
  { fields := fields, timeout := timeout, unacked := [], expected := fields.psn, beyond := [], sinceAck := 0, ackedAt := cyc, acks := [],
    holding := [], heard := cyc, bad := [], spoiled := 0, ended := 0, fault := none }

/-- The acknowledgement that a flow sends: the next expected PSN, the bitmap of those received beyond it, and the status of the
message received last (R241, R242). -/
def Flow.ack (f : Flow) : NetAck :=
  ackPacket f.fields f.expected (BitVec.ofNat 128
    (((List.range 128).filter (fun i => f.beyond.contains (f.expected + 1 + BitVec.ofNat 16 i))).foldl (fun n i => n + 2 ^ i) 0)) f.ended

/-- A flow sends an acknowledgement (R241). -/
def Flow.acknowledged (cyc : Nat) (f : Flow) : Flow := { f with acks := f.acks ++ [f.ack], sinceAck := 0, ackedAt := cyc }

/-- The status with which a flow has refused the payload of a PSN, or 0 (R242). -/
def Flow.refusal (f : Flow) (psn : BitVec 16) : Nat := ((f.bad.find? (fun e => e.1 == psn)).map (·.2)).getD 0

/-! ### Receiving (R175, R241 to R243) -/

/-- The oldest resident wave of a partition that waits on a notification queue (R243). -/
def firstListener (s : State) (p queue : Nat) : Option Wave :=
  firstWaiting s (fun w => match w.wait with
    | .notification k _ n => if w.resident ∧ w.span.part = p ∧ k = queue then some n else none
    | _ => none)

/-- Enter an immediate into a notification queue: the oldest waiter takes it at once (R243). -/
def notify (p queue : Nat) (e : Word32 × Nat) (s : State) : State :=
  match firstListener s p queue with
  | some w =>
    match w.wait with
    | .notification _ r _ => s.changeWave w.id (fun w => (wake s w).putS r (notificationWord e) 0 false)
    | _ => s
  | none => setPart s p (fun q => { q with notif := tset q.notif queue (tgetD q.notif queue [] ++ [e]) })

/-- Entries of a notification queue, with those that kind-1 packets already accepted will take. -/
def queueLoad (s : State) (p queue : Nat) : Nat :=
  match tget s.parts p with
  | none => 0
  | some q =>
    (tgetD q.notif queue []).length +
    (q.flows.flatMap (fun e => e.2.holding.filter (fun x => (x.immediate.map (·.2)) == some queue))).length

/-- Pass over the expected packet: at a kind-1 packet the message is whole, its immediate is entered unless a payload of it was
refused, and then it is acknowledged with the status of the first one refused (R175, R242). -/
def passPacket (p n : Nat) (f : Flow) (s : State) : State :=
  let status := if f.spoiled = 0 then f.refusal f.expected else f.spoiled
  let pass (f : Flow) : Flow := { f with expected := f.expected + 1, bad := f.bad.filter (fun e => e.1 != f.expected) }
  match f.holding.find? (fun x => x.psn == f.expected) with
  | some x =>
    let t := onFlow s p n (fun f => { pass f with spoiled := 0, ended := status, holding := f.holding.filter (fun y => y.psn != x.psn) })
    let t := match x.immediate with
      | some e => if status = 0 then notify p e.2 (e.1, n) t else t
      | none => t
    onFlow t p n (Flow.acknowledged s.cyc)
  | none => onFlow s p n (fun f => { pass f with spoiled := status })

/-- Pass over every packet received in sequence. The first argument bounds their number. -/
def passAll (p n : Nat) : Nat → State → State
  | 0, s => s
  | fuel + 1, s =>
    match findFlow s p n with
    | none => s
    | some f =>
      if f.beyond.contains f.expected then
        passAll p n fuel (passPacket p n f (onFlow s p n (fun f => { f with beyond := f.beyond.filter (· != f.expected) })))
      else s

/-- A flow after a packet has been taken: its PSN is received, with the status of a refused payload, and its kind-1 part held. -/
def Flow.took (x : NetPacket) (status cyc : Nat) (f : Flow) : Flow :=
  { f with
    beyond := f.beyond ++ [x.psn], bad := if status = 0 then f.bad else f.bad ++ [(x.psn, status)],
    holding := if x.immediate.isSome then f.holding ++ [x] else f.holding, sinceAck := f.sinceAck + 1, heard := cyc }

/-- A packet has been taken, and an acknowledgement leaves with every sixteenth (R241). -/
def takePacket (p n : Nat) (x : NetPacket) (status : Nat) (s : State) : State :=
  let t := passAll p n 8193 (onFlow s p n (Flow.took x status s.cyc))
  onFlow t p n (fun f => if 16 ≤ f.sinceAck then f.acknowledged s.cyc else f)

/-- The pieces of a payload, none cut by a page boundary. -/
def payloadParts (va : Nat) (bs : List Byte) : List (Nat × List Byte) :=
  (cutRange (bs.length / 64 + 2) va bs.length).foldl
    (fun (a : List (Nat × List Byte) × List Byte) (e : Nat × Nat) => (a.1 ++ [(e.1, a.2.take e.2)], a.2.drop e.2)) ([], bs) |>.1

/-- Perform the payload of a packet, with the checks of R232; a resolvable fault holds the flow (R233, R242). -/
def landPacket (p n : Nat) (x : NetPacket) (s : State) : Result :=
  let parts := payloadParts x.va x.payload
  let s := if asidPart x.asid = p then arriveWalks s x.asid (parts.map (·.1)) else s
  match (if asidPart x.asid = p then arriveAll s x.asid (parts.map (·.1)) else .refused 1) with
  | .device pa => .fault (.deviceRegister pa)
  | .refused status => .next (takePacket p n x status s)
  | .faults va cause =>
    let r := pageRequest s p (asidCtx x.asid) va cause 1 (.flow n)
    .next (if r.2.2 then onFlow r.1 p n (fun f => { f with fault := some (r.2.1, x.psn) }) else takePacket p n x 1 r.1)
  | .ok found =>
    let t := landParts s p ((found.map (·.1)).zip parts)
    .next (takePacket p n x 0 (countAny t p (asidCtx x.asid) (parts.map (·.1)) 3 1))

/-- Whether a PSN lies before another, modulo 2^16. -/
def psnBefore (a b : BitVec 16) : Bool := (a - b).getLsbD 15

/-- NETWORK_PACKET_RECEIVE (R239 to R243): dropped where its frame or its header is not valid, it names no flow, lies outside the
window, or would fill a notification queue; a packet received before is only acknowledged again. -/
def execNetworkPacketReceive (p : Nat) (packet : NetPacket) (s : State) : Result :=
  match findFlow s p packet.flow with
  | none => .next s
  | some f =>
    let full := match packet.immediate with | some e => decide (1024 ≤ queueLoad s p (e.2 % 64)) | none => false
    if !frameOk packet.header (datagramBytes packet) || !dataPacketOk packet then .next s
    else if psnBefore packet.psn f.expected || f.beyond.contains packet.psn then .next (onFlow s p packet.flow (Flow.acknowledged s.cyc))
    else if decide (8192 ≤ (packet.psn - f.expected).toNat) || f.fault.isSome || full then .next s
    else if f.refusal packet.psn ≠ 0 then .next (takePacket p packet.flow packet (f.refusal packet.psn) s)
    else landPacket p packet.flow packet s

/-- The fault that holds a flow has been answered: declined, its packet's payload is refused when the
packet comes again (R232, R233, R241). -/
def answerFlow (s : State) (p n fault : Nat) (resolved : Bool) : State :=
  match findFlow s p n with
  | none => s
  | some f =>
    match f.fault with
    | some (id, psn) =>
      if id ≠ fault then s
      else
        onFlow s p n (fun f => { f with fault := none, bad := if resolved then f.bad else f.bad ++ [(psn, 1)] })
    | none => s

/-- NETWORK_ACK_TIMER (R241): a receiver that has packets to acknowledge and has not acknowledged for 2 us does so. -/
def execNetworkAckTimer (p flow : Nat) (s : State) : Result :=
  .next (onFlow s p flow (fun f => if f.sinceAck = 0 ∨ s.cyc < f.ackedAt + 2000 then f else f.acknowledged s.cyc))

/-! ### Sending (R241, R242) -/

/-- End the NWRIs at the heads of the network queues of a partition that a test accepts. -/
def endNwris (s : State) (p status : Nat) (test : Cmd → Bool) : State :=
  (s.cores.map (·.1)).foldl (fun s core =>
    match headCmd s core 4 with
    | some c =>
      if c.span.part = p ∧ c.phase = .running ∧ test c then endHead s core 4 status c.step none else s
    | none => s) s

/-- Whether an NWRI has sent all its packets on a flow and the last one lies before a PSN (R242). -/
def Cmd.sentBefore (c : Cmd) (n : Nat) (next : BitVec 16) : Bool :=
  match c.flow with
  | some (k, psn) => k == n && c.step == nwriPackets (field (c.dword 3) 0 32) && psnBefore (BitVec.ofNat 16 psn) next
  | none => false

/-- Whether a bitmap shows a PSN missing (R241). Bit `i` is the PSN `i + 1` beyond the expected one. -/
def psnMissing (next : BitVec 16) (held : BitVec 128) (psn : BitVec 16) : Bool :=
  let d := (psn - next).toNat
  if d = 0 then held != 0
  else decide (d ≤ 128) && !held.getLsbD (d - 1) && (List.range 128).any (fun i => decide (d - 1 < i) && held.getLsbD i)

/-- NETWORK_ACK_RECEIVE (R239, R241, R242): dropped where its frame or its header is not valid or it names no flow; acknowledged packets
leave the flow, missing ones are sent again, and an NWRI whose last packet is acknowledged ends: OK, or with the status of a refused
payload. -/
def execNetworkAckReceive (p : Nat) (head : NetAckHead) (next : Nat) (held : BitVec 128) (refusal : Nat) (s : State) : Result :=
  let flow := head.flow
  let n := BitVec.ofNat 16 next
  match findFlow s p flow with
  | none => .next s
  | some f =>
    if !frameOk head.header (ackBytes ⟨head, n, held, refusal⟩) || !ackOk head.header then .next s else
    let s := (f.unacked.filter (fun k => psnBefore k.packet.psn n)).foldl (fun s k => sampleSource s p 3 (s.cyc - k.first)) s
    let t := onFlow s p flow (fun f => { f with
      heard := s.cyc,
      unacked := (f.unacked.filter (fun k => !psnBefore k.packet.psn n)).map (fun k =>
        if psnMissing n held k.packet.psn then k.again s.cyc k.via else k) })
    .next (endNwris t p refusal (fun c => c.sentBefore flow n))

/-- NETWORK_RETRANSMIT_TIMEOUT (R241): a packet unacknowledged for the flow's timeout is sent again. -/
def execNetworkRetransmitTimeout (p flow psn : Nat) (s : State) : Result :=
  .next (onFlow s p flow (fun f => { f with
    unacked := f.unacked.map (fun k =>
      if k.packet.psn = BitVec.ofNat 16 psn ∧ k.last + f.timeout ≤ s.cyc then k.again s.cyc k.via else k) }))

/-- Whether an NWRI has sent packets on a flow. -/
def Cmd.onFlow (n : Nat) (c : Cmd) : Bool := (c.flow.map (·.1)) == some n

/-- NETWORK_FLOW_SILENT (R242): a flow that owes an acknowledgement and has been silent for 100 ms ends its NWRIs with FAULT;
those of a flow that has been cleared end with RANGE. -/
def execNetworkFlowSilent (p flow : Nat) (s : State) : Result :=
  match findFlow s p flow with
  | none => .next (endNwris s p 5 (Cmd.onFlow flow))
  | some f =>
    match f.unacked with
    | [] => .next s
    | k :: _ =>
      if s.cyc < max k.first f.heard + 100000000 then .next s
      else .next (endNwris (onFlow s p flow (fun f => { f with unacked := [] })) p 1 (Cmd.onFlow flow))

/-- NEIGHBOUR_DISCOVERY (R239): answered by the management complex; nothing of the device's state changes. -/
def execNeighbourDiscovery (s : State) : Result := .next s

end Sys2Proof.Machine
end

