-- ==== Sys2Proof/Machine/Save.lean ====
section
/-!
DEFINITION. Pre-emption: the halting of waves, the draining of engines, and the saving and closing of spans (R87, R88,
R187, R190, R198, R250, R257, R263). A saved wave, block or span stays in State; the bytes of the save area have no layout
in the manual, and are free values (log 20).
-/

namespace Sys2Proof.Machine

open Sys2Proof

/-! ### Waves (R87, R88) -/

/-- Whether a wave belongs to a context. -/
def Wave.ofCtx (part ctx : Nat) (w : Wave) : Bool := w.span.part == part && w.span.ctx == ctx

/-- Whether a wave that is to halt stands where it may be saved: at a run boundary, and, unless a full save is due, with
an empty mask stack and no instruction in page-fault service (R87, R88). -/
def Wave.mayHalt (w : Wave) : Bool :=
  w.resident && w.halting.isSome && w.run.isNone && w.fuse.isNone &&
  (w.full || (w.stack.isEmpty && w.service.isNone && w.trap.isNone))

/-- A wave that is saved: its results are all written by then (R87, R263). -/
def Wave.saved (w : Wave) : Wave :=
  { w with resident := false, halting := none, full := false, pend := [], performed := 0, issued := false }

/-- Whether a wave may be saved now: it may halt, every K-step of its has rounded, and its reflected stores have left the
combining buffer (R87, R88, R176, R263). -/
def maySave (s : State) (w : Wave) : Bool :=
  w.mayHalt && !stepsLeft (s.coreOf w.core) w.id && !buffered s w.span.part (waveSender w.id)

/-- Every wave that may halt is saved. -/
def saveWaves (s : State) : State := s.changeWaves (maySave s) Wave.saved

/-- Whether a wave of a context stands on a core. -/
def ctxOnCore (s : State) (part ctx core : Nat) : Bool :=
  s.allWaves.any (fun w => w.ofCtx part ctx && w.core == core && w.resident)

/-! ### Engines at a save (R198) -/

/-- Whether a command belongs to a context. -/
def Cmd.ofCtx (part ctx : Nat) (c : Cmd) : Bool := c.span.part == part && c.span.ctx == ctx

/-- A command that has not ended. -/
def Cmd.open (c : Cmd) : Bool := match c.phase with | .finished _ _ _ => false | _ => true

/-- Whether a command takes its metadata from an empty queue (R193, R198). -/
def Core.hungry (c : Core) (k : Cmd) : Bool :=
  k.fn == 0 && k.head 16 3 != 0 && decide (k.started < k.head 32 16) && (tgetD c.mdq (k.head 16 3 - 4) []).isEmpty

/-- Whether one of the commands of a list, by queue and SEQ, is a copy to a metadata queue (R194, R198). -/
def Core.fills (c : Core) (n : Nat) (able : List (Nat × Nat)) : Bool :=
  [1, 2].any (fun q => (c.queue q).any (fun k =>
    k.fn == 1 && k.head 2 2 == 2 && k.head 4 2 == n && k.open && able.contains (q, k.seq)))

/-- Whether a command or fence that claims a token is one of a list, by queue and SEQ (R197). -/
def Core.claimedBy (c : Core) (token : Word64) (able : List (Nat × Nat)) : Bool :=
  c.queues.any (fun q => q.2.any (fun k => k.succ == some token && able.contains (q.1, k.seq))) ||
  c.fences.any (fun f => f.succ == some token && able.contains (7, f.seq))

/-- Whether a command of a context can run once the commands and fences of a list can: those before it in its queue and
the fences it stands behind do, it is not held or its claimer does, and what it would wait for is filled (R169, R193, R197,
R198). A command of another context is not judged. -/
def Core.canRun (c : Core) (core part ctx q : Nat) (before : List Cmd) (k : Cmd) (able : List (Nat × Nat)) : Bool :=
  !k.ofCtx part ctx || !k.open ||
  (before.all (fun x => able.contains (q, x.seq)) &&
   k.behind.all (fun n => !c.fences.any (fun f => f.seq == n) || able.contains (7, n)) &&
   (!k.held || c.claimedBy (BitVec.ofNat 64 (cmdToken core q k.seq)) able) &&
   (!c.hungry k || c.fills (k.head 16 3 - 4) able))

/-- The commands of a queue, each with those before it. -/
def withBefore : List Cmd → List Cmd → List (List Cmd × Cmd)
  | _, [] => []
  | before, k :: ks => (before, k) :: withBefore (before ++ [k]) ks

/-- One more round of finding what can run. -/
def Core.ableMore (c : Core) (core part ctx : Nat) (able : List (Nat × Nat)) : List (Nat × Nat) :=
  (c.queues.flatMap (fun q => ((withBefore [] q.2).filter (fun e => c.canRun core part ctx q.1 e.1 e.2 able)).map
    (fun e => (q.1, e.2.seq)))) ++
  ((c.fences.filter (fun f => f.waits.all (fun w => !c.pendingAt w.1 w.2 || able.contains w))).map (fun f => (7, f.seq)))

/-- The commands and fences of a core that can still run. The first argument bounds the rounds. -/
def Core.able (c : Core) (core part ctx : Nat) : Nat → List (Nat × Nat) → List (Nat × Nat)
  | 0, found => found
  | fuel + 1, found => c.able core part ctx fuel (c.ableMore core part ctx found)

/-- The number of commands and fences of a core. -/
def Core.load (c : Core) : Nat := (c.queues.map (·.2.length)).foldl (· + ·) c.fences.length

/-- Abort the held commands of a context that a test accepts, by queue. -/
def Core.abortHeld (c : Core) (part ctx : Nat) (p : Nat → Cmd → Bool) : Core :=
  { c with queues := c.queues.map (fun (q : Nat × List Cmd) =>
      (q.1, q.2.map (fun (k : Cmd) => if k.ofCtx part ctx && k.held && k.open && p q.1 k then k.abort else k))) }

/-- What cannot run on a core, for a context whose waves are all halted, is ended (R198): first held commands that none has
claimed; then an MXLOOP that waits on an empty metadata queue that no pending copy fills, with MDQ_STARVED; and, where neither
is left, the held commands whose predecessor can no longer run. -/
def Core.unblock (c : Core) (core part ctx : Nat) : Core :=
  let able := c.able core part ctx (c.load + 1) []
  let d := c.abortHeld part ctx (fun _ k => !k.claimed)
  if d ≠ c then d
  else
    match c.queue 0 with
    | k :: ks =>
      if k.ofCtx part ctx && k.phase == .running && k.started == k.step && c.hungry k &&
          !c.fills (k.head 16 3 - 4) able then
        c.setQueue 0 ({ k with phase := .finished 9 k.step none } :: ks)
      else c.abortHeld part ctx (fun q k => !able.contains (q, k.seq))
    | [] => c.abortHeld part ctx (fun q k => !able.contains (q, k.seq))

/-- Whether a core has a command or queue fence of a context that has not completed. -/
def Core.busyFor (c : Core) (part ctx : Nat) : Bool :=
  c.queues.any (fun q => q.2.any (Cmd.ofCtx part ctx)) || c.fences.any (fun f => f.span.part == part && f.span.ctx == ctx)

/-- Drain one core for a context that leaves it (R198). -/
def drainCore (part ctx : Nat) (s : State) (core : Nat) : State :=
  if ctxOnCore s part ctx core || !(s.coreOf core).busyFor part ctx then s
  else s.changeCore core (fun c => c.unblock core part ctx)

/-- The cores on which live spans of a context have blocks. -/
def ctxCores (s : State) (part ctx : Nat) : List Nat :=
  ((s.blocks.filter (fun b => b.span.part == part && b.span.ctx == ctx && !b.ended &&
    (match s.findSpan b.span with | some x => x.phase == .live | none => false))).map (·.core)).eraseDups

/-! ### Spans (R257) -/

/-- Whether a live span can be saved: no wave of it is resident and the engines have done every command of its context on
its cores. -/
def spanHalted (s : State) (x : Span) : Bool :=
  x.phase == .live &&
  !s.allWaves.any (fun w => w.span == x.id && w.resident) &&
  (s.blocks.filter (fun b => b.span == x.id && !b.ended)).all (fun b =>
    !ctxOnCore s x.id.part x.id.ctx b.core && !(s.coreOf b.core).busyFor x.id.part x.id.ctx)

/-- A block with the status records of its core saved beside it (R190, R257). -/
def Block.keep (records : List DoneRec) (b : Block) : Block :=
  { b with kept := (b.core, records) :: b.kept.filter (fun e => e.1 != b.core) }

/-- The bytes that a wave takes in a save area: more for one that is fully saved (R88, R257). -/
def Wave.saveBytes (w : Wave) : Nat :=
  2048 + 256 * w.regs + (if w.stack.isEmpty && w.service.isNone && w.trap.isNone then 0 else 4096)

/-- The bytes that a span takes in its context's save area beside its cores' records: its waves, its blocks' scratchpads and the span
itself (R257). -/
def spanSaveBytes (s : State) (id : SpanId) : Nat :=
  let blocks := s.blocks.filter (fun b => b.span == id && !b.ended)
  ((s.allWaves.filter (fun w => w.span == id)).map Wave.saveBytes).foldl (· + ·) 0 + (blocks.map (·.size)).foldl (· + ·) 0 + 65600

/-- The cores on which some spans have blocks. -/
def spanCores (s : State) (ids : List SpanId) : List Nat :=
  ((s.blocks.filter (fun b => ids.contains b.span && !b.ended)).map (·.core)).eraseDups

/-- The bytes that some spans take in their context's save area: the status records of a core stand there once (R257). -/
def savedBytes (s : State) (ids : List SpanId) : Nat :=
  (ids.map (spanSaveBytes s)).foldl (· + ·) 0 + 20480 * (spanCores s ids).length

/-- Write a page's part of a save area, if it can be stored to; the manual gives the bytes no values (log 20). -/
def savePiece (part ctx : Nat) (s : State) (piece : Nat × Nat) : State :=
  match access s part ctx .store piece.1 1 with
  | .ok l =>
    let bytes := (List.range piece.2).map (fun j => Config.freeByte (s.fresh + j))
    { (storeBytes (touchWalks s part ctx [piece.1]) part 0 l piece.1 bytes) with fresh := s.fresh + piece.2 }
  | .error _ => s

/-- Cut a range of virtual addresses at the pages' smallest size. The first argument bounds the number of pieces. -/
def cutPages : Nat → Nat → Nat → List (Nat × Nat)
  | 0, _, _ => []
  | fuel + 1, va, n =>
    if n = 0 then []
    else
      let k := min n (2 ^ 15 - va % 2 ^ 15)
      (va, k) :: cutPages fuel (va + k) (n - k)

/-- Write a span's state to its context's save area, behind the spans of the context that are saved there (R257; log 20). -/
def writeSaveArea (s : State) (id : SpanId) : State :=
  match s.findCtx id.part id.ctx with
  | none => s
  | some c =>
    let others := (s.spans.filter (fun x => x.id.part == id.part && x.id.ctx == id.ctx && x.phase == .saved)).map (·.id)
    let start := savedBytes s others
    let n := savedBytes s (others ++ [id]) - start
    (cutPages (n / 2 ^ 15 + 2) (c.save + start) n).foldl (savePiece id.part id.ctx) s

/-- Save a span: its state is written to the save area, except at CTX_CLOSE; the records of its cores are kept with its blocks, and
what is left in their metadata queues is discarded (R198, R257). -/
def saveSpan (closing : Bool) (s : State) (x : Span) : State :=
  let s := if closing then s else writeSaveArea s x.id
  let cores := ((s.blocks.filter (fun b => b.span == x.id && !b.ended)).map (·.core)).eraseDups
  let s := { s with blocks := s.blocks.map (fun (b : Block) => if b.span = x.id ∧ !b.ended then b.keep (s.coreOf b.core).done else b) }
  let s := cores.foldl (fun s n => s.changeCore n (fun c => { c with mdq := [] })) s
  s.changeSpan x.id (fun x => { x with phase := .saved })

/-- Whether a span of a context is live. -/
def ctxLive (s : State) (part ctx : Nat) : Bool :=
  s.spans.any (fun x => x.id.part == part && x.id.ctx == ctx && x.phase == .live)

/-- Go on with the saving of a context, or with its halting at CTX_CLOSE: waves that may halt are saved, engines drain, and halted
spans are saved. -/
def advanceSave (closing : Bool) (part ctx : Nat) (s : State) : State :=
  let s := (ctxCores s part ctx).foldl (drainCore part ctx) s
  (s.spans.filter (fun x => x.id.part == part && x.id.ctx == ctx && spanHalted s x)).foldl (saveSpan closing) s

/-- Begin to take a context off its cores (R257): no new placement, and its waves are to halt. -/
def leave (why : Leaving) (part ctx : Nat) (s : State) : State :=
  let s := s.changeCtx part ctx (fun c => { c with leaving := some why })
  s.changeWaves (fun w => w.ofCtx part ctx && w.resident && w.halting.isNone) (fun w => { w with halting := some s.cyc })

/-! ### The end of a context (R250) -/

/-- The charges of a context against its partition's quota: what its spans that have not ended still hold, and those of the records
queued at its nodes (R84). -/
def ctxCharge (s : State) (part ctx : Nat) : Nat :=
  ((s.spans.filter (fun x => x.id.part == part && x.id.ctx == ctx && x.phase != .ended && x.phase != .closed)).map
    (fun x => spanLeft s x.id + x.owes)).foldl (· + ·) 0 +
  (match s.findCtx part ctx with
   | some c => (c.nodes.map (fun e => e.2.queue.length + (e.2.ready.map (·.2.length)).foldl (· + ·) 0)).foldl (· + ·) 0
   | none => 0)

/-- The spans that a CTX_CLOSE kills: those of the context that have not ended. -/
def openSpans (s : State) (part ctx : Nat) : List SpanId :=
  (s.spans.filter (fun x => x.id.part == part && x.id.ctx == ctx && x.phase != .ended && x.phase != .closed)).map (·.id)

/-- The spans of a launch's grid that have not started. -/
def unstartedOf (s : State) (part ctx lrec : Nat) (l : Launch) : Nat :=
  l.spans - l.finished - (s.spans.filter (fun x => x.id.part == part && x.id.ctx == ctx && x.id.lrec == lrec)).length

/-- The number of spans of a context that have not started. -/
def unstartedSpans (s : State) (part ctx : Nat) : Nat :=
  match s.findCtx part ctx with
  | none => 0
  | some c => (c.launches.map (fun e =>
      match e.2.node with
      | some _ => 0
      | none => unstartedOf s part ctx e.1 e.2)).foldl (· + ·) 0

/-- Kill every span of a context whose waves have all halted (R250, R257): none of them is reported. -/
def closeSpans (part ctx : Nat) (s : State) : State :=
  let ids := openSpans s part ctx
  let n := ids.length + unstartedSpans s part ctx
  let s := refund s part (ctxCharge s part ctx)
  let s := ids.foldl removeSpan s
  let s := { s with
    spans := s.spans.map (fun (x : Span) => if ids.contains x.id then { x with phase := .closed } else x),
    blocks := s.blocks.filter (fun b => !ids.contains b.span) }
  s.changeCtx part ctx (fun c => { c with leaving := none, closing := some n, launches := [], nodes := [] })

/-- Whether every write of the spans that a CTX_CLOSE killed is performed at .sys, and every span that had ended is reported (R250,
R251). -/
def closeSettled (s : State) (part ctx : Nat) : Bool :=
  !s.spans.any (fun x => x.id.part == part && x.id.ctx == ctx && (x.phase == .ended || (x.phase == .closed && !spanSettled s x)))

/-- The accumulator slots of a context are zeroed and their ACCOWN with them (R250). -/
def Core.releaseSlots (part ctx : Nat) (c : Core) : Core :=
  let own : Word64 := BitVec.ofNat 64 (2 ^ 9 + part * 16 + ctx)
  ((List.range 64).filter (fun z => sget c.accown z &&& 0x3FF#64 == own)).foldl (fun c z =>
    { c with
      acc := sclear c.acc (1024 * z) (1024 * z + 1024), accown := serase c.accown z, checks := terase c.checks z,
      poisonO := serase c.poisonO z, poisonZ := sclear c.poisonZ (1024 * z) (1024 * z + 1024) }) c

/-- End a context: its slots are released, and nothing of it is left (R250). -/
def endCtx (part ctx : Nat) (s : State) : State :=
  let s := { s with
    cores := s.cores.map (fun e => (e.1, e.2.releaseSlots part ctx)),
    spans := s.spans.filter (fun x => !(x.id.part == part && x.id.ctx == ctx && x.phase == .closed)) }
  setPart s part (fun p =>
    { p with
      ctxs := terase p.ctxs ctx,
      faults := p.faults.filter (fun f => match f.owner with | .command c => c != ctx | _ => true) })

/-! ### The default policy: priority and round robin (R256) -/

/-- Whether a launch has work that is ready and not placed: spans not yet started, saved, or to be launched again, or blocks of a
graph node (R256). -/
def launchReady (s : State) (p ctx lrec : Nat) (l : Launch) (c : Ctx) : Bool :=
  (match l.node with
   | some n => (match tget c.nodes n with | some x => !x.ready.isEmpty | none => false)
   | none => decide (0 < unstartedOf s p ctx lrec l)) ||
  s.spans.any (fun x => x.id.part == p && x.id.ctx == ctx && x.id.lrec == lrec && (x.phase == .saved || x.phase == .again))

/-- Whether a context has work that is ready and not placed (R256). -/
def readyWork (s : State) (p ctx : Nat) : Bool :=
  decide (0 < unstartedSpans s p ctx) ||
  s.spans.any (fun x => x.id.part == p && x.id.ctx == ctx && (x.phase == .saved || x.phase == .again)) ||
  (match s.findCtx p ctx with | some c => c.nodes.any (fun e => !e.2.ready.isEmpty) | none => false)

/-- A context without work that is ready and not placed has none that waits: the 20 ms of its next rise count from now (R256). -/
def noteIdle (s : State) : State :=
  { s with parts := s.parts.map (fun e => (e.1, { e.2 with
      ctxs := e.2.ctxs.map (fun c => if readyWork s e.1 c.1 then c else (c.1, { c.2 with agedAt := s.cyc })) })) }

/-- The priority level of a launch's work: the launch's own, raised by its context's waiting (R256). -/
def Ctx.levelOf (c : Ctx) (l : Launch) : Nat := min 7 (l.prio + c.raised)

/-- The highest level at which a context has ready work that firmware may place. -/
def readyLevel (s : State) (p ctx : Nat) (c : Ctx) : Option Nat :=
  if c.leaving.isSome || c.paused.isSome || c.closing.isSome then none
  else ((c.launches.filter (fun e => launchReady s p ctx e.1 e.2 c)).map (fun e => c.levelOf e.2)).max?

/-- The contexts of a partition. -/
def ctxsOf (s : State) (p : Nat) : Tab Ctx := match tget s.parts p with | some q => q.ctxs | none => []

/-- The highest level at which a partition has ready work (R256). -/
def topLevel (s : State) (p : Nat) : Option Nat := ((ctxsOf s p).filterMap (fun e => readyLevel s p e.1 e.2)).max?

/-- Whether a context holds its placement in a turn that is not over: up to its weight in slices of resident time (R256). -/
def turnHeld (s : State) (p ctx : Nat) (c : Ctx) : Bool := ctxLive s p ctx && decide (s.cyc < c.placedAt + c.weight * s.fw.slice)

/-- The context that the round robin of a level placed last. -/
def lastTurn (s : State) (p level : Nat) : Option Nat := match tget s.parts p with | some q => tget q.turns level | none => none

/-- The context whose turn it is at a level: the one placed last while it holds its turn and has work there, else the next of those
with work there in ascending number, beginning again at the lowest (R256; log 83). -/
def turnAt (s : State) (p level : Nat) : Option Nat :=
  let ready := ((ctxsOf s p).filter (fun e => readyLevel s p e.1 e.2 == some level)).map (·.1)
  match lastTurn s p level with
  | some n =>
    let holds := match s.findCtx p n with | some c => ready.contains n && turnHeld s p n c | none => false
    if holds then some n
    else match ready.find? (fun k => decide (n < k)) with | some k => some k | none => ready.head?
  | none => ready.head?

/-- Whether the policy lets firmware write a record of a launch now: work of the highest level, of the context whose turn it is
(R256). A record that names no open context or no launch is R255's to answer. -/
def policyAllows (s : State) (p ctx lrec : Nat) : Bool :=
  match s.findCtx p ctx with
  | some c =>
    match tget c.launches lrec with
    | some l => topLevel s p == some (c.levelOf l) && turnAt s p (c.levelOf l) == some ctx
    | none => true
  | none => true

/-- A span of a context is placed: the context is back on its own level, and holds its placement from now if this begins its turn
(R256). -/
def notePlacement (s : State) (p ctx : Nat) (l : Launch) : State :=
  match s.findCtx p ctx with
  | none => s
  | some c =>
    let kept := lastTurn s p (c.levelOf l) == some ctx && turnHeld s p ctx c
    let t := setPart s p (fun q => { q with turns := tset q.turns (c.levelOf l) ctx })
    t.changeCtx p ctx (fun c => { c with raised := 0, agedAt := s.cyc, placedAt := if kept then c.placedAt else s.cyc })

/-- The highest level of a context's live work. -/
def liveLevel (s : State) (p ctx : Nat) (c : Ctx) : Nat :=
  ((s.spans.filter (fun x => x.id.part == p && x.id.ctx == ctx && x.phase == .live)).map (fun x =>
    match tget c.launches x.id.lrec with | some l => c.levelOf l | none => 0)).foldl max 0

/-- The CYC at which the latest whole slice of a context's placement ended (R256). -/
def sliceEnd (s : State) (c : Ctx) : Nat := s.cyc - (s.cyc - c.placedAt) % s.fw.slice

/-- Whether a slice of a resident context has ended while others had work that waited unplaced and still does: of a higher level, or of
its own level once its turn is over (R256). -/
def sliceOver (s : State) (p ctx : Nat) (c : Ctx) : Bool :=
  let level := liveLevel s p ctx c
  let waits (test : Nat → Bool) : Bool :=
    (ctxsOf s p).any (fun e => e.1 != ctx && decide (e.2.agedAt ≤ sliceEnd s c) &&
      (match readyLevel s p e.1 e.2 with | some n => test n | none => false))
  decide (c.placedAt + s.fw.slice ≤ s.cyc) &&
    (waits (fun n => decide (level < n)) || (waits (fun n => n == level) && !turnHeld s p ctx c))

/-! ### Events (R88, R257) -/

/-- SLICE_END (R256, R257): the context is taken off its cores, if it is on them, is not being so already, and its slice is over. -/
def execSliceEnd (p ctx : Nat) (s : State) : Result :=
  match s.findCtx p ctx with
  | some c =>
    if c.leaving.isNone && c.closing.isNone && ctxLive s p ctx && sliceOver s p ctx c then .next (leave .slice p ctx s) else .next s
  | none => .next s

/-- PREEMPTION_TIMEOUT (R88): a wave that has been asked to halt for the pre-emption timeout is fully saved at its next run
boundary. -/
def execPreemptionTimeout (wave : Nat) (s : State) : Result :=
  match s.findWave wave with
  | some w =>
    match w.halting with
    | some t =>
      if t + s.fw.preemptTimeout ≤ s.cyc then .next (s.changeWave wave (fun w => { w with full := true })) else .next s
    | none => .next s
  | none => .next s

end Sys2Proof.Machine
end

