-- ==== Sys2Proof/Machine/Front.lean ====
section
/-!
DEFINITION. The front ends: scrubs, the physical function's admin commands, the commands of a virtual function, and the
monitors (R153, R222, R223, R229 to R231, R240, R244 to R252, R256 to R260, R277, R281 to R286).
-/

namespace Sys2Proof.Machine

open Sys2Proof

/-- Go on from a result if it is a next state. -/
def andThen (r : Result) (f : State → Result) : Result :=
  match r with
  | .next s => f s
  | x => x

/-- Whether the front ends are live (R33). -/
def frontLive (s : State) : Bool := decide (8 ≤ s.boot.stage) && !s.host.failed

/-- The partition with a number, as it stands or as one never assigned. -/
def partAt (s : State) (p : Nat) : Partition := tgetD s.parts p Partition.empty

/-- Change a partition, present or not. -/
def onPart (s : State) (p : Nat) (f : Partition → Partition) : State := { s with parts := tset s.parts p (f (partAt s p)) }

/-! ### Scrubs (R259, R260, R282) -/

/-- Whether two scrubs share a cluster or a colour (R260). -/
def Scrub.meets (a b : Scrub) : Bool :=
  (decide (a.cbase ≤ b.climit) && decide (b.cbase ≤ a.climit)) || (a.cset &&& b.cset != 0)

/-- Every scrub that has not completed. -/
def allScrubs (s : State) : List Scrub := s.parts.flatMap (fun e => e.2.scrubs)

/-- Whether a scrub waits for an earlier one (R260). -/
def scrubWaits (s : State) (x : Scrub) : Bool := (allScrubs s).any (fun y => decide (y.order < x.order) && y.meets x)

/-- Start every scrub that waits for none (R260). -/
def startScrubs (s : State) : State :=
  { s with parts := s.parts.map (fun (e : Nat × Partition) => (e.1, { e.2 with
      scrubs := e.2.scrubs.map (fun x => if !x.running && !scrubWaits s x then { x with running := true, start := s.cyc } else x) })) }

/-- Whether a scrub in progress covers clusters or colours of a partition (R260). -/
def scrubCovers (s : State) (q : Partition) : Bool :=
  (allScrubs s).any (fun y => y.meets ⟨0, 0, false, 0, 0, 0, false, false, q.cbase, q.climit, q.cset, 0⟩)

/-- Put a scrub of a partition's clusters and colours in its place (R259, R260). -/
def addScrub (p reason : Nat) (admin mute : Bool) (port tag : Nat) (s : State) : State :=
  let q := partAt s p
  let x : Scrub := ⟨reason, s.arrivals, false, s.cyc, tag, port, admin, mute, q.cbase, q.climit, q.cset, q.owner.getD 0⟩
  startScrubs { (onPart s p (fun q => { q with scrubs := q.scrubs ++ [x] })) with arrivals := s.arrivals + 1 }

/-- A core as a scrub leaves it: its tile store and accumulator slots are zero; waves and blocks it has none (R259). -/
def Core.scrubbed (c : Core) : Core :=
  { c with tile := [], scales := [], tags := [], acc := [], accown := [], checks := [], poisonT := [], poisonZ := [], poisonO := [] }

/-- The clusters that a scrub covers, as a test on cores. -/
def Scrub.hasCore (x : Scrub) (core : Nat) : Bool := decide (x.cbase ≤ core / 4) && decide (core / 4 ≤ x.climit)

/-- One entry of a receipt (R282). -/
def receiptEntry (kind unit zeroed cyc : Nat) : List Byte :=
  leSplit 2 kind ++ leSplit 2 unit ++ leSplit 4 0 ++ leSplit 8 zeroed ++ leSplit 8 cyc ++ leSplit 8 0

/-- The entries of a core: four, or one if it is retired (R282). -/
def coreEntries (s : State) (core : Nat) : List (List Byte) :=
  if s.retCores.contains core then [receiptEntry 6 core 0 s.cyc]
  else [receiptEntry 1 core 524288 s.cyc, receiptEntry 2 core 1048576 s.cyc, receiptEntry 3 core 6291456 s.cyc,
        receiptEntry 4 core 262144 s.cyc]

/-- The receipt of a scrub that completes now (R282). -/
def receiptBytes (s : State) (p : Nat) (x : Scrub) : List Byte :=
  let cores := (List.range (4 * (x.climit + 1 - x.cbase))).map (4 * x.cbase + ·)
  let colours := (List.range 32).filter (fun i => x.cset.getLsbD i)
  let entries := cores.flatMap (coreEntries s) ++ colours.map (fun i => receiptEntry 5 i 402653184 s.cyc)
  let body := leSplit 4 0x00524353 ++ leSplit 4 1 ++ leSplit 4 s.receiptN ++ leSplit 1 p ++ leSplit 1 x.reason ++
    leSplit 2 entries.length ++ leSplit 8 x.owner ++ leSplit 8 x.start ++ leSplit 8 s.cyc ++ leSplit 8 s.boot.serial ++
    List.replicate 16 0 ++ entries.flatten
  body ++ fitBytes 4627 (Config.mlDsaSign body) ++ fitBytes 96 (Config.ecdsaSign body)

/-- The bytes of the receipt store (R282). -/
abbrev receiptStore : Nat := 2 ^ 24

/-- Where the next receipt stands: behind the newest, or at the ring's start where it would not fit (R282). -/
def receiptPlace (s : State) (size : Nat) : Nat :=
  match s.receipts.getLast? with
  | some r => if receiptStore < r.offset + r.bytes.length + size then 0x1000 else r.offset + r.bytes.length
  | none => 0x1000

/-- Put a receipt into the ring; those it overwrites are gone (R282). -/
def addReceipt (s : State) (bs : List Byte) : State :=
  let at_ := receiptPlace s bs.length
  let kept := s.receipts.filter (fun r => decide (r.offset + r.bytes.length ≤ at_) || decide (at_ + bs.length ≤ r.offset))
  { s with receipts := kept ++ [⟨s.receiptN, at_, bs⟩], receiptN := (s.receiptN + 1) % 2 ^ 32 }

/-- A scrub completes: zeroes, receipt, the admin command that waited for it, and SCRUB_DONE (R259, R260, R282). Lines of its
colours are written back before they are discarded, so memory keeps what it holds. -/
def finishScrub (p : Nat) (x : Scrub) (s : State) : State :=
  let s := dropLines s (fun l => x.cset.getLsbD (l.bank / 32))
  let s := { s with cores := s.cores.map (fun (e : Nat × Core) => if x.hasCore e.1 then (e.1, e.2.scrubbed) else e) }
  let bs := receiptBytes s p x
  let at_ := receiptPlace s bs.length
  let s := onPart (addReceipt s bs) p (fun q => { q with scrubs := q.scrubs.filter (fun y => y.order != x.order) })
  let s := if x.admin then { s with adminBusy := false } else s
  let s := if x.admin && !x.mute then completeAdmin s x.port x.tag stOk [] else s
  startScrubs (event s p evScrubDone 0 [at_])

/-- SCRUB_COMPLETE (R260): the partition's running scrub completes. -/
def execScrubComplete (p : Nat) (s : State) : Result :=
  match (partAt s p).scrubs.find? (·.running) with
  | some x => .next (finishScrub p x s)
  | none => .next s

/-! ### Keys (R281) -/

/-- The lines that are held under a key id. -/
def linesUnder (s : State) (k : Nat) : List Nat := (s.lineKey.filter (fun e => e.2.toNat == k)).map (·.1)

/-- Write back every line under a key id, so that memory holds it as plaintext-keyed accesses read it, and zero the slot
(R259, R281). -/
def retireKey (s : State) (k : Nat) : State :=
  let s := dropLines s (fun x => x.key == k)
  { (linesUnder s k).foldl (fun s line => rekeyLine s 0 (128 * line)) s with keys := terase s.keys k }

/-- Discard a line: HBM holds there whatever was last written back (R144, R281; log 5). -/
def discardLine (s : State) (line : Nat) : State :=
  { s with
    mem := ssetFrom s.mem (128 * line) ((List.range 128).map (fun j => Config.freeByte (s.fresh + j))),
    lineKey := serase s.lineKey line, fresh := s.fresh + 128 }

/-- The lines of the bank array under a key id that hold a write not yet in HBM. -/
def unsavedLines (s : State) (k : Nat) : List Nat := (s.array.filter (fun e => e.2.key == k && e.2.written)).map (·.1)

/-- KEY_CLEAR's effect: the slot is zeroed and the key id's bank-array lines are discarded, with the writes not yet in HBM that
they hold. What HBM holds under the key stays there as the key has encrypted it (R144, R281). -/
def clearKey (s : State) (k : Nat) : State := retireKey ((unsavedLines s k).foldl discardLine s) k

/-! ### Admin commands (R223, R244, R245, R250, R260, R277) -/

/-- Whether two partitions share a cluster or a colour (R244). -/
def Partition.meets (q : Partition) (cbase climit : Nat) (cset : BitVec 32) : Bool :=
  q.owner.isSome && ((decide (q.cbase ≤ climit) && decide (cbase ≤ q.climit)) || (q.cset &&& cset != 0))

/-- The status that refuses a PART_ASSIGN, if any (R244, R260). -/
def assignRefusal (s : State) (p cbase climit : Nat) (cset : BitVec 32) (grants : List Nat) : Option Nat :=
  if 32 ≤ p then some stBadCmd
  else if (partAt s p).owner.isSome then some stBusy
  else if cset = 0 ∨ climit < cbase ∨ 128 ≤ climit ∨ grants.any (fun k => decide (4096 ≤ k)) then some stBadCmd
  else if s.parts.any (fun e => e.2.meets cbase climit cset) then some stBadCmd
  else if s.blocks.any (fun b => !b.ended && decide (cbase ≤ b.core / 4) && decide (b.core / 4 ≤ climit)) then some stBusy
  else none

/-- A partition as PART_ASSIGN assigns it; its log chains anew (R244, R250, R286). -/
def Partition.assigned (q : Partition) (cbase climit : Nat) (cset : BitVec 32) (grants : List Nat) (quota owner : Nat) :
    Partition :=
  { q with owner := some owner, cbase := cbase, climit := climit, cset := cset, grants := grants, quota := quota, charged := 0,
           chain := List.replicate 16 0 }

/-- Complete an admin command unless its completion is discarded (R31). -/
def answerAdmin (mute : Bool) (port tag status : Nat) (s : State) : State :=
  if mute then s else completeAdmin s port tag status []

/-- PART_ASSIGN: accepted, it completes with its scrub (R244, R260). -/
def assignPart (mute : Bool) (port tag p cbase climit : Nat) (cset : BitVec 32) (grants : List Nat) (quota owner : Nat)
    (s : State) : State :=
  match assignRefusal s p cbase climit cset grants with
  | some status => answerAdmin mute port tag status s
  | none =>
    let s := onPart s p (fun q => q.assigned cbase climit cset grants quota owner)
    { (addScrub p 0 true mute port tag s) with adminBusy := true }

/-- PART_RELEASE: it waits for a scrub that covers its clusters or colours, completes, and starts its own; `none` while it
waits (R250, R259, R260, R281). -/
def releasePart (mute : Bool) (port tag p : Nat) (s : State) : Option State :=
  let q := partAt s p
  if q.owner.isNone then some (answerAdmin mute port tag stBadCmd s)
  else if !q.ctxs.isEmpty then some (answerAdmin mute port tag stBusy s)
  else if scrubCovers s q then none
  else
    let s := addScrub p 1 false false port tag (q.grants.foldl retireKey s)
    let s := onPart s p (fun q => { q with owner := none, cset := 0, grants := [], quota := 0, charged := 0 })
    some (answerAdmin mute port tag stOk s)

/-- A virtual function's device configuration has changed: vector 0, and the configuration bit of the ISR status (R247; virtio 1.2,
log 81). -/
def Virtio.changed (v : Virtio) : Virtio := if v.status.testBit 2 then { v.raise 0 with isr := v.isr ||| 2#8 } else v

/-- DOMAIN_FORM: the device number and the members of its domain (R223); the virtual functions' configuration bytes change
(R247). -/
def formDomain (mute : Bool) (port tag number : Nat) (members : List Nat) (s : State) : State :=
  if 256 ≤ number ∨ members.any (fun m => decide (256 ≤ m)) then answerAdmin mute port tag stBadCmd s
  else
    let s := onFabric s (fun f => { f with number := some number, members := (number :: members).eraseDups })
    let s := { s with parts := s.parts.map (fun (e : Nat × Partition) => (e.1, { e.2 with virtio := e.2.virtio.changed })) }
    answerAdmin mute port tag stOk s

/-- A list of retired units with one more. -/
def withUnit (unit : Nat) (xs : List Nat) : List Nat := if xs.contains unit then xs else xs ++ [unit]

/-- Retire a core (R277). -/
def retireCore (core : Nat) (s : State) : State := { s with retCores := withUnit core s.retCores }

/-- Retire an HBM row, numbered by its sector, if its stack has a spare one: its readable sectors are copied, so memory keeps what it
holds; `none` where no spare row remains (R277). -/
def retireRow (row : Nat) (s : State) : Option State :=
  if s.retRows.contains row then some s
  else if Config.spareRow s.retRows row then some { s with retRows := withUnit row s.retRows }
  else none

/-- Retire a bank of the bank array: its lines are served from HBM (R277). -/
def retireBank (bank : Nat) (s : State) : State :=
  dropLines { s with retBanks := withUnit bank s.retBanks } (fun l => l.bank == bank)

/-- RETIRE: a core, an HBM row or a bank (R277). -/
def retireUnit (mute : Bool) (port tag : Nat) (kind : RetireKind) (unit : Nat) (s : State) : State :=
  match kind with
  | .core => if 512 ≤ unit then answerAdmin mute port tag stBadCmd s else answerAdmin mute port tag stOk (retireCore unit s)
  | .hbmRow =>
    match retireRow unit s with
    | some t => answerAdmin mute port tag stOk t
    | none => answerAdmin mute port tag stBusy s
  | .bank => if 1024 ≤ unit then answerAdmin mute port tag stBadCmd s else answerAdmin mute port tag stOk (retireBank unit s)

/-! ### The default retirement policy (R277) -/

/-- The ticks of 24 hours. -/
abbrev dayTicks : Nat := 86400000000000

/-- Whether a recorded error counts against the core that it names: a CONSUMED record of a unit of the core, or a SIGNATURE record (R277;
that a consumed sector of memory does not count is the model's choice, log 99). -/
def ErrorNote.ofCore (core : Nat) (x : ErrorNote) : Bool :=
  x.core == core && (x.kind == 5 || (x.kind == 2 && decide (x.unit ≤ 4)))

/-- Whether three of the records against a core lie within 24 hours (R277). -/
def coreWorn (notes : List ErrorNote) (core : Nat) : Bool :=
  let times := (notes.filter (ErrorNote.ofCore core)).map (·.cyc)
  times.any (fun t => decide (3 ≤ (times.filter (fun u => decide (t ≤ u) && decide (u < t + dayTicks))).length))

/-- The HBM rows with a PATROL or CONSUMED record (R277). -/
def wornRows (notes : List ErrorNote) : List Nat :=
  ((notes.filter (fun x => x.unit == 6 && (x.kind == 2 || x.kind == 4))).map (fun x => x.addr / 32)).eraseDups

/-- The banks with two uncorrectable records (R277). -/
def wornBanks (notes : List ErrorNote) : List Nat :=
  let banks := notes.filterMap (·.bank)
  banks.eraseDups.filter (fun b => decide (2 ≤ (banks.filter (· == b)).length))

/-- The default firmware policy retires what the recorded errors have worn out and is not retired yet (R277). -/
def retireWorn (s : State) : State :=
  if s.evidence.isEmpty then s
  else
    let cores := (((s.evidence.map (·.core)).eraseDups).filter (coreWorn s.evidence)).filter (fun c => !s.retCores.contains c)
    let banks := (wornBanks s.evidence).filter (fun b => !s.retBanks.contains b)
    let s := cores.foldl (fun s c => retireCore c s) s
    let s := (wornRows s.evidence).foldl (fun s r => (retireRow r s).getD s) s
    banks.foldl (fun s b => retireBank b s) s

/-- Perform an admin command; `none` while it waits. -/
def runAdmin (mute : Bool) (i : Instr) (s : State) : Option State :=
  match i with
  | .partAssign port tag p cbase climit cset grants quota owner =>
    some (assignPart mute port tag p cbase climit cset grants quota owner s)
  | .partRelease port tag p => releasePart mute port tag p s
  | .domainForm port tag number members => some (formDomain mute port tag number members s)
  | .retire port tag kind unit => some (retireUnit mute port tag kind unit s)
  | _ => some s

/-- Perform queued admin commands one at a time, in order of arrival (R245). The first argument bounds their number. -/
def runAdmins : Nat → State → State
  | 0, s => s
  | fuel + 1, s =>
    if s.adminBusy then s
    else
      match s.adminQueue with
      | [] => s
      | (mute, i) :: rest =>
        match runAdmin mute i { s with adminQueue := rest } with
        | some t => runAdmins fuel t
        | none => s

/-- An admin command arrives on a port whose link is up (R18, R245). -/
def adminArrives (port : Nat) (i : Instr) (s : State) : State :=
  if !frontLive s || !(s.host.portUp.getD port false) then s
  else runAdmins (s.adminQueue.length + 1) { s with adminQueue := s.adminQueue ++ [(false, i)] }

/-- PART_ASSIGN (R244, R260). -/
def execPartAssign (port tag p cbase climit : Nat) (cset : BitVec 32) (grants : List Nat) (quota owner : Nat) (s : State) :
    Result :=
  .next (adminArrives port (.partAssign port tag p cbase climit cset grants quota owner) s)

/-- PART_RELEASE (R250). -/
def execPartRelease (port tag p : Nat) (s : State) : Result := .next (adminArrives port (.partRelease port tag p) s)

/-- DOMAIN_FORM (R223). -/
def execDomainForm (port tag number : Nat) (members : List Nat) (s : State) : Result :=
  .next (adminArrives port (.domainForm port tag number members) s)

/-- RETIRE (R277). -/
def execRetire (port tag : Nat) (kind : RetireKind) (unit : Nat) (s : State) : Result :=
  .next (adminArrives port (.retire port tag kind unit) s)

/-! ### How a command of a virtual function comes out -/

/-- A command's outcome: completed with a status and detail, held, or stopped at a device register. -/
inductive CmdOut where
  | done (s : State) (status : Nat) (detail : List Nat)
  | held (s : State) (a : Await) (result : Option (Nat × List Nat))
  | device (pa : Nat)
  deriving DecidableEq, Repr

/-- How a read of the front end comes out (R252). -/
inductive FrontRead where
  | got (bs : List Byte)
  | faults (va cause : Nat)
  | bad
  | device (pa : Nat)
  deriving DecidableEq, Repr

/-- The leaves of the pieces of a range that the front end reads, or what each meets (R252). -/
def frontFinds (s : State) (p ctx va n : Nat) : List (Nat × Except (Nat × Cause) (Leaf × (Nat × Nat))) :=
  (cutRange (n / 64 + 2) va n).map (fun (e : Nat × Nat) =>
    (noLane, match access s p ctx .load e.1 1 with | .ok l => .ok (l, e) | .error c => .error (e.1, c)))

/-- Read bytes as loads of a context (R252). A poisoned sector cannot be used (R264). -/
def frontRead (s : State) (p ctx va n : Nat) : FrontRead :=
  let found := frontFinds s p ctx va n
  match firstCause (laneCauses found) with
  | some c =>
    match c.2.2 with
    | .device pa => .device pa
    | x => if x.category = 3 then .faults c.2.1 x.code else .bad
  | none =>
    let pieces := (laneFinds found).map (·.2)
    if pieces.any (fun e => rangePoisoned s e.1 e.2.1 e.2.2) then .bad
    else .got (pieces.flatMap (fun e => loadBytes s e.1 e.2.1 e.2.2))

/-- The state after the front end has read a range: the page tables are walked, and, where nothing stops the read, the lines of the bytes
are read (R144, R145, R252). -/
def frontTouched (s : State) (p ctx va n : Nat) : State :=
  let t := touchWalks s p ctx ((cutRange (n / 64 + 2) va n).map (·.1))
  match frontRead s p ctx va n with
  | .got _ => (laneFinds (frontFinds s p ctx va n)).foldl (fun t e => touch t p false e.2.1 e.2.2.1 e.2.2.2) t
  | _ => t

/-- Go on with bytes that a command reads; a resolvable fault holds the command (R252). -/
def readThen (s : State) (p ctx va n : Nat) (f : State → List Byte → CmdOut) : CmdOut :=
  let t := frontTouched s p ctx va n
  match frontRead s p ctx va n with
  | .got bs => f t bs
  | .bad => .done t stBadCmd []
  | .device pa => .device pa
  | .faults a cause =>
    let r := pageRequest t p ctx a cause 0 (.command ctx)
    if r.2.2 then .held r.1 .fault none else .done r.1 stBadCmd []

/-! ### Contexts (R250, R257, R258) -/

/-- SAVE_SIZE (R257). -/
def saveSize (q : Partition) : Nat := 3823616 * 4 * (q.climit - q.cbase + 1)

/-- CTX_OPEN (R250, R258). The model's choice: a root in unbacked PA space is accepted, and its entries read as zero (log 77). -/
def openCtx (s : State) (p ctx root save weight : Nat) (wall : Bool) : CmdOut :=
  if (s.findCtx p ctx).isSome then .done s stBusy []
  else if root % 2 ^ 15 ≠ 0 ∨ 2 ^ 52 ≤ root ∨ 2 ^ 64 ≤ save ∨ weight = 0 ∨ 255 < weight then .done s stBadCmd []
  else
    .done (setPart s p (fun q => { q with ctxs := tset q.ctxs ctx (Ctx.opened root save weight wall s.cyc) })) stOk
      [saveSize (partAt s p)]

/-- CTX_CLOSE (R250, R257, R259, R260): that of the last context which is not closing already starts a scrub, so it waits for one
that covers its partition. -/
def closeCtx (s : State) (p ctx : Nat) : CmdOut :=
  let others := (partAt s p).ctxs.filter (fun e => e.1 != ctx && e.2.closing.isNone && e.2.leaving != some .close)
  if others.isEmpty ∧ scrubCovers s (partAt s p) then .held s .scrub none
  else .held (leave .close p ctx s) .close none

/-- PAUSE (R257, R258). -/
def pauseCtx (s : State) (p ctx : Nat) : CmdOut :=
  match s.findCtx p ctx with
  | some c => if c.paused.isSome then .done s stOk [] else .held (leave .pause p ctx s) .save none
  | none => .done s stNoCtx []

/-- OFF after a RESUME, and the step of GTIME, if there is one (R258). -/
def resumedOff (cyc elapsed : Nat) (c : Ctx) (g at_ : Nat) : Int × Option Nat :=
  if c.wall then
    let e := if elapsed = 0 then cyc - at_ else elapsed
    ((g + e : Int) - cyc, some e)
  else ((g : Int) - cyc, none)

/-- RESUME (R258): GTIME goes on by the context's mode. -/
def resumeCtx (s : State) (p ctx elapsed : Nat) : CmdOut :=
  match s.findCtx p ctx with
  | none => .done s stNoCtx []
  | some c =>
    match c.paused with
    | none => .done s stOk []
    | some (g, at_) =>
      let r := resumedOff s.cyc elapsed c g at_
      let t := s.changeCtx p ctx (fun c => { c with off := r.1, paused := none, agedAt := s.cyc })
      .done (match r.2 with | some e => event t p evGtimeStep ctx [e] | none => t) stOk []

/-! ### Translations (R153) -/

/-- Whether the bound page of a translation register overlaps a range. -/
def TReg.overlaps (t : TReg) (va length : Nat) : Bool :=
  let page := t.base.toNat - t.base.toNat % (max 1 t.size)
  decide (page < va + length) && decide (va < page + t.size)

/-- A translation register after an invalidation: LIMIT 0 if its page overlaps the range (R153). -/
def TReg.invalidated (va length : Nat) (t : TReg) : TReg := if t.overlaps va length then { t with limit := 0 } else t

/-- A logged request after an invalidation: its replay translates anew (R153, R156). -/
def MemReq.invalidated (f : TReg → TReg) : MemReq → MemReq
  | .vload d n t ls => .vload d n (f t) ls
  | .vloadE d t ls => .vloadE d (f t) ls
  | .vstore n t ls => .vstore n (f t) ls
  | .vstoreE t ls => .vstoreE (f t) ls
  | .atom d o t ls => .atom d o (f t) ls
  | .red o t ls => .red o (f t) ls
  | .xfer c t ls => .xfer c (f t) ls
  | r => r

/-- The translation registers of a table after an invalidation. -/
def invalidTab (f : TReg → TReg) (a : Tab TReg) : Tab TReg := a.map (fun e => (e.1, f e.2))

/-- A wave after an invalidation: its registers, and the copies in its log and in a fused sequence (R153). -/
def Wave.invalidated (va length : Nat) (w : Wave) : Wave :=
  let f := TReg.invalidated va length
  { w with
    a := invalidTab f w.a,
    service := w.service.map (fun v => { v with
      req := v.req.invalidated f, before := { v.before with a := invalidTab f v.before.a } }),
    fuse := w.fuse.map (fun x => { x with before := { x.before with a := invalidTab f x.before.a } }) }

/-- INVALIDATE (R153). -/
def invalidateRange (s : State) (p ctx va length : Nat) : CmdOut :=
  .done (s.changeWaves (Wave.ofCtx p ctx) (Wave.invalidated va length)) stOk []

/-! ### Launches (R56, R79, R252) -/

/-- A launch header as its fields read (R252). -/
def headerLaunch (bs : List Byte) (node : Option Nat) : Launch :=
  let w (k : Nat) : Nat := fieldBytes bs (8 * k) 8
  { regs := field (w 0) 0 8, waves := field (w 0) 8 4, blocks := field (w 0) 12 3, gbar := (w 0).testBit 16,
    nonreplay := (w 0).testBit 17, graph := (w 0).testBit 18, prio := field (w 0) 20 3,
    scratch := (field (w 0) 32 32 + 4095) / 4096 * 4096, widths := (List.range 5).map (fun k => field (w 1) (6 * k) 6),
    grid := (List.range 3).map (fun k => field (w 2) (20 * k) 20 + 1), entry := BitVec.ofNat 64 (w 3),
    args := BitVec.ofNat 64 (w 4), coalesce := 0, flush := 0, succ := [], emitMax := field (w 6) 0 16, node := node,
    argBytes := [], finished := 0 }

/-- Whether a launch header keeps the limits of R252. -/
def headerOk (bs : List Byte) (l : Launch) : Bool :=
  let w (k : Nat) : Nat := fieldBytes bs (8 * k) 8
  onlyBits (w 0) 0xFFFFFFFF00777FFF && onlyBits (w 1) 0x3FFFFFFF && onlyBits (w 2) 0x0FFFFFFFFFFFFFFF &&
  decide (16 ≤ l.regs) && decide (l.regs ≤ 56) && decide (1 ≤ l.waves) && decide (l.waves ≤ 8) &&
  decide (1 ≤ l.blocks) && decide (l.blocks ≤ 4) && decide (l.scratch ≤ 2 ^ 20) &&
  l.entry.toNat % 64 == 0 && (l.graph || w 5 == 0) && onlyBits (w 6) 0xFFFF && w 7 == 0

/-- Whether the widths of a launch hold its waves, blocks and counts (R56, R252). -/
def widthsOk (l : Launch) : Bool :=
  decide (6 + l.widths.foldl (· + ·) 0 ≤ 64) && decide (l.waves ≤ 2 ^ l.widths.getD 0 0) &&
  decide (l.blocks ≤ 2 ^ l.widths.getD 1 0) &&
  (List.range 3).all (fun k => decide (l.grid.getD k 1 ≤ 2 ^ l.widths.getD (k + 2) 0))

/-- Whether a node descriptor keeps its limits (R252). -/
def descriptorOk (bs : List Byte) : Bool :=
  let w (k : Nat) : Nat := fieldBytes bs (8 * k) 8
  onlyBits (w 0) 0xFFFFFFFF7F && decide (1 ≤ field (w 0) 0 7) && decide (field (w 0) 0 7 ≤ 64) &&
  (List.range 16).all (fun k => decide (fieldBytes bs (8 + 2 * k) 2 ≤ 255) || fieldBytes bs (8 + 2 * k) 2 == 0xFFFF) &&
  (List.range 3).all (fun k => w (5 + k) == 0)

/-- A launch with its node descriptor (R252). -/
def Launch.described (l : Launch) (bs : List Byte) : Launch :=
  { l with coalesce := field (fieldBytes bs 0 8) 0 7, flush := field (fieldBytes bs 0 8) 8 32,
           succ := (List.range 16).map (fun k => fieldBytes bs (8 + 2 * k) 2) }

/-- Whether an address lies on a code page (R252). -/
def onCodePage (s : State) (p ctx va : Nat) : Except Nat Bool :=
  match translate s p ctx va with
  | .ok l => .ok (l.cls == 5)
  | .error (.device pa) => .error pa
  | .error _ => .ok false

/-- How many bytes of the argument block the front end reads (R252). The manual gives the block no length, which is free; nothing is
read where the header's VA is 0 (log 19). -/
def argumentLength (l : Launch) : Nat := if l.args = 0 then 0 else Config.argumentLength l.args

/-- Read the argument block and the node descriptor of a launch (R252). -/
def readOperands (s : State) (p ctx : Nat) (l : Launch) (descriptor : Nat) (f : State → Launch → CmdOut) : CmdOut :=
  readThen s p ctx l.args.toNat (argumentLength l) (fun s args =>
    let l := { l with argBytes := args }
    if l.graph then
      readThen s p ctx descriptor 64 (fun s d => if descriptorOk d then f s (l.described d) else .done s stBadCmd [])
    else f s l)

/-- Read and check a launch header, and go on with the launch (R56, R252). -/
def readLaunch (s : State) (p ctx header : Nat) (node : Option Nat) (f : State → Launch → CmdOut) : CmdOut :=
  if header % 64 ≠ 0 then .done s stBadCmd []
  else
    readThen s p ctx header 64 (fun s bs =>
      let l := headerLaunch bs node
      if !headerOk bs l then .done s stBadCmd []
      else
        let s := touchWalks s p ctx [l.entry.toNat]
        match onCodePage s p ctx l.entry.toNat with
        | .error pa => .device pa
        | .ok false => .done s stBadCmd []
        | .ok true =>
          if !widthsOk l then .done s stWidths []
          else readOperands s p ctx l (fieldBytes bs 40 8) f)

/-- The blocks of a launch that one core holds at once: by its resident-wave places, its register files and its scratchpad
(R79, R254). -/
def coreHolds (s : State) (l : Launch) (core : Nat) : Nat :=
  if s.retCores.contains core then 0
  else
    let places := ((List.range 4).filter (quadEnabled s core)).length * min 8 (512 / l.regs)
    let blocks := places / l.waves
    if l.scratch = 0 then blocks else min blocks (2 ^ 20 / l.scratch)

/-- The spans of a launch that one cluster holds at once: each takes BLOCKS different cores. -/
def clusterHolds (s : State) (l : Launch) (cluster : Nat) : Nat :=
  let ks := (List.range 4).map (fun k => coreHolds s l (4 * cluster + k))
  ((List.range 129).filter (fun n => decide (n * l.blocks ≤ (ks.map (min n)).foldl (· + ·) 0))).getLast?.getD 0

/-- Whether a grid can be resident at once in its partition (R79). -/
def coResident (s : State) (q : Partition) (l : Launch) : Bool :=
  let clusters := (List.range (q.climit + 1 - q.cbase)).map (q.cbase + ·)
  decide (l.grid.foldl (· * ·) 1 ≤ (clusters.map (clusterHolds s l)).foldl (· + ·) 0)

/-- The lowest number that a table of launch records does not use. -/
def freeNumber {α : Type} (m : Tab α) : Nat :=
  ((List.range (m.length + 1)).find? (fun k => (tget m k).isNone)).getD m.length

/-- Retain a launch record (R252); its number is in the completion. -/
def addLaunch (s : State) (p ctx : Nat) (l : Launch) (f : Nat → Ctx → Ctx) : CmdOut :=
  match s.findCtx p ctx with
  | none => .done s stNoCtx []
  | some c =>
    let n := freeNumber c.launches
    .done (s.changeCtx p ctx (fun c => f n { c with
      launches := tset c.launches n l, agedAt := if c.launches.isEmpty then s.cyc else c.agedAt })) stOk [n]

/-- LAUNCH (R252). -/
def launchGrid (s : State) (p ctx header : Nat) : CmdOut :=
  readLaunch s p ctx header none (fun s l =>
    if l.gbar && !coResident s (partAt s p) l then .done s stNotCoresident []
    else addLaunch s p ctx l (fun _ c => c))

/-- NODE (R84, R252): a node needs a descriptor, and a declared node is left unchanged. The model's choice: a header with the GBAR flag
is accepted without a test of co-residence (log 84). -/
def declareNode (s : State) (p ctx n header : Nat) : CmdOut :=
  if 256 ≤ n then .done s stBadCmd []
  else if nodeDeclared s p ctx n then .done s stBusy []
  else
    readLaunch s p ctx header (some n) (fun s l =>
      if !l.graph then .done s stBadCmd []
      else addLaunch s p ctx l (fun k c => { c with nodes := tset c.nodes n ⟨k, s.cyc, [], 0, []⟩ }))

/-- Cut bytes into records of 16. -/
def cutRecords (bs : List Byte) (count : Nat) : List (List Byte) := (List.range count).map (fun k => (bs.drop (16 * k)).take 16)

/-- RECORDS (R84, R256). -/
def enqueueRecords (s : State) (p ctx n va count : Nat) : CmdOut :=
  if !nodeDeclared s p ctx n then .done s stBadCmd []
  else
    readThen s p ctx va (16 * count) (fun s bs =>
      let q := partAt s p
      if q.quota < q.charged + count then .done s stQuota []
      else
        let t := setPart s p (fun q => { q with charged := q.charged + count })
        .done (appendRecords t p ctx n (cutRecords bs count)) stOk [])

/-! ### Windows, flows and domains (R222, R229 to R231, R240, R283) -/

/-- Whether a valid transmit-window entry keeps the rules of its table (R229). -/
def windowOk (q : Partition) (n : Nat) (e : EntryWords) : Bool :=
  onlyBits e.w0.toNat 0x1FFFF01 && e.w1.toNat % 2 ^ 15 == 0 && e.w2.toNat % 2 ^ 15 == 0 && decide (2 ^ 15 ≤ e.w2.toNat) &&
  e.w3.toNat % 2 ^ 15 == 0 &&
  q.txwin.all (fun x => x.1 == n || field x.2.w0.toNat 0 1 == 0 ||
    decide (x.2.w1.toNat + x.2.w2.toNat ≤ e.w1.toNat) || decide (e.w1.toNat + e.w2.toNat ≤ x.2.w1.toNat))

/-- Whether a store is still on its way on a path: in the combining buffer, or not acknowledged (R230). -/
def pathBusy (s : State) (key : PathKey) : Bool :=
  (partAt s key.part).combining.any (fun e => e.1 == key) || !(unackedOn s key).isEmpty

/-- TXWIN (R229, R230): the change completes once the stores on the entry's old path are acknowledged or lost. -/
def writeWindow (s : State) (p n : Nat) (e : EntryWords) : CmdOut :=
  if 256 ≤ n ∨ (field e.w0.toNat 0 1 = 1 ∧ !windowOk (partAt s p) n e) then .done s stBadCmd []
  else
    let t := setPart s p (fun q => { q with txwin := tset q.txwin n e })
    match tget (partAt s p).txwin n with
    | some old =>
      if field old.w0.toNat 0 1 = 1 then .held t (.path ⟨field old.w0.toNat 8 8, p, n, false⟩) (some (stOk, []))
      else .done t stOk []
    | none => .done t stOk []

/-- Whether a valid remote-access entry keeps the rules of its table (R231). -/
def ratOk (e : EntryWords) : Bool :=
  onlyBits e.w0.toNat 0x1FF0001 && e.w1.toNat % 4 == 0 && onlyBits e.w2.toNat 0xFFFFFFFF && e.w3.toNat % 2 ^ 14 == 0

/-- Whether an RST by a remote-access entry is still on its way to any device: its path has the number 256 + entry (R228, R230). -/
def entryBusy (s : State) (p n : Nat) : Bool :=
  s.fabric.outs.any (fun o => o.key.part == p && o.key.number == 256 + n && !o.key.reverse &&
    o.unacked.any (fun k => (storeVas k.packet.payload).isSome))

/-- RAT (R229, R231): as for TXWIN, the change of a valid entry completes once the RSTs by it are acknowledged or lost (R230; log
59). -/
def writeRat (s : State) (p n : Nat) (e : EntryWords) : CmdOut :=
  if 64 ≤ n ∨ (field e.w0.toNat 0 1 = 1 ∧ !ratOk e) then .done s stBadCmd []
  else
    let t := setPart s p (fun q => { q with rat := tset q.rat n e })
    match tget (partAt s p).rat n with
    | some old => if field old.w0.toNat 0 1 = 1 then .held t (.entry n) (some (stOk, [])) else .done t stOk []
    | none => .done t stOk []

/-- Whether the fields of a flow are in range (R224, R240). -/
def flowOk (f : FlowFields) : Bool :=
  decide (f.localPort < 65536) && decide (f.remotePort < 65536) && decide (f.remoteFlow < 4096) &&
  decide (f.remoteAsid < 512) && decide (f.tclass < 256)

/-- FLOW (R240). -/
def writeFlow (s : State) (p n : Nat) (fields : Option FlowFields) : CmdOut :=
  if 4096 ≤ n then .done s stBadCmd []
  else
    match fields with
    | none => .done (setPart s p (fun q => { q with flows := terase q.flows n })) stOk []
    | some f =>
      if flowOk f then .done (setPart s p (fun q => { q with flows := tset q.flows n (Flow.opened f s.fw.flowTimeout s.cyc) })) stOk []
      else .done s stBadCmd []

/-- Whether a wave of a partition has a domain bound (R222). -/
def domainBound (s : State) (p domid : Nat) : Bool :=
  s.allWaves.any (fun w => w.span.part == p && w.xdom.getLsbD 63 && field w.xdom.toNat 0 6 == domid)

/-- Whether a record for a domain has been received and neither applied nor refused (R222). -/
def recordComing (s : State) (p domid : Nat) : Bool :=
  s.fabric.ins.any (fun o => o.key.part == p && (o.ready ++ o.held).any (fun k =>
    match k.payload with | .record _ _ _ d _ _ _ _ => d == domid | _ => false))

/-- DOMAIN_RELEASE (R222). -/
def releaseDomain (s : State) (p domid : Nat) : CmdOut :=
  match findDomain s p domid with
  | none => .done s stBadCmd []
  | some d =>
    if domainBound s p domid || d.links.any (fun l => l.sent != l.acked + l.refunded) || recordComing s p domid then
      .done s stBusy []
    else
      let t := setPart s p (fun q => { q with domains := terase q.domains domid })
      .done { t with marks := t.marks.filter (fun e => e.2 != (p, domid)) } stOk []

/-- The sum of the cells of a domain but one, each at its home (R202, R283). -/
def otherCells (s : State) (d : Domain) (cell : Nat) : Int :=
  ((List.range d.ncell).filter (· != cell)).foldl (fun (sum : Int) (c : Nat) =>
    match d.home c with
    | some l => sum + cellValue s l (d.base + 4 * c)
    | none => sum) 0

/-- The lines of the cells of a domain but one have been read (R144, R283). -/
def readCells (s : State) (p : Nat) (d : Domain) (cell : Nat) : State :=
  ((List.range d.ncell).filter (· != cell)).foldl (fun (t : State) (c : Nat) =>
    match d.home c with
    | some l => touch t p false l (d.base + 4 * c) 4
    | none => t) s

/-- CELL_REPAIR (R283): the cell's value from INTERIOR and the others, as one act, with fresh ECC for its sector. -/
def repairCell (s : State) (p domid cell : Nat) : CmdOut :=
  match findDomain s p domid with
  | none => .done s stBadCmd []
  | some d =>
    let va := d.base + 4 * cell
    match d.home cell with
    | none => .done s stBadCmd []
    | some l =>
      if d.lost ≠ [cell] then .done s stBadCmd []
      else
        let t := changeDomain (putCell (readCells s p d cell) p l va (d.interior - otherCells s d cell)) p domid (fun d => { d with lost := [] })
        .done { t with poison := serase t.poison (l.pa va / 32) } stOk []

/-! ### Monitors, logs and keys (R281, R284 to R286) -/

/-- Whether the fields of a monitor are in range (R284, R285). -/
def monitorOk (m : Nat) : MonitorFields → Bool
  | .disable => decide (m < 80)
  | .range base length ctx =>
    decide (m < 64) && base % 2 ^ 15 == 0 && length % 2 ^ 15 == 0 && (match ctx with | some c => decide (c < 16) | none => true)
  | .level source base shift =>
    decide (64 ≤ m) && decide (m < 80) && decide (source ≤ 6) && decide (base < 2 ^ 32) && decide (shift ≤ 31)

/-- MONITOR (R284, R286): a monitor that is disabled writes its entry; enabling one clears its counts. -/
def writeMonitor (s : State) (p m : Nat) (fields : MonitorFields) : CmdOut :=
  if !monitorOk m fields then .done s stBadCmd []
  else
    match fields with
    | .disable =>
      .done (setPart s p (fun q => let q := appendLog s.cyc m 1 q; { q with monitors := terase q.monitors m })) stOk []
    | f => .done (setPart s p (fun q => { q with monitors := tset q.monitors m ⟨f, [], 0, 0, false⟩ })) stOk []

/-- LOG_READ (R286): the entries from a SEQ on, unchanged, to a host address; the completion counts them. -/
def readLog (s : State) (p first count address : Nat) : CmdOut :=
  let wanted (e : List Byte) : Bool := decide ((fieldBytes e 0 4 + 2 ^ 32 - first % 2 ^ 32) % 2 ^ 32 < count)
  let es := (partAt s p).log.filter wanted
  .done { s with hostMem := s.hostMem ++ [(address, es.flatten)] } stOk [es.length]

/-- KEY_LOAD (R281): a granted slot, once. -/
def loadKey (s : State) (p key : Nat) (material : List Byte) : CmdOut :=
  if key = 0 ∨ !(partAt s p).grants.contains key ∨ (tget s.keys key).isSome ∨ material.length ≠ 64 then .done s stBadCmd []
  else .done { s with keys := tset s.keys key material } stOk []

/-- KEY_CLEAR (R281). -/
def eraseKey (s : State) (p key : Nat) : CmdOut :=
  if key = 0 ∨ !(partAt s p).grants.contains key then .done s stBadCmd [] else .done (clearKey s key) stOk []

/-- MONITOR_PERIODIC (R286): a monitor whose counts have changed appends an entry. -/
def execMonitorPeriodic (p m : Nat) (s : State) : Result :=
  .next (setPart s p (fun q => match tget q.monitors m with
    | some d => if d.changed then appendLog s.cyc m 0 q else q
    | none => q))

/-- What a monitor of a partition reads of a source that is sampled every 1 us: the entries in its notification queues, the operating
point of each of its islands, or the die temperature that the sensor reports (R285; log 85). -/
def levelReadings (s : State) (p source x : Nat) : List Nat :=
  let q := partAt s p
  match source with
  | 4 => [(q.notif.map (·.2.length)).foldl (· + ·) 0]
  | 5 => ((List.range 64).filter (fun i => decide (q.cbase / 2 ≤ i) && decide (i ≤ q.climit / 2))).map (fun i => (islandAt s i).point)
  | _ => [x]

/-- LEVEL_SAMPLE (R285): a monitor of source 4, 5 or 6 samples it. -/
def execLevelSample (p m x : Nat) (s : State) : Result :=
  .next (setPart s p (fun q =>
    match tget q.monitors m with
    | some d =>
      match d.fields with
      | .level source _ _ => if 4 ≤ source then (levelReadings s p source x).foldl (fun q x => sampleMonitor s.cyc m x q) q else q
      | _ => q
    | none => q))

/-! ### Running commands (R246, R249, R250, R252) -/

/-- Perform a command of an open context; CTX_OPEN opens one. FAULT_REPLY is performed by `replyFault`. -/
def runVf (s : State) (p : Nat) (c : VfCmd) : CmdOut :=
  match c.body with
  | .ctxOpen root save weight wall => openCtx s p c.ctx root save weight wall
  | .ctxClose => closeCtx s p c.ctx
  | .invalidate va length => invalidateRange s p c.ctx va length
  | .launch header => launchGrid s p c.ctx header
  | .node n header => declareNode s p c.ctx n header
  | .records n va count => enqueueRecords s p c.ctx n va count
  | .pause => pauseCtx s p c.ctx
  | .resume elapsed => resumeCtx s p c.ctx elapsed
  | .faultReply _ _ => .done s stOk []
  | .domainRelease domid => releaseDomain s p domid
  | .txwin entry words => writeWindow s p entry words
  | .rat entry words => writeRat s p entry words
  | .flow n fields => writeFlow s p n fields
  | .cellRepair domid cell => repairCell s p domid cell
  | .monitor m fields => writeMonitor s p m fields
  | .logRead first count address => readLog s p first count address
  | .keyLoad key material => loadKey s p key material
  | .keyClear key => eraseKey s p key
  | .timeMode wall => .done (s.changeCtx p c.ctx (fun x => { x with wall := wall })) stOk []
  | .bad => .done s stBadCmd []

/-- Write a completion unless it is discarded (R31, R249). -/
def answerVf (mute : Bool) (p : Nat) (c : VfCmd) (status : Nat) (detail : List Nat) (s : State) : State :=
  if mute then s else complete s p c.port c.tag c.ctx status detail

/-- Change the commands that wait in a context. -/
def onWaiting (s : State) (p ctx : Nat) (f : List HeldCmd → List HeldCmd) : State :=
  s.changeCtx p ctx (fun c => { c with waiting := f c.waiting })

/-- Whether the wait of a held command is over. -/
def awaitOver (s : State) (p : Nat) (c : Ctx) : Await → Bool
  | .fault => false
  | .save => c.leaving.isNone && c.paused.isSome
  | .close => false
  | .path key => !pathBusy s key
  | .entry n => !entryBusy s p n
  | .scrub => !scrubCovers s (partAt s p)
  | .turn => c.leaving != some .close && c.closing.isNone

/-- Go on with the commands that wait in a context, oldest first (R249, R252). The first argument bounds their number. -/
def drainCtx (p ctx : Nat) : Nat → State → Result
  | 0, s => .next s
  | fuel + 1, s =>
    match s.findCtx p ctx with
    | none => .next s
    | some c =>
      match c.waiting with
      | [] => .next s
      | h :: _ =>
        if !awaitOver s p c h.await then .next s
        else
          let out : CmdOut :=
            match h.result, h.await with
            | some r, _ => .done s r.1 r.2
            | none, .save => .done s stOk []
            | none, _ => runVf s p h.cmd
          match out with
          | .done t status detail =>
            drainCtx p ctx fuel (answerVf h.mute p h.cmd status detail (onWaiting t p ctx (·.drop 1)))
          | .held t a r =>
            .next (onWaiting t p ctx (fun ws => match ws with
              | _ :: rest => { h with await := a, result := r } :: rest
              | [] => []))
          | .device pa => .fault (.deviceRegister pa)

/-- Go on with a context's commands. -/
def drainAll (p ctx : Nat) (s : State) : Result :=
  match s.findCtx p ctx with
  | some c => drainCtx p ctx (c.waiting.length + 1) s
  | none => .next s

/-- Put a command behind those that wait in its context. -/
def holdCmd (mute : Bool) (s : State) (p : Nat) (c : VfCmd) (a : Await) (result : Option (Nat × List Nat)) : State :=
  onWaiting s p c.ctx (fun ws => ws ++ [⟨mute, c, a, result⟩])

/-- The commands of a context after the fault of the oldest has been answered: resolved, it goes on; declined, it completes with BADCMD
(R252). -/
def answerHead (resolved : Bool) : List HeldCmd → List HeldCmd
  | h :: rest => if h.await = .fault then { h with await := .turn, result := if resolved then h.result else some (stBadCmd, []) } :: rest else h :: rest
  | [] => []

/-- An open page fault is answered (R156, R233, R251, R252). -/
def answerFault (s : State) (p : Nat) (f : OpenFault) (resolved : Bool) : Result :=
  let s := closeFault s p f.id
  match f.owner with
  | .wave w => if resolved then .next s else declineWave w f.id s
  | .command ctx => drainAll p ctx (onWaiting s p ctx (answerHead resolved))
  | .engine core q => .next (answerEngine s core q f.id resolved)
  | .path key => .next (answerPath s key f.id resolved)
  | .flow n => .next (answerFlow s p n f.id resolved)

/-- An open fault of a partition. -/
def findFault (s : State) (p id : Nat) : Option OpenFault := (partAt s p).faults.find? (fun f => f.id == id)

/-- FAULT_REPLY (R250, R251): it takes effect at once; its completion follows those of the commands before it (R249). -/
def replyFault (mute : Bool) (s : State) (p : Nat) (c : VfCmd) (fault : Nat) (resolve : Bool) : Result :=
  let found := findFault s p fault
  let status := if found.isSome then stOk else stBadCmd
  let waits := match s.findCtx p c.ctx with | some x => !x.waiting.isEmpty | none => false
  let s := if waits then holdCmd mute s p c .turn (some (status, [])) else s
  andThen (match found with | some f => answerFault s p f resolve | none => .next s) (fun t =>
    .next (if waits then t else answerVf mute p c status [] t))

/-- Accept a command of a virtual function (R244, R249, R250): NOCTX without an owner or an open context, BADCMD for a bad one;
behind a command of its context that has not completed it waits, its answer with it. `mute` holds where its completion is discarded
(R31). -/
def acceptVf (mute : Bool) (p : Nat) (c : VfCmd) (s : State) : Result :=
  if (partAt s p).owner.isNone then .next (answerVf mute p c stNoCtx [] s)
  else if 16 ≤ c.ctx then .next (answerVf mute p c stBadCmd [] s)
  else
    match s.findCtx p c.ctx, c.body with
    | some _, .faultReply fault resolve => replyFault mute s p c fault resolve
    | some x, .bad =>
      if x.waiting.isEmpty then .next (answerVf mute p c stBadCmd [] s)
      else .next (holdCmd mute s p c .turn (some (stBadCmd, [])))
    | some x, _ =>
      if !x.waiting.isEmpty || x.closing.isSome || x.leaving == some .close then .next (holdCmd mute s p c .turn none)
      else
        match runVf s p c with
        | .done t status detail => .next (answerVf mute p c status detail t)
        | .held t a r => drainAll p c.ctx (holdCmd mute t p c a r)
        | .device pa => .fault (.deviceRegister pa)
    | none, .ctxOpen root save weight wall =>
      match openCtx s p c.ctx root save weight wall with
      | .done t status detail => .next (answerVf mute p c status detail t)
      | .held t _ _ => .next t
      | .device pa => .fault (.deviceRegister pa)
    | none, .bad => .next (answerVf mute p c stBadCmd [] s)
    | none, _ => .next (answerVf mute p c stNoCtx [] s)

/-- A command that has its outcome completes, or keeps its turn behind those of its context that have not (R249). -/
def answerInTurn (mute : Bool) (p : Nat) (c : VfCmd) (r : Nat × List Nat) (s : State) : State :=
  match s.findCtx p c.ctx with
  | some x => if x.waiting.isEmpty then answerVf mute p c r.1 r.2 s else holdCmd mute s p c .turn (some r)
  | none => answerVf mute p c r.1 r.2 s

/-- Take up again, in order, the commands that waited behind the end of their context, each with its outcome if it has one already
and with whether its completion is discarded (R31, R249). -/
def acceptAll (p : Nat) : List HeldCmd → State → Result
  | [], s => .next s
  | h :: hs, s =>
    andThen (match h.result with
      | some r => .next (answerInTurn h.mute p h.cmd r s)
      | none => acceptVf h.mute p h.cmd s) (acceptAll p hs)

/-! ### Leaving and ending contexts (R250, R257 to R259) -/

/-- The save that was asked for has ended: every span of the context is saved. -/
def endSave (p ctx : Nat) (c : Ctx) (why : Leaving) (s : State) : State :=
  match why with
  | .slice => s.changeCtx p ctx (fun c => { c with leaving := none })
  | .pause => s.changeCtx p ctx (fun x => { x with leaving := none, paused := some ((gtimeOf s.cyc c).toNat, s.cyc) })
  | .close => closeSpans p ctx s

/-- The scrub that the end of a context brings: that of a Function Level Reset with the last of the contexts it closes, or that of
the partition's last context (R259). -/
def closingScrub (p ctx : Nat) (s : State) : State :=
  let q := partAt s p
  let left := q.flr.filter (· != ctx)
  if q.flr.contains ctx then
    let s := onPart s p (fun q => { q with flr := left })
    if left.isEmpty then addScrub p 3 false false 0 0 s else s
  else if q.ctxs.isEmpty then addScrub p 2 false false 0 0 s
  else s

/-- A context has ended: its CTX_CLOSE completes with the number of spans killed, a scrub starts where its end brings one, and
the commands behind it are taken up (R250, R259). -/
def finishClose (p ctx n : Nat) (c : Ctx) (s : State) : Result :=
  let s := endCtx p ctx s
  let s := match c.waiting with
    | h :: _ => if h.await = .close then answerVf h.mute p h.cmd stOk [n] s else s
    | [] => s
  acceptAll p (c.waiting.filter (fun h => h.await != .close)) (closingScrub p ctx s)

/-- Go on with a context that leaves its cores or ends, and with its commands. -/
def advanceCtx (p ctx : Nat) (s : State) : Result :=
  match s.findCtx p ctx with
  | none => .next s
  | some c =>
    let s := match c.leaving with
      | some why =>
        let t := advanceSave (why == Leaving.close) p ctx s
        if ctxLive t p ctx then t else endSave p ctx c why t
      | none => s
    match s.findCtx p ctx with
    | none => .next s
    | some c =>
      match c.closing with
      | some n => if closeSettled s p ctx then finishClose p ctx n c s else .next s
      | none => drainAll p ctx s

/-- Every open context by partition and number. -/
def allCtxs (s : State) : List (Nat × Nat) := s.parts.flatMap (fun e => e.2.ctxs.map (fun c => (e.1, c.1)))

/-- Go on with every context of a list. -/
def advanceCtxs : List (Nat × Nat) → State → Result
  | [], s => .next s
  | x :: xs, s => andThen (advanceCtx x.1 x.2 s) (advanceCtxs xs)

/-- What has come about by the start of a step: waves that may halt are saved, spans whose last writes are performed are
reported, interrupts leave, worn units are retired, and admin commands and contexts go on. -/
def settled (s : State) : Result :=
  let s := retireWorn (noteIdle (sendMessages (settleAll (saveWaves s))))
  let s := runAdmins s.adminQueue.length s
  advanceCtxs (allCtxs s) s

/-! ### Arrivals on the queues (R246, R248, R251, R259) -/

/-- Consume queue 0 in order, but not while 256 records are held; each chain is returned as used (R246, R247). The first argument
bounds the commands consumed. -/
def consumeQueue (p : Nat) : Nat → State → Result
  | 0, s => .next s
  | fuel + 1, s =>
    match (partAt s p).queue0 with
    | [] => .next s
    | c :: rest =>
      if 256 ≤ (partAt s p).held.length then .next s
      else
        andThen (acceptVf false p c (onPart s p (fun q => { q with queue0 := rest, virtio := q.virtio.raise 1 }))) (consumeQueue p fuel)

/-- Commands come to queue 0 of a virtual function, behind those that it has not yet consumed (R246). -/
def commandsArrive (p : Nat) (cmds : List VfCmd) (s : State) : Result :=
  if !frontLive s || decide (32 ≤ p) then .next s
  else
    let s := onPart s p (fun q => { q with queue0 := q.queue0 ++ cmds })
    consumeQueue p (partAt s p).queue0.length s

/-- QUEUE0_NOTIFY (R246): the driver's commands are in the available ring, and the device consumes them in order. -/
def execQueue0Notify (p : Nat) (cmds : List VfCmd) (s : State) : Result := commandsArrive p cmds s

/-- QUEUE1_NOTIFY (R246, R248): buffers are posted; held records are delivered, and queue 0 is consumed again. -/
def execQueue1Notify (p buffers : Nat) (s : State) : Result :=
  if !frontLive s || decide (32 ≤ p) then .next s
  else
    let s := onPart s p (fun q => deliverHeld s.cyc (q.held.length + 2 * q.ring.length + 2) { q with buffers := q.buffers + buffers })
    consumeQueue p (partAt s p).queue0.length s

/-- One command comes to queue 0, through the port by which the virtual function is reached (R31, R246). -/
def vfCommand (p tag ctx : Nat) (body : VfBody) (s : State) : Result :=
  commandsArrive p [⟨tag, ctx, body, (partAt s p).virtio.port⟩] s

/-- CTX_OPEN (R250). -/
def execCtxOpen (p tag ctx root save weight : Nat) (wall : Bool) (s : State) : Result :=
  vfCommand p tag ctx (.ctxOpen root save weight wall) s

/-- CTX_CLOSE (R250). -/
def execCtxClose (p tag ctx : Nat) (s : State) : Result := vfCommand p tag ctx .ctxClose s

/-- INVALIDATE (R153). -/
def execInvalidate (p tag ctx va length : Nat) (s : State) : Result := vfCommand p tag ctx (.invalidate va length) s

/-- LAUNCH (R252). -/
def execLaunch (p tag ctx header : Nat) (s : State) : Result := vfCommand p tag ctx (.launch header) s

/-- NODE (R252). -/
def execNode (p tag ctx n header : Nat) (s : State) : Result := vfCommand p tag ctx (.node n header) s

/-- RECORDS (R256). -/
def execRecords (p tag ctx n va count : Nat) (s : State) : Result := vfCommand p tag ctx (.records n va count) s

/-- PAUSE (R257). -/
def execPause (p tag ctx : Nat) (s : State) : Result := vfCommand p tag ctx .pause s

/-- RESUME (R258). -/
def execResume (p tag ctx elapsed : Nat) (s : State) : Result := vfCommand p tag ctx (.resume elapsed) s

/-- FAULT_REPLY (R250). -/
def execFaultReply (p tag ctx fault : Nat) (resolve : Bool) (s : State) : Result :=
  vfCommand p tag ctx (.faultReply fault resolve) s

/-- DOMAIN_RELEASE (R222). -/
def execDomainRelease (p tag ctx domid : Nat) (s : State) : Result := vfCommand p tag ctx (.domainRelease domid) s

/-- TXWIN (R229). -/
def execTxwin (p tag ctx entry : Nat) (words : EntryWords) (s : State) : Result := vfCommand p tag ctx (.txwin entry words) s

/-- RAT (R231). -/
def execRat (p tag ctx entry : Nat) (words : EntryWords) (s : State) : Result := vfCommand p tag ctx (.rat entry words) s

/-- FLOW (R240). -/
def execFlow (p tag ctx n : Nat) (fields : Option FlowFields) (s : State) : Result := vfCommand p tag ctx (.flow n fields) s

/-- CELL_REPAIR (R283). -/
def execCellRepair (p tag ctx domid cell : Nat) (s : State) : Result := vfCommand p tag ctx (.cellRepair domid cell) s

/-- MONITOR (R284). -/
def execMonitor (p tag ctx m : Nat) (fields : MonitorFields) (s : State) : Result := vfCommand p tag ctx (.monitor m fields) s

/-- LOG_READ (R286). -/
def execLogRead (p tag ctx first count address : Nat) (s : State) : Result :=
  vfCommand p tag ctx (.logRead first count address) s

/-- KEY_LOAD (R281). -/
def execKeyLoad (p tag ctx key : Nat) (material : List Byte) (s : State) : Result :=
  vfCommand p tag ctx (.keyLoad key material) s

/-- KEY_CLEAR (R281). -/
def execKeyClear (p tag ctx key : Nat) (s : State) : Result := vfCommand p tag ctx (.keyClear key) s

/-- TIME_MODE (R258). -/
def execTimeMode (p tag ctx : Nat) (wall : Bool) (s : State) : Result := vfCommand p tag ctx (.timeMode wall) s

/-- FAULT_TIMEOUT (R251): a page request that has had no reply for the fault timeout is declined. -/
def execFaultTimeout (p fault : Nat) (s : State) : Result :=
  match findFault s p fault with
  | some f => if f.raised + s.fw.faultTimeout ≤ s.cyc then answerFault s p f false else .next s
  | none => .next s

/-- Reset a virtual function: its queues are discarded and it is unconfigured; every context is closed as CTX_CLOSE closes it, and a
scrub follows. The owner stays (R259). -/
def resetFunction (p : Nat) (s : State) : State :=
  let q := partAt s p
  let cs := q.ctxs.map (·.1)
  let s := onPart s p (fun q => { q with
    queue0 := [], buffers := 0, held := [], ring := [], late := 0, declined := 0, unlogged := 0, virtio := Partition.empty.virtio,
    ctxs := q.ctxs.map (fun (e : Nat × Ctx) => (e.1, { e.2 with waiting := [] })), flr := cs })
  let closing (s : State) (c : Nat) : State :=
    match s.findCtx p c with | some x => if x.closing.isSome then s else leave .close p c s | none => s
  if q.owner.isNone then s
  else if cs.isEmpty then addScrub p 3 false false 0 0 s else cs.foldl closing s

/-- FUNCTION_LEVEL_RESET (R17, R259): of a virtual function, or, numbered from 32 on, of a port's physical function, whose MSI-X
table is reset (PRESUMED, log 81). -/
def execFunctionLevelReset (p : Nat) (s : State) : Result :=
  .next (if p < 32 then resetFunction p s else { s with host := { s.host with tables := terase s.host.tables (p - 32) } })

/-! ### The virtio common configuration (R246) -/

/-- The feature bits that a virtual function offers: VIRTIO_F_RING_EVENT_IDX and VIRTIO_F_VERSION_1 (R246). -/
def offeredFeatures : Word64 := (1#64 <<< 29) ||| (1#64 <<< 32)

/-- Queue `n` as the driver configured it; a queue starts with its 256 entries (R246). -/
def Virtio.queue (v : Virtio) (n : Nat) : VirtQueue := tgetD v.queues n ⟨256, 0xFFFF, false, 0, 0, 0⟩

/-- Change the selected queue, if it is one of the two (R246). -/
def Virtio.onQueue (v : Virtio) (f : VirtQueue → VirtQueue) : Virtio :=
  if v.queueSel < 2 then { v with queues := tset v.queues v.queueSel (f (v.queue v.queueSel)) } else v

/-- DEVICE_STATUS as the device keeps a written value: FEATURES_OK stays clear while a feature that is not offered is
accepted (R246; virtio 1.2, log 21). -/
def keptStatus (v : Virtio) (x : Nat) : Nat :=
  if x.testBit 3 ∧ v.features &&& ~~~offeredFeatures ≠ 0 then x - 8 else x

/-- The virtio state after a field is written (R246). -/
def Virtio.write (v : Virtio) (field_ : VirtioField) (x : Nat) : Virtio :=
  match field_ with
  | .deviceFeatureSelect => { v with devSel := x }
  | .driverFeatureSelect => { v with drvSel := x }
  | .driverFeature =>
    if v.drvSel = 0 then { v with features := (v.features >>> 32 <<< 32) ||| BitVec.ofNat 64 (x % 2 ^ 32) }
    else if v.drvSel = 1 then { v with features := (v.features &&& 0xFFFFFFFF#64) ||| BitVec.ofNat 64 (x % 2 ^ 32 * 2 ^ 32) }
    else v
  | .configVector => { v with vectorCfg := x }
  | .deviceStatus => { v with status := keptStatus v (x % 256) }
  | .queueSelect => { v with queueSel := x }
  | .queueSize => v.onQueue (fun q => if 1 ≤ x ∧ x ≤ 256 then { q with size := x } else q)
  | .queueVector => v.onQueue (fun q => { q with vector := x })
  | .queueEnable => v.onQueue (fun q => { q with enabled := q.enabled || decide (x % 2 = 1) })
  | .queueDesc => v.onQueue (fun q => { q with desc := x })
  | .queueDriver => v.onQueue (fun q => { q with driver := x })
  | .queueDevice => v.onQueue (fun q => { q with device := x })

/-- VIRTIO_COMMON_CONFIG_WRITE (R246): a status of 0 resets the virtio device: its queues are empty and unconfigured. -/
def execVirtioCommonConfigWrite (port p : Nat) (field : VirtioField) (value : Word64) (s : State) : Result :=
  if !frontLive s || !(s.host.portUp.getD port false) || decide (32 ≤ p) then .next s
  else if field = .deviceStatus ∧ value.toNat % 256 = 0 then
    .next (onPart s p (fun q => { q with
      virtio := { Partition.empty.virtio with port := port, msix := q.virtio.msix }, queue0 := [], buffers := 0 }))
  else .next (onPart s p (fun q => { q with virtio := { q.virtio.write field value.toNat with port := port } }))

end Sys2Proof.Machine
end

