-- ==== Sys2Proof/Machine/Scalar.lean ====
section
/-!
DEFINITION. Scalar instructions: the SALU group and the scalar immediates (R98, R323 to R325).
-/

namespace Sys2Proof.Machine

open Sys2Proof

/-- A scalar instruction that computes one register from the wave's registers (R324). -/
def scalarOp (i : Instr) (d : BitVec 5) (beats : Nat) (f : Wave → Word64) (s : State) : Result :=
  gate i s (fun s => done i s.wave (setS s d.toNat (f s.wave) beats))

/-- The high 64 bits of the signed 128-bit product (R324). -/
def mulHigh (a b : Word64) : Word64 := BitVec.ofInt 64 (a.toInt * b.toInt / 2 ^ 64)

/-- The number of leading zeros of a word (R324, R343). -/
def leadingZeros {w : Nat} (a : BitVec w) : Nat := if a = 0 then w else w - 1 - Nat.log2 a.toNat

/-- p and w of SBFX and SBFI: B[5:0] and min(B[14:8], 64 - p) (R324). -/
def scalarField (b : Word64) : Nat × Nat :=
  let p := b.toNat % 64
  (p, min (field b.toNat 8 7) (64 - p))

/-- SBFX (R324). -/
def extractField (a b : Word64) : Word64 :=
  (a >>> (scalarField b).1) &&& BitVec.ofNat 64 (2 ^ (scalarField b).2 - 1)

/-- SBFI (R324). -/
def insertField (d a b : Word64) : Word64 :=
  let p := (scalarField b).1
  let f : Word64 := BitVec.ofNat 64 (2 ^ (scalarField b).2 - 1) <<< p
  (d &&& ~~~f) ||| ((a <<< p) &&& f)

/-- The integer conditions of R99. -/
def compareInt {w : Nat} (c : BitVec 3) (a b : BitVec w) : Bool :=
  match c.toNat with
  | 0 => a == b
  | 1 => a != b
  | 2 => a.slt b
  | 3 => a.sle b
  | 4 => b.slt a
  | 5 => b.sle a
  | 6 => a.ult b
  | _ => b.ule a

/-- A truth value as a scalar. -/
def scalarBool (b : Bool) : Word64 := if b then 1 else 0

/-- SADD (R324): sD := A + B modulo 2^64. -/
def execSadd (b a d : BitVec 5) (st : BitVec 3) (s : State) : Result :=
  scalarOp (.sadd b a d st) d 1 (fun w => let a := w.sval a.toNat; let b := w.sval b.toNat; a + b) s

/-- SSUB (R324): sD := A - B modulo 2^64. -/
def execSsub (b a d : BitVec 5) (st : BitVec 3) (s : State) : Result :=
  scalarOp (.ssub b a d st) d 1 (fun w => let a := w.sval a.toNat; let b := w.sval b.toNat; a - b) s

/-- SMUL (R324): sD := the low 64 bits of A x B. -/
def execSmul (b a d : BitVec 5) (st : BitVec 3) (s : State) : Result :=
  scalarOp (.smul b a d st) d 2 (fun w => let a := w.sval a.toNat; let b := w.sval b.toNat; a * b) s

/-- SMULH (R324): sD := the high 64 bits of the signed product. -/
def execSmulh (b a d : BitVec 5) (st : BitVec 3) (s : State) : Result :=
  scalarOp (.smulh b a d st) d 2 (fun w => let a := w.sval a.toNat; let b := w.sval b.toNat; mulHigh a b) s

/-- SAND (R324): sD := bitwise AND. -/
def execSand (b a d : BitVec 5) (st : BitVec 3) (s : State) : Result :=
  scalarOp (.sand b a d st) d 1 (fun w => let a := w.sval a.toNat; let b := w.sval b.toNat; a &&& b) s

/-- SOR (R324): sD := bitwise OR. -/
def execSor (b a d : BitVec 5) (st : BitVec 3) (s : State) : Result :=
  scalarOp (.sor b a d st) d 1 (fun w => let a := w.sval a.toNat; let b := w.sval b.toNat; a ||| b) s

/-- SXOR (R324): sD := bitwise XOR. -/
def execSxor (b a d : BitVec 5) (st : BitVec 3) (s : State) : Result :=
  scalarOp (.sxor b a d st) d 1 (fun w => let a := w.sval a.toNat; let b := w.sval b.toNat; a ^^^ b) s

/-- SSHL (R324): sD := A << B[5:0]. -/
def execSshl (b a d : BitVec 5) (st : BitVec 3) (s : State) : Result :=
  scalarOp (.sshl b a d st) d 1 (fun w => let a := w.sval a.toNat; let b := w.sval b.toNat; a <<< (b.toNat % 64)) s

/-- SSHR (R324): sD := A >> B[5:0], zeros shifted in. -/
def execSshr (b a d : BitVec 5) (st : BitVec 3) (s : State) : Result :=
  scalarOp (.sshr b a d st) d 1 (fun w => let a := w.sval a.toNat; let b := w.sval b.toNat; a >>> (b.toNat % 64)) s

/-- SSAR (R324): sD := A >> B[5:0], copies of A[63] shifted in. -/
def execSsar (b a d : BitVec 5) (st : BitVec 3) (s : State) : Result :=
  scalarOp (.ssar b a d st) d 1 (fun w => let a := w.sval a.toNat; let b := w.sval b.toNat; a.sshiftRight (b.toNat % 64)) s

/-- SMIN (R324): sD := the signed minimum. -/
def execSmin (b a d : BitVec 5) (st : BitVec 3) (s : State) : Result :=
  scalarOp (.smin b a d st) d 1 (fun w => let a := w.sval a.toNat; let b := w.sval b.toNat; if a.slt b then a else b) s

/-- SMAX (R324): sD := the signed maximum. -/
def execSmax (b a d : BitVec 5) (st : BitVec 3) (s : State) : Result :=
  scalarOp (.smax b a d st) d 1 (fun w => let a := w.sval a.toNat; let b := w.sval b.toNat; if b.slt a then a else b) s

/-- SNMIN (R324): sD := the unsigned minimum. -/
def execSnmin (b a d : BitVec 5) (st : BitVec 3) (s : State) : Result :=
  scalarOp (.snmin b a d st) d 1 (fun w => let a := w.sval a.toNat; let b := w.sval b.toNat; if a < b then a else b) s

/-- SNMAX (R324): sD := the unsigned maximum. -/
def execSnmax (b a d : BitVec 5) (st : BitVec 3) (s : State) : Result :=
  scalarOp (.snmax b a d st) d 1 (fun w => let a := w.sval a.toNat; let b := w.sval b.toNat; if b < a then a else b) s

/-- SBFX (R324): sD := (A >> p) AND (2^w - 1). -/
def execSbfx (b a d : BitVec 5) (st : BitVec 3) (s : State) : Result :=
  scalarOp (.sbfx b a d st) d 1 (fun w => let a := w.sval a.toNat; let b := w.sval b.toNat; extractField a b) s

/-- SCLZ (R324): sD := the leading zeros of A, 0 to 64. -/
def execSclz (a d : BitVec 5) (st : BitVec 3) (s : State) : Result :=
  scalarOp (.sclz a d st) d 1 (fun w => let a := w.sval a.toNat; BitVec.ofNat 64 (leadingZeros a)) s

/-- SPOPC (R324): sD := the number of 1 bits in A. -/
def execSpopc (a d : BitVec 5) (st : BitVec 3) (s : State) : Result :=
  scalarOp (.spopc a d st) d 1 (fun w => let a := w.sval a.toNat; BitVec.ofNat 64 (popcount a)) s

/-- SMOV (R324): sD := A. -/
def execSmov (a d : BitVec 5) (st : BitVec 3) (s : State) : Result :=
  scalarOp (.smov a d st) d 1 (fun w => let a := w.sval a.toNat; a) s

/-- SBFI (R324): the field of B inserted from A into sD. -/
def execSbfi (b a d : BitVec 5) (st : BitVec 3) (s : State) : Result :=
  scalarOp (.sbfi b a d st) d 1 (fun w => insertField (w.sval d.toNat) (w.sval a.toNat) (w.sval b.toNat)) s

/-- SCMP (R324): 1 if A cc B holds by the integer table of R99, else 0. -/
def execScmp (c : BitVec 3) (b a d : BitVec 5) (st : BitVec 3) (s : State) : Result :=
  scalarOp (.scmp c b a d st) d 1 (fun w => scalarBool (compareInt c (w.sval a.toNat) (w.sval b.toNat))) s

/-- SADDI (R325): sD := sD + sext(IMM16). -/
def execSaddi (i : BitVec 16) (d : BitVec 5) (st : BitVec 3) (s : State) : Result :=
  scalarOp (.saddi i d st) d 1 (fun w => w.sval d.toNat + i.signExtend 64) s

/-- SMOVI (R325): sD := sext(IMM16). -/
def execSmovi (i : BitVec 16) (d : BitVec 5) (st : BitVec 3) (s : State) : Result :=
  scalarOp (.smovi i d st) d 1 (fun _ => i.signExtend 64) s

/-- SLUI (R325): sD := (sD << 16) OR zext(IMM16). -/
def execSlui (i : BitVec 16) (d : BitVec 5) (st : BitVec 3) (s : State) : Result :=
  scalarOp (.slui i d st) d 1 (fun w => (w.sval d.toNat <<< 16) ||| i.setWidth 64) s

end Sys2Proof.Machine
end

