-- ==== Sys2Proof/Machine/VecInt.lean ====
section
/-!
DEFINITION. Vector integer, logic, move and compare instructions (R95, R135, R333, R338, R339, R341 to R343, R354 to
R356, R362, R363, R365, R367).
-/

namespace Sys2Proof.Machine

open Sys2Proof

/-- A vector instruction that computes each lane of active(M) from the wave's registers (R333). -/
def vectorOp (i : Instr) (d m beats : Nat) (f : Wave → Nat → Word32) (s : State) : Result :=
  gate i s (fun s => done i s.wave (setV s d (s.wave.lanes m) (f s.wave) beats))

/-- A vector instruction whose lanes also raise flags, ORed into SATF (R123, R333). -/
def vectorFlagOp (i : Instr) (d m beats : Nat) (f : Wave → Nat → Word32 × Word64) (s : State) : Result :=
  gate i s (fun s =>
    let w := s.wave
    let mask := w.lanes m
    done i w (orFlags (setV s d mask (fun l => (f w l).1) beats) (flagsOver mask (fun l => (f w l).2))))

/-- A vector instruction on the elements of two registers. -/
def binaryOp (i : Instr) (d a b m beats : Nat) (f : Word32 → Word32 → Word32) (s : State) : Result :=
  vectorOp i d m beats (fun w l => f (w.vval a l) (w.vval b l)) s

/-- A vector instruction on the elements of two registers whose lanes also raise flags. -/
def binaryFlagOp (i : Instr) (d a b m beats : Nat) (f : Word32 → Word32 → Word32 × Word64) (s : State) : Result :=
  vectorFlagOp i d m beats (fun w l => f (w.vval a l) (w.vval b l)) s

/-- A compare into a mask: lanes of active(M) receive their truth value, the others keep theirs (R347,
R356); the poison of the register ends if all of it is written (R271). -/
def compareOp (i : Instr) (k a b m beats : Nat) (f : Word32 → Word32 → Bool) (s : State) : Result :=
  gate i s (fun s =>
    let w := s.wave
    let mask := w.lanes m
    let hits := maskOf ((lanesOf mask).filter (fun l => f (w.vval a l) (w.vval b l)))
    if mask = 0 then done i w s
    else
      let t := setM s k ((sget w.m k &&& ~~~mask) ||| hits) beats
      done i w (if mask = BitVec.allOnes 64 then t else t.onWave (fun x => { x with poisonM := w.poisonM })))

/-- The high 32 bits of the signed 64-bit product (R355). -/
def mulHigh32 (a b : Word32) : Word32 := BitVec.ofInt 32 (a.toInt * b.toInt / 2 ^ 32)

/-- p and w of VBFX and VBFI: B[4:0] and min(B[13:8], 32 - p) (R135). -/
def laneField (b : Word32) : Nat × Nat :=
  let p := b.toNat % 32
  (p, min (field b.toNat 8 6) (32 - p))

/-- VBFX on one element (R135). -/
def extract32 (a b : Word32) : Word32 := (a >>> (laneField b).1) &&& BitVec.ofNat 32 (2 ^ (laneField b).2 - 1)

/-- VBFI on one element (R135). -/
def insert32 (d a b : Word32) : Word32 :=
  let p := (laneField b).1
  let f : Word32 := BitVec.ofNat 32 (2 ^ (laneField b).2 - 1) <<< p
  (d &&& ~~~f) ||| ((a <<< p) &&& f)

/-- The number of 1 bits of an element (R367). -/
def popcount32 (a : Word32) : Nat := ((List.range 32).filter (fun n => a.getLsbD n)).length

/-- VABS.I32 on one element: it saturates, with SATF.S (R338). -/
def absInt (a : Word32) : Word32 × Word64 :=
  if a = 0x80000000 then (0x7FFFFFFF, flagS) else (if a.slt 0 then -a else a, 0)

/-- VABS.F32 on one element (R338). -/
def absFloat (a : Word32) : Word32 := if isNan32 a then 0x7FC00000 else a &&& 0x7FFFFFFF

/-- VIADD (R355). -/
def execViadd (m : BitVec 3) (b a d : BitVec 6) (st : BitVec 3) (s : State) : Result :=
  binaryOp (.viadd m b a d st) d.toNat a.toNat b.toNat m.toNat 2 (fun x y => x + y) s

/-- VISUB (R355). -/
def execVisub (m : BitVec 3) (b a d : BitVec 6) (st : BitVec 3) (s : State) : Result :=
  binaryOp (.visub m b a d st) d.toNat a.toNat b.toNat m.toNat 2 (fun x y => x - y) s

/-- VIMUL (R355). -/
def execVimul (m : BitVec 3) (b a d : BitVec 6) (st : BitVec 3) (s : State) : Result :=
  binaryOp (.vimul m b a d st) d.toNat a.toNat b.toNat m.toNat 2 (fun x y => x * y) s

/-- VIMULH (R355). -/
def execVimulh (m : BitVec 3) (b a d : BitVec 6) (st : BitVec 3) (s : State) : Result :=
  binaryOp (.vimulh m b a d st) d.toNat a.toNat b.toNat m.toNat 2 (mulHigh32) s

/-- VIMIN (R355). -/
def execVimin (m : BitVec 3) (b a d : BitVec 6) (st : BitVec 3) (s : State) : Result :=
  binaryOp (.vimin m b a d st) d.toNat a.toNat b.toNat m.toNat 2 (fun x y => if y.slt x then y else x) s

/-- VIMAX (R355). -/
def execVimax (m : BitVec 3) (b a d : BitVec 6) (st : BitVec 3) (s : State) : Result :=
  binaryOp (.vimax m b a d st) d.toNat a.toNat b.toNat m.toNat 2 (fun x y => if x.slt y then y else x) s

/-- VAND (R339). -/
def execVand (m : BitVec 3) (b a d : BitVec 6) (st : BitVec 3) (s : State) : Result :=
  binaryOp (.vand m b a d st) d.toNat a.toNat b.toNat m.toNat 2 (fun x y => x &&& y) s

/-- VOR (R339). -/
def execVor (m : BitVec 3) (b a d : BitVec 6) (st : BitVec 3) (s : State) : Result :=
  binaryOp (.vor m b a d st) d.toNat a.toNat b.toNat m.toNat 2 (fun x y => x ||| y) s

/-- VXOR (R339). -/
def execVxor (m : BitVec 3) (b a d : BitVec 6) (st : BitVec 3) (s : State) : Result :=
  binaryOp (.vxor m b a d st) d.toNat a.toNat b.toNat m.toNat 2 (fun x y => x ^^^ y) s

/-- VSHL (R365). -/
def execVshl (m : BitVec 3) (b a d : BitVec 6) (st : BitVec 3) (s : State) : Result :=
  binaryOp (.vshl m b a d st) d.toNat a.toNat b.toNat m.toNat 2 (fun x y => x <<< (y.toNat % 32)) s

/-- VSHR (R365). -/
def execVshr (m : BitVec 3) (b a d : BitVec 6) (st : BitVec 3) (s : State) : Result :=
  binaryOp (.vshr m b a d st) d.toNat a.toNat b.toNat m.toNat 2 (fun x y => x >>> (y.toNat % 32)) s

/-- VSAR (R365). -/
def execVsar (m : BitVec 3) (b a d : BitVec 6) (st : BitVec 3) (s : State) : Result :=
  binaryOp (.vsar m b a d st) d.toNat a.toNat b.toNat m.toNat 2 (fun x y => x.sshiftRight (y.toNat % 32)) s

/-- VBFX (R135). -/
def execVbfx (m : BitVec 3) (b a d : BitVec 6) (st : BitVec 3) (s : State) : Result :=
  binaryOp (.vbfx m b a d st) d.toNat a.toNat b.toNat m.toNat 2 (extract32) s

/-- VIMAD (R355): D is a third source. -/
def execVimad (m : BitVec 3) (b a d : BitVec 6) (st : BitVec 3) (s : State) : Result :=
  vectorOp (.vimad m b a d st) d.toNat m.toNat 2
    (fun w l => w.vval a.toNat l * w.vval b.toNat l + w.vval d.toNat l) s

/-- VBFI (R135): D is a third source. -/
def execVbfi (m : BitVec 3) (b a d : BitVec 6) (st : BitVec 3) (s : State) : Result :=
  vectorOp (.vbfi m b a d st) d.toNat m.toNat 2
    (fun w l => insert32 (w.vval d.toNat l) (w.vval a.toNat l) (w.vval b.toNat l)) s

/-- VICMP (R356). -/
def execVicmp (m : BitVec 3) (b a : BitVec 6) (c k st : BitVec 3) (s : State) : Result :=
  compareOp (.vicmp m b a c k st) k.toNat a.toNat b.toNat m.toNat 2 (compareInt c) s

/-- VSEL (R363): every lane of the active mask, A where the selector is 1. -/
def execVsel (m : BitVec 3) (b a d : BitVec 6) (st : BitVec 3) (s : State) : Result :=
  vectorOp (.vsel m b a d st) d.toNat 0 2
    (fun w l => if (w.mval m.toNat).getLsbD l then w.vval a.toNat l else w.vval b.toNat l) s

/-- VMOV (R362). -/
def execVmov (m : BitVec 3) (b d : BitVec 6) (st : BitVec 3) (s : State) : Result :=
  vectorOp (.vmov m b d st) d.toNat m.toNat 2 (fun w l => w.vval b.toNat l) s

/-- VMOVI (R362): the lanes of the active mask. -/
def execVmovi (i : BitVec 15) (d : BitVec 6) (st : BitVec 3) (s : State) : Result :=
  vectorOp (.vmovi i d st) d.toNat 0 2 (fun _ _ => i.signExtend 32) s

/-- VBCAST (R341). -/
def execVbcast (m : BitVec 3) (a : BitVec 5) (d : BitVec 6) (st : BitVec 3) (s : State) : Result :=
  vectorOp (.vbcast m a d st) d.toNat m.toNat 2 (fun w _ => (w.sval a.toNat).setWidth 32) s

/-- LANEID (R58, R367). -/
def execLaneid (m : BitVec 3) (d : BitVec 6) (st : BitVec 3) (s : State) : Result :=
  vectorOp (.laneid m d st) d.toNat m.toNat 2 (fun _ l => BitVec.ofNat 32 l) s

/-- VNOT (R367). -/
def execVnot (m : BitVec 3) (a d : BitVec 6) (st : BitVec 3) (s : State) : Result :=
  vectorOp (.vnot m a d st) d.toNat m.toNat 2 (fun w l => ~~~w.vval a.toNat l) s

/-- VPOPC (R367). -/
def execVpopc (m : BitVec 3) (a d : BitVec 6) (st : BitVec 3) (s : State) : Result :=
  vectorOp (.vpopc m a d st) d.toNat m.toNat 2 (fun w l => BitVec.ofNat 32 (popcount32 (w.vval a.toNat l))) s

/-- VCLZ (R343). -/
def execVclz (m : BitVec 3) (a d : BitVec 6) (st : BitVec 3) (s : State) : Result :=
  vectorOp (.vclz m a d st) d.toNat m.toNat 2 (fun w l => BitVec.ofNat 32 (leadingZeros (w.vval a.toNat l))) s

/-- VABS.I32 (R338). -/
def execVabsI32 (m : BitVec 3) (a d : BitVec 6) (st : BitVec 3) (s : State) : Result :=
  vectorFlagOp (.vabsI32 m a d st) d.toNat m.toNat 2 (fun w l => absInt (w.vval a.toNat l)) s

/-- VABS.F32 (R338). -/
def execVabsF32 (m : BitVec 3) (a d : BitVec 6) (st : BitVec 3) (s : State) : Result :=
  vectorOp (.vabsF32 m a d st) d.toNat m.toNat 2 (fun w l => absFloat (w.vval a.toNat l)) s

/-- VMOV, 16-bit (R95, R362). -/
def execVmov16 (b : BitVec 5) (d : BitVec 6) (s : State) : Result :=
  vectorOp (.vmov16 b d) d.toNat 0 2 (fun w l => w.vval b.toNat l) s

/-- VIADD (R355), 16-bit: D := D op B under the active mask (R95). -/
def execViadd16 (b : BitVec 5) (d : BitVec 6) (s : State) : Result :=
  binaryOp (.viadd16 b d) d.toNat d.toNat b.toNat 0 2 (fun x y => x + y) s

/-- VISUB (R355), 16-bit: D := D op B under the active mask (R95). -/
def execVisub16 (b : BitVec 5) (d : BitVec 6) (s : State) : Result :=
  binaryOp (.visub16 b d) d.toNat d.toNat b.toNat 0 2 (fun x y => x - y) s

/-- VIMUL (R355), 16-bit: D := D op B under the active mask (R95). -/
def execVimul16 (b : BitVec 5) (d : BitVec 6) (s : State) : Result :=
  binaryOp (.vimul16 b d) d.toNat d.toNat b.toNat 0 2 (fun x y => x * y) s

/-- VAND (R339), 16-bit: D := D op B under the active mask (R95). -/
def execVand16 (b : BitVec 5) (d : BitVec 6) (s : State) : Result :=
  binaryOp (.vand16 b d) d.toNat d.toNat b.toNat 0 2 (fun x y => x &&& y) s

/-- VOR (R339), 16-bit: D := D op B under the active mask (R95). -/
def execVor16 (b : BitVec 5) (d : BitVec 6) (s : State) : Result :=
  binaryOp (.vor16 b d) d.toNat d.toNat b.toNat 0 2 (fun x y => x ||| y) s

/-- VXOR (R339), 16-bit: D := D op B under the active mask (R95). -/
def execVxor16 (b : BitVec 5) (d : BitVec 6) (s : State) : Result :=
  binaryOp (.vxor16 b d) d.toNat d.toNat b.toNat 0 2 (fun x y => x ^^^ y) s

/-- VSHL (R365), 16-bit: D := D op B under the active mask (R95). -/
def execVshl16 (b : BitVec 5) (d : BitVec 6) (s : State) : Result :=
  binaryOp (.vshl16 b d) d.toNat d.toNat b.toNat 0 2 (fun x y => x <<< (y.toNat % 32)) s

/-- VSHR (R365), 16-bit: D := D op B under the active mask (R95). -/
def execVshr16 (b : BitVec 5) (d : BitVec 6) (s : State) : Result :=
  binaryOp (.vshr16 b d) d.toNat d.toNat b.toNat 0 2 (fun x y => x >>> (y.toNat % 32)) s

/-- VSAR (R365), 16-bit: D := D op B under the active mask (R95). -/
def execVsar16 (b : BitVec 5) (d : BitVec 6) (s : State) : Result :=
  binaryOp (.vsar16 b d) d.toNat d.toNat b.toNat 0 2 (fun x y => x.sshiftRight (y.toNat % 32)) s

end Sys2Proof.Machine
end

