-- ==== Sys2Proof/Machine/VecFp.lean ====
section
/-!
DEFINITION. Vector arithmetic on FP32, BF16 and FX32, conversions and special functions (R95, R114 to R120, R124, R131,
R344 to R353, R370 to R372).
-/

namespace Sys2Proof.Machine

open Sys2Proof

/-- VFADD (R345). -/
def execVfadd (m : BitVec 3) (b a d : BitVec 6) (st : BitVec 3) (s : State) : Result :=
  binaryFlagOp (.vfadd m b a d st) d.toNat a.toNat b.toNat m.toNat 3 (fadd .rne) s

/-- VFSUB (R345). -/
def execVfsub (m : BitVec 3) (b a d : BitVec 6) (st : BitVec 3) (s : State) : Result :=
  binaryFlagOp (.vfsub m b a d st) d.toNat a.toNat b.toNat m.toNat 3 (fsub .rne) s

/-- VFMUL (R345). -/
def execVfmul (m : BitVec 3) (b a d : BitVec 6) (st : BitVec 3) (s : State) : Result :=
  binaryFlagOp (.vfmul m b a d st) d.toNat a.toNat b.toNat m.toNat 3 (fmul .rne) s

/-- VXADD (R114). -/
def execVxadd (m : BitVec 3) (b a d : BitVec 6) (st : BitVec 3) (s : State) : Result :=
  binaryFlagOp (.vxadd m b a d st) d.toNat a.toNat b.toNat m.toNat 3 (xadd) s

/-- VXSUB (R114). -/
def execVxsub (m : BitVec 3) (b a d : BitVec 6) (st : BitVec 3) (s : State) : Result :=
  binaryFlagOp (.vxsub m b a d st) d.toNat a.toNat b.toNat m.toNat 3 (xsub) s

/-- VXMUL (R114). -/
def execVxmul (m : BitVec 3) (b a d : BitVec 6) (st : BitVec 3) (s : State) : Result :=
  binaryFlagOp (.vxmul m b a d st) d.toNat a.toNat b.toNat m.toNat 3 (xmul .rne) s

/-- VFMIN (R117, R351). -/
def execVfmin (m : BitVec 3) (b a d : BitVec 6) (st : BitVec 3) (s : State) : Result :=
  binaryOp (.vfmin m b a d st) d.toNat a.toNat b.toNat m.toNat 3 (fmin) s

/-- VFMAX (R117, R351). -/
def execVfmax (m : BitVec 3) (b a d : BitVec 6) (st : BitVec 3) (s : State) : Result :=
  binaryOp (.vfmax m b a d st) d.toNat a.toNat b.toNat m.toNat 3 (fmax) s

/-- VFFMA (R345): D is the addend. -/
def execVffma (m : BitVec 3) (b a d : BitVec 6) (st : BitVec 3) (s : State) : Result :=
  vectorFlagOp (.vffma m b a d st) d.toNat m.toNat 3
    (fun w l => ffma .rne (w.vval a.toNat l) (w.vval b.toNat l) (w.vval d.toNat l)) s

/-- VHFMA (R118, R353): D is the addend. -/
def execVhfma (m : BitVec 3) (b a d : BitVec 6) (st : BitVec 3) (s : State) : Result :=
  vectorFlagOp (.vhfma m b a d st) d.toNat m.toNat 3
    (fun w l => hfma (w.vval a.toNat l) (w.vval b.toNat l) (w.vval d.toNat l)) s

/-- VFCMP (R347). -/
def execVfcmp (m : BitVec 3) (b a : BitVec 6) (c k st : BitVec 3) (s : State) : Result :=
  compareOp (.vfcmp m b a c k st) k.toNat a.toNat b.toNat m.toNat 3 (fcompare c) s

/-- VFADD with directed rounding (R104, R345). -/
def execVfaddDirected (m r : BitVec 2) (b : BitVec 5) (a d : BitVec 6) (st : BitVec 3) (s : State) : Result :=
  binaryFlagOp (.vfaddDirected m r b a d st) d.toNat a.toNat b.toNat m.toNat 3 (fadd (roundingOf r)) s

/-- VFSUB with directed rounding (R104, R345). -/
def execVfsubDirected (m r : BitVec 2) (b : BitVec 5) (a d : BitVec 6) (st : BitVec 3) (s : State) : Result :=
  binaryFlagOp (.vfsubDirected m r b a d st) d.toNat a.toNat b.toNat m.toNat 3 (fsub (roundingOf r)) s

/-- VFMUL with directed rounding (R104, R345). -/
def execVfmulDirected (m r : BitVec 2) (b : BitVec 5) (a d : BitVec 6) (st : BitVec 3) (s : State) : Result :=
  binaryFlagOp (.vfmulDirected m r b a d st) d.toNat a.toNat b.toNat m.toNat 3 (fmul (roundingOf r)) s

/-- VFFMA with directed rounding (R104, R345). -/
def execVffmaDirected (m r : BitVec 2) (b : BitVec 5) (a d : BitVec 6) (st : BitVec 3) (s : State) : Result :=
  vectorFlagOp (.vffmaDirected m r b a d st) d.toNat m.toNat 3
    (fun w l => ffma (roundingOf r) (w.vval a.toNat l) (w.vval b.toNat l) (w.vval d.toNat l)) s

/-- VXMUL.RZ (R104, R114). -/
def execVxmulRz (m : BitVec 2) (b : BitVec 5) (a d : BitVec 6) (st : BitVec 3) (s : State) : Result :=
  binaryFlagOp (.vxmulRz m b a d st) d.toNat a.toNat b.toNat m.toNat 3 (xmul .rz) s

/-- VFCLASS (R346). -/
def execVfclass (m : BitVec 3) (a d : BitVec 6) (st : BitVec 3) (s : State) : Result :=
  vectorOp (.vfclass m a d st) d.toNat m.toNat 2 (fun w l => fclass (w.vval a.toNat l)) s

/-- VFKEY (R131, R350): FP16 or BF16. -/
def execVfkey (m : BitVec 3) (t : BitVec 1) (a d : BitVec 6) (st : BitVec 3) (s : State) : Result :=
  vectorOp (.vfkey m t a d st) d.toNat m.toNat 3
    (fun w l => fkey (if t = 0 then f16 else bf16) (w.vval a.toNat l)) s

/-- VFCVT (R119, R120, R349). -/
def execVfcvt (m c : BitVec 3) (a d : BitVec 6) (st : BitVec 3) (s : State) : Result :=
  vectorFlagOp (.vfcvt m c a d st) d.toNat m.toNat 3 (fun w l => fconvert c (w.vval a.toNat l)) s

/-- VXCVT (R371, R372). -/
def execVxcvt (m : BitVec 3) (c : BitVec 4) (a d : BitVec 6) (st : BitVec 3) (s : State) : Result :=
  vectorFlagOp (.vxcvt m c a d st) d.toNat m.toNat 3 (fun w l => xconvert c (w.vval a.toNat l)) s

/-- A special function: interlocked, 4 beats (R73, R124, R348). -/
def specialOp (i : Instr) (d a m : Nat) (f : Word32 → Word32 × Word64) (s : State) : Result :=
  gate i s (fun s =>
    let w := s.wave
    let mask := w.lanes m
    done i w (orFlags (setVHeld s d mask (fun l => (f (w.vval a l)).1) (4 * s.passes w))
      (flagsOver mask (fun l => (f (w.vval a l)).2))))

/-- VFRCP (R124, R348). -/
def execVfrcp (m : BitVec 3) (a d : BitVec 6) (st : BitVec 3) (s : State) : Result :=
  specialOp (.vfrcp m a d st) d.toNat a.toNat m.toNat frcp s

/-- VFRSQ (R124, R348). -/
def execVfrsq (m : BitVec 3) (a d : BitVec 6) (st : BitVec 3) (s : State) : Result :=
  specialOp (.vfrsq m a d st) d.toNat a.toNat m.toNat frsq s

/-- VFEX2 (R124, R348). -/
def execVfex2 (m : BitVec 3) (a d : BitVec 6) (st : BitVec 3) (s : State) : Result :=
  specialOp (.vfex2 m a d st) d.toNat a.toNat m.toNat fex2 s

/-- VFEXP (R124, R348). -/
def execVfexp (m : BitVec 3) (a d : BitVec 6) (st : BitVec 3) (s : State) : Result :=
  specialOp (.vfexp m a d st) d.toNat a.toNat m.toNat fexp s

/-- VFLG2 (R124, R348). -/
def execVflg2 (m : BitVec 3) (a d : BitVec 6) (st : BitVec 3) (s : State) : Result :=
  specialOp (.vflg2 m a d st) d.toNat a.toNat m.toNat flg2 s

/-- VFSIN (R124, R348). -/
def execVfsin (m : BitVec 3) (a d : BitVec 6) (st : BitVec 3) (s : State) : Result :=
  specialOp (.vfsin m a d st) d.toNat a.toNat m.toNat fsin s

/-- VFCOS (R124, R348). -/
def execVfcos (m : BitVec 3) (a d : BitVec 6) (st : BitVec 3) (s : State) : Result :=
  specialOp (.vfcos m a d st) d.toNat a.toNat m.toNat fcos s

/-- VFADD, 16-bit: D := D op B under the active mask (R95). -/
def execVfadd16 (b : BitVec 5) (d : BitVec 6) (s : State) : Result :=
  binaryFlagOp (.vfadd16 b d) d.toNat d.toNat b.toNat 0 3 (fadd .rne) s

/-- VFSUB, 16-bit: D := D op B under the active mask (R95). -/
def execVfsub16 (b : BitVec 5) (d : BitVec 6) (s : State) : Result :=
  binaryFlagOp (.vfsub16 b d) d.toNat d.toNat b.toNat 0 3 (fsub .rne) s

/-- VFMUL, 16-bit: D := D op B under the active mask (R95). -/
def execVfmul16 (b : BitVec 5) (d : BitVec 6) (s : State) : Result :=
  binaryFlagOp (.vfmul16 b d) d.toNat d.toNat b.toNat 0 3 (fmul .rne) s

/-- VFMAX, 16-bit: D := D op B under the active mask (R95). -/
def execVfmax16 (b : BitVec 5) (d : BitVec 6) (s : State) : Result :=
  binaryOp (.vfmax16 b d) d.toNat d.toNat b.toNat 0 3 (fmax) s

/-- VFMIN, 16-bit: D := D op B under the active mask (R95). -/
def execVfmin16 (b : BitVec 5) (d : BitVec 6) (s : State) : Result :=
  binaryOp (.vfmin16 b d) d.toNat d.toNat b.toNat 0 3 (fmin) s

/-- VXADD, 16-bit: D := D op B under the active mask (R95). -/
def execVxadd16 (b : BitVec 5) (d : BitVec 6) (s : State) : Result :=
  binaryFlagOp (.vxadd16 b d) d.toNat d.toNat b.toNat 0 3 (xadd) s

end Sys2Proof.Machine
end

