-- ==== Sys2Proof/Machine/Lanes.lean ====
section
/-!
DEFINITION. Instructions across the lanes of a wave, and on its masks (R82, R103, R132, R136, R138, R199, R200, R305,
R306, R340, R360, R361, R364, R368, R369).
-/

namespace Sys2Proof.Machine

open Sys2Proof

/-! ### Shuffles (R138, R364) -/

/-- A shuffle: lane L receives A at the source lane that `from_` gives; all reads come first (R364). -/
def shuffleOp (i : Instr) (d a b m : Nat) (from_ : Nat → Nat → Nat) (s : State) : Result :=
  gate i s (fun s =>
    let w := s.wave
    done i w (setVHeld s d (w.lanes m) (fun l => w.vval a (from_ l (w.vval b l).toNat % 64)) (shuffleWait s w)))

/-- VSHFL (R364): the source lane is B[L] AND (W - 1). -/
def execVshfl (m : BitVec 3) (b a d : BitVec 6) (st : BitVec 3) (s : State) : Result :=
  shuffleOp (.vshfl m b a d st) d.toNat a.toNat b.toNat m.toNat (fun _ x => x) s

/-- VSHFX (R138): the source lane is L XOR (B[L] AND (W - 1)). -/
def execVshfx (m : BitVec 3) (b a d : BitVec 6) (st : BitVec 3) (s : State) : Result :=
  shuffleOp (.vshfx m b a d st) d.toNat a.toNat b.toNat m.toNat (fun l x => l ^^^ (x % 64)) s

/-- VSHFR (R364): the source lane is (L + B[L]) AND (W - 1). -/
def execVshfr (m : BitVec 3) (b a d : BitVec 6) (st : BitVec 3) (s : State) : Result :=
  shuffleOp (.vshfr m b a d st) d.toNat a.toNat b.toNat m.toNat (fun l x => l + x) s

/-! ### Ballots and votes (R136, R340, R368) -/

/-- A cross-lane result in a scalar register (R73). -/
def gatherOp (i : Instr) (d : Nat) (f : Wave → Word64) (s : State) : Result :=
  gate i s (fun s => done i s.wave (setSHeld s d (f s.wave) (crossWait s s.wave)))

/-- VBALLOT (R136). -/
def execVballot (m : BitVec 3) (n : BitVec 5) (a : BitVec 6) (d : BitVec 5) (st : BitVec 3) (s : State) : Result :=
  gatherOp (.vballot m n a d st) d.toNat
    (fun w => maskOf ((lanesOf (w.lanes m.toNat)).filter (fun l => (w.vval a.toNat l).getLsbD n.toNat))) s

/-- A vote over the elements of the member lanes: 0 any, 1 all, 2 uniform (R368). -/
def vote (c : Nat) (xs : List Word32) : Bool :=
  match c with
  | 0 => xs.any (· != 0)
  | 1 => xs.all (· != 0)
  | _ => xs.all (· == xs.headD 0)

/-- VVOTE (R368). -/
def execVvote (m : BitVec 3) (c : BitVec 5) (a : BitVec 6) (d : BitVec 5) (st : BitVec 3) (s : State) : Result :=
  gatherOp (.vvote m c a d st) d.toNat
    (fun w => scalarBool (vote c.toNat ((lanesOf (w.lanes m.toNat)).map (fun l => w.vval a.toNat l)))) s

/-! ### Reductions and scans (R199, R361) -/

/-- comb(p, q) of an operation and type, with its flags (R199). -/
def combine (op type : Nat) (p q : Word32) : Word32 × Word64 :=
  match type, op with
  | 0, 0 => fadd .rne p q
  | 0, 2 => (fmin p q, 0)
  | 0, _ => (fmax p q, 0)
  | 2, 0 => xadd p q
  | _, 0 => (p + q, 0)
  | _, 2 => (if q.slt p then q else p, 0)
  | _, 3 => (if p.slt q then q else p, 0)
  | _, 4 => (if q < p then q else p, 0)
  | _, 5 => (if p < q then q else p, 0)
  | _, 6 => (p &&& q, 0)
  | _, _ => (p ||| q, 0)

/-- ident(op, type) (R199). -/
def identity (op type : Nat) : Word32 :=
  match type, op with
  | 0, 0 => 0x80000000
  | 0, _ => 0x7FC00000
  | _, 2 => 0x7FFFFFFF
  | _, 3 => 0x80000000
  | _, 4 => 0xFFFFFFFF
  | _, 6 => 0xFFFFFFFF
  | _, _ => 0

/-- One step of the reduction tree: pairs at distance 2^k, the lower lane first (R199). -/
def reduceStep (op type k : Nat) (x : List Word32 × Word64) : List Word32 × Word64 :=
  let at_ (l : Nat) : Word32 := x.1.getD l 0
  let low (l : Nat) : Nat := if l / 2 ^ k % 2 = 0 then l else l - 2 ^ k
  let ys := (List.range laneCount).map (fun l => combine op type (at_ (low l)) (at_ (low l + 2 ^ k)))
  (ys.map (·.1), ys.foldl (fun f y => f ||| y.2) x.2)

/-- The value of a reduction over all lanes, and the flags of its steps (R199). -/
def reduce (op type : Nat) (xs : List Word32) : List Word32 × Word64 :=
  (List.range 6).foldl (fun x k => reduceStep op type k x) (xs, 0)

/-- One step of the scan: every lane from 2^k up takes in the lane 2^k below, whose value comes first (R361). -/
def scanStep (op type k : Nat) (x : List Word32 × Word64) : List Word32 × Word64 :=
  let ys := x.1.zipIdx.map (fun e =>
    if 2 ^ k ≤ e.2 then combine op type (x.1.getD (e.2 - 2 ^ k) 0) e.1 else (e.1, 0))
  (ys.map (·.1), ys.foldl (fun f y => f ||| y.2) x.2)

/-- The inclusive prefixes of a scan, and the flags of its steps (R361). -/
def scan (op type : Nat) (xs : List Word32) : List Word32 × Word64 :=
  (List.range 6).foldl (fun x k => scanStep op type k x) (xs, 0)

/-- The elements that a reduction or scan combines: the identity for lanes outside active(M) (R199, R361). -/
def members (w : Wave) (a : Nat) (mask : Word64) (op type : Nat) : List Word32 :=
  (List.range laneCount).map (fun l => if mask.getLsbD l then w.vval a l else identity op type)

/-- A reduction or scan after the gate: with an empty active(M) nothing is written (R199). -/
def treeOp (i : Instr) (d a m op type : Nat) (f : Nat → Nat → List Word32 → List Word32 × Word64) (s : State) : Result :=
  let w := s.wave
  let mask := w.lanes m
  if mask = 0 then done i w s
  else
    let r := f op type (members w a mask op type)
    done i w (orFlags (setVHeld s d mask (fun l => r.1.getD l 0) (crossWait s w)) r.2)

/-- The next three instructions of a run after the one at the wave's PC, if they can be fetched (R132). -/
def nextThree (s : State) (w : Wave) : Option (Instr × Instr × Instr) :=
  match instrAt s w (w.pc + 4).toNat with
  | none => none
  | some i1 =>
    match instrAt s w (w.pc + 8).toNat with
    | none => none
    | some i2 => (instrAt s w (w.pc + 12).toNat).map (fun i3 => (i1, i2, i3))

/-- Whether a VLRED.MAX.F32 with mask selector `m`, source `x` and destination `mx` begins a fused sequence: four
instructions left in the run, of the forms of R132, none illegal. -/
def fuses (s : State) (w : Wave) (m : BitVec 3) (x mx : BitVec 6) : Bool :=
  match w.run, nextThree s w with
  | some r, some (.vfsub m1 b1 a1 d1 s1, .vfexp m2 a2 d2 s2, .vlred m3 t3 p3 a3 d3 s3) =>
    decide (4 ≤ r.left) && m1 == m && m2 == m && m3 == m && a1 == x && b1 == mx && a2 == d1 && d2 == d1 &&
    t3 == 0 && p3 == 0 && a3 == d1 &&
    !illegal (.vfsub m1 b1 a1 d1 s1) w && !illegal (.vfexp m2 a2 d2 s2) w && !illegal (.vlred m3 t3 p3 a3 d3 s3) w
  | _, _ => false

/-- Begin a fused sequence (R132): the state before it is kept for a trap inside it (R133). -/
def beginFused (i : Instr) (s : State) : State :=
  s.onWave (fun w => { w with fuse := some ⟨4, wordOf i, w.checkpoint⟩ })

/-- VLRED (R199); a VLRED.MAX.F32 may begin a fused sequence (R132). -/
def execVlred (m t p : BitVec 3) (a d : BitVec 6) (st : BitVec 3) (s : State) : Result :=
  let i : Instr := .vlred m t p a d st
  gate i s (fun s =>
    let s := if t = 0 ∧ p = 3 ∧ s.wave.fuse = none ∧ fuses s s.wave m a d then beginFused i s else s
    treeOp i d.toNat a.toNat m.toNat p.toNat t.toNat reduce s)

/-- VSCAN (R361). -/
def execVscan (m t p : BitVec 3) (a d : BitVec 6) (st : BitVec 3) (s : State) : Result :=
  gate (.vscan m t p a d st) s (fun s => treeOp (.vscan m t p a d st) d.toNat a.toNat m.toNat p.toNat t.toNat scan s)

/-- VRDLANE (R200): lane n as its register last held it, whether active or not. -/
def execVrdlane (n a : BitVec 6) (d : BitVec 5) (st : BitVec 3) (s : State) : Result :=
  gatherOp (.vrdlane n a d st) d.toNat (fun w => (w.vval a.toNat n.toNat).setWidth 64) s

/-- VWRLANE (R369): lane n is written whether or not it is active. -/
def execVwrlane (n : BitVec 6) (a : BitVec 5) (d : BitVec 6) (st : BitVec 3) (s : State) : Result :=
  gate (.vwrlane n a d st) s (fun s =>
    let x := (s.wave.sval a.toNat).setWidth 32
    done (.vwrlane n a d st) s.wave (setV s d.toNat (1#64 <<< n.toNat) (fun _ => x) 2))

/-! ### Masks (R305, R306) -/

/-- MSET (R306). -/
def execMset (a : BitVec 5) (d st : BitVec 3) (s : State) : Result :=
  gate (.mset a d st) s (fun s => done (.mset a d st) s.wave (setM s d.toNat (s.wave.sval a.toNat) 2))

/-- MGET (R306). -/
def execMget (a : BitVec 3) (d : BitVec 5) (st : BitVec 3) (s : State) : Result :=
  gate (.mget a d st) s (fun s => done (.mget a d st) s.wave (setS s d.toNat (s.wave.mval a.toNat) 2))

/-- The functions of MLOG: and, or, xor, and-not (R96, R306). -/
def maskLogic (f : BitVec 2) (x y : Word64) : Word64 :=
  match f.toNat with
  | 0 => x &&& y
  | 1 => x ||| y
  | 2 => x ^^^ y
  | _ => x &&& ~~~y

/-- MLOG (R306). -/
def execMlog (f : BitVec 2) (b a d st : BitVec 3) (s : State) : Result :=
  gate (.mlog f b a d st) s (fun s =>
    done (.mlog f b a d st) s.wave (setM s d.toNat (maskLogic f (s.wave.mval a.toNat) (s.wave.mval b.toNat)) 2))

/-- MPOPC (R306). -/
def execMpopc (a : BitVec 3) (d : BitVec 5) (st : BitVec 3) (s : State) : Result :=
  gate (.mpopc a d st) s (fun s =>
    done (.mpopc a d st) s.wave (setS s d.toNat (BitVec.ofNat 64 (popcount (s.wave.mval a.toNat))) 2))

end Sys2Proof.Machine
end

