-- ==== Sys2Proof/Machine/Sched.lean ====
section
/-!
DEFINITION. Dispatch: bind records and their checks, and the starting and resuming of spans; graph flushes and aging (R55,
R57, R58, R84, R86 to R88, R253 to R256, R261, R263).
-/

namespace Sys2Proof.Machine

open Sys2Proof

/-! ### Bind records (R253) -/

/-- A bind record by its fields (R253). `quads` holds the quad of each wave. -/
structure Bind where
  core  : Nat
  blk   : Nat
  last  : Bool
  quads : List Nat
  rbase : Nat
  sbase : Nat
  span  : Nat
  lrec  : Nat
  ctx   : Nat
  deriving DecidableEq, Repr

/-- The fields of a bind record. -/
def bindOf (w : BindWords) : Bind :=
  let a := w.w0.toNat
  let b := w.w1.toNat
  { core := field a 1 9, blk := field a 10 2, last := a.testBit 12, quads := (List.range 8).map (fun j => field a (13 + 2 * j) 2),
    rbase := field a 32 9, sbase := field a 41 8, span := field b 0 32, lrec := field b 32 16, ctx := field b 48 4 }

/-- Firmware writes a record at the tail of the ring of 1,024, if V is set and the ring is not full (R253). -/
def writeSlot (q : Partition) (w : BindWords) : Partition :=
  if w.w0.getLsbD 0 ∧ q.slotTail - q.slotHead < 1024 then
    { q with slots := tset q.slots (q.slotTail % 1024) w, slotTail := q.slotTail + 1 }
  else q

/-- The place of the first record that has not been dispatched: those that have left the ring for the rest of their grid come before the
ring's (R79; log 100). -/
def firstRecord (q : Partition) : Nat := q.slotHead - q.gathered.length

/-- The record at a place: one that has left the ring, or one in it. -/
def recordAt (q : Partition) (n : Nat) : Option BindWords :=
  if n < q.slotHead then q.gathered[n - firstRecord q]? else tget q.slots (n % 1024)

/-- The records from a place to the end of their span, each with its slot (R254). The first argument bounds their number. -/
def takeSpan (q : Partition) : Nat → Nat → List (Nat × Bind)
  | 0, _ => []
  | fuel + 1, n =>
    match recordAt q n with
    | none => []
    | some w =>
      let r := bindOf w
      if r.last then [(n % 1024, r)] else (n % 1024, r) :: takeSpan q fuel (n + 1)

/-- The records of the span that begins at a place with their slots, once the last of them is written. -/
def spanFrom (q : Partition) (n : Nat) : Option (List (Nat × Bind)) :=
  let rs := takeSpan q (q.slotTail - n) n
  match rs.getLast? with
  | some r => if r.2.last ∨ 1024 ≤ rs.length then some rs else none
  | none => none

/-- The records of the next span. -/
def nextSpan (q : Partition) : Option (List (Nat × Bind)) := spanFrom q (firstRecord q)

/-- The records of the spans from a place on, span by span. The first argument bounds the number of spans. -/
def spansFrom (q : Partition) : Nat → Nat → List (List (Nat × Bind))
  | 0, _ => []
  | fuel + 1, n =>
    match spanFrom q n with
    | some rs => rs :: spansFrom q fuel (n + rs.length)
    | none => []

/-- The first records, `n` of them, are no longer wanted: the ring advances past those that are in it (R254). -/
def Partition.passed (rs : List (Nat × Bind)) (q : Partition) : Partition :=
  let inRing := rs.drop q.gathered.length
  { q with
    gathered := q.gathered.drop rs.length, slotHead := q.slotHead + inRing.length,
    slots := q.slots.filter (fun e => !(inRing.map (·.1)).contains e.1) }

/-- The ring advances past a span's records (R254). -/
def passSpan (s : State) (p : Nat) (rs : List (Nat × Bind)) : State := setPart s p (Partition.passed rs)

/-- The first records leave the ring, and are kept for the rest of their grid: a grid that is placed only as a whole may have more
records than the ring holds (R79; log 100). -/
def Partition.gather (rs : List (Nat × Bind)) (q : Partition) : Partition :=
  { q.passed rs with gathered := (List.range rs.length).filterMap (fun k => recordAt q (firstRecord q + k)) }

/-- The span that a record names. -/
def Bind.id (p : Nat) (r : Bind) : SpanId := ⟨p, r.ctx, r.lrec, r.span⟩

/-! ### The checks of R255 -/

/-- The waves of a block that a record places: all of a new block, those of a saved one that have not ended. A block of a saved span
that has ended places none (log 65). -/
def wavesToPlace (s : State) (id : SpanId) (l : Launch) (blk : Nat) : List Nat :=
  match s.findBlock id blk with
  | some _ => (List.range l.waves).filter (fun j => s.allWaves.any (fun w => w.span == id && w.block == blk && w.index == j))
  | none => List.range l.waves

/-- The waves of a record's block that stand on a quad of its core. -/
def Bind.onQuad (r : Bind) (waves : List Nat) (quad : Nat) : Nat := (waves.filter (fun j => r.quads.getD j 0 == quad)).length

/-- Whether a record breaks the count of its span, the BLOCKS of its launch: LAST at the wrong record, another span's record, or a block
that a saved span does not have (R255). -/
def countBroken (s : State) (p : Nat) (first : Bind) (n k : Nat) (r : Bind) : Bool :=
  let id := first.id p
  (r.last && decide (k + 1 < n)) || (!r.last && decide (n ≤ k + 1)) || r.id p != id ||
  (match s.findSpan id with
   | some x => x.phase == .saved && (s.findBlock id r.blk).isNone
   | none => false)

/-- The checks of R255 that need the launch. -/
def launchFailure (s : State) (p : Nat) (l : Launch) (first : Bind) (k : Nat) (r : Bind) : Option Nat :=
  let waves := wavesToPlace s (first.id p) l r.blk
  if countBroken s p first l.blocks k r then some 4
  else if waves.any (fun j => !quadEnabled s r.core (r.quads.getD j 0)) then some 5
  else if (List.range 4).any (fun q => r.onQuad waves q != 0 && decide (512 < r.rbase + r.onQuad waves q * l.regs)) then some 6
  else if 2 ^ 20 < 4096 * r.sbase + l.scratch then some 7
  else none

/-- The last checks of R255: ACCHOME, a retired core, and the launch record itself. -/
def lateFailure (s : State) (p : Nat) (r : Bind) : Option Nat :=
  let home := match s.findBlock (r.id p) r.blk with | some b => b.accHome | none => none
  if home.isSome ∧ home ≠ some r.core then some 8
  else if s.retCores.contains r.core then some 9
  else if (s.launchOf (r.id p)).isNone then some 10
  else none

/-- The first check that a record of a span fails (R255). -/
def bindFailure (s : State) (p : Nat) (rs : List (Nat × Bind)) (k : Nat) (r : Bind) : Option Nat :=
  let q := partAt s p
  let first := (rs.head?.map (·.2)).getD r
  let earlier := (rs.take k).map (·.2)
  if q.owner.isNone ∨ r.core / 4 < q.cbase ∨ q.climit < r.core / 4 then some 1
  else if r.core / 4 ≠ first.core / 4 then some 2
  else if earlier.any (fun e => e.core == r.core || e.blk == r.blk) then some 3
  else
    match s.launchOf (first.id p) with
    | some l => match launchFailure s p l first k r with | some c => some c | none => lateFailure s p r
    | none => lateFailure s p r

/-- The slot and the reason of a span's first failing record (R255). -/
def spanFailure (s : State) (p : Nat) (rs : List (Nat × Bind)) : Option (Nat × Nat) :=
  rs.zipIdx.findSome? (fun e => (bindFailure s p rs e.2 e.1.2).map (fun c => (e.1.1, c)))

/-- The records that a node's block was launched for are given up, and their charge returned (R84). -/
def dropReady (s : State) (id : SpanId) : State :=
  match s.launchOf id with
  | none => s
  | some l =>
    match l.node with
    | none => s
    | some n =>
      let here (e : Nat × List (List Byte)) : Bool := decide (e.1 / l.blocks = id.span)
      let lost := match s.findCtx id.part id.ctx with
        | some c => match tget c.nodes n with
          | some x => ((x.ready.filter here).map (·.2.length)).foldl (· + ·) 0
          | none => 0
        | none => 0
      (refund s id.part lost).changeCtx id.part id.ctx (fun c =>
        { c with nodes := tmod c.nodes n (fun x => { x with ready := x.ready.filter (fun e => !here e) }) })

/-- A new span as a record names it. -/
def newSpan (id : SpanId) (replayable : Bool) : Span :=
  { id := id, phase := .live, channels := [], replayable := replayable, relaunched := 0, frame := none, badCores := [],
    refused := [], members := [], records := [], returned := [] }

/-- A span whose records have failed is reported FAILED with the reason in the detail (R255). -/
def failBind (s : State) (id : SpanId) (reason : Nat) : State :=
  let s := dropReady s id
  let s := if (s.findSpan id).isSome then removeSpan s id else { s with spans := s.spans ++ [newSpan id false] }
  failSpan s id ⟨0, 0, 0, 0, [reason]⟩

/-- BIND_FAULT: the records taken are passed over, and the failing span is reported; for ACCHOME and a retired core it is kept (R254,
R255). -/
def bindFault (s : State) (p : Nat) (taken rs : List (Nat × Bind)) (slot reason : Nat) : State :=
  let first := rs.head?.map (·.2)
  let s := passSpan s p taken
  let s := event s p evBindFault ((first.map (·.ctx)).getD 0) [slot, reason]
  match first with
  | some r => if reason = 8 ∨ reason = 9 then s else failBind s (r.id p) reason
  | none => s

/-! ### What holds a span (R84, R248, R254, R257, R260) -/

/-- Whether two ranges share a place. -/
def rangesMeet (a n b m : Nat) : Bool := decide (a < b + m) && decide (b < a + n)

/-- Whether a block's register windows on a quad meet a range of windows. -/
def Block.windowsMeet (s : State) (quad base n : Nat) (b : Block) : Bool :=
  let regs := match s.launchOf b.span with | some l => l.regs | none => 56
  let k := (b.quads.filter (· == quad)).length
  k != 0 && rangesMeet base n b.rbase (k * regs)

/-- Whether a record names a block of a saved span that has ended, so that it places nothing. -/
def Bind.over (s : State) (p : Nat) (r : Bind) : Bool := match s.findBlock (r.id p) r.blk with | some b => b.ended | none => false

/-- Whether a record's places, windows, scratchpad and island are free (R13, R254). -/
def recordFree (s : State) (p : Nat) (l : Launch) (r : Bind) : Bool :=
  let waves := wavesToPlace s (r.id p) l r.blk
  let blocks := s.blocks.filter (fun b => b.core == r.core && b.holds s)
  (tgetD s.islands (islandOf r.core) Island.initial).state == .active &&
  (List.range 4).all (fun q =>
    let n := r.onQuad waves q
    n == 0 || (decide (n + (s.allWaves.filter (fun w => w.resident && w.core == r.core && w.quad == q)).length ≤ 8) &&
      !blocks.any (Block.windowsMeet s q r.rbase (n * l.regs)))) &&
  (r.over s p || !blocks.any (fun b => rangesMeet (4096 * r.sbase) l.scratch b.sbase b.size))

/-- The block's number within its node, and the records it was launched for (R57, R84). -/
def batchOf (s : State) (id : SpanId) (l : Launch) (blk : Nat) : Option (List (List Byte)) :=
  match l.node, s.findCtx id.part id.ctx with
  | some n, some c => match tget c.nodes n with
    | some x => tget x.ready (id.span * l.blocks + blk)
    | none => none
  | _, _ => none

/-- Whether a partition's quota takes the charge of a span's blocks: their declared maximum emission (R84). -/
def quotaTakes (q : Partition) (l : Launch) : Bool := decide (q.charged + l.blocks * l.emitMax ≤ q.quota)

/-- Whether a span that has not started can be charged and has its records (R84). -/
def freshReady (s : State) (id : SpanId) (l : Launch) (rs : List Bind) : Bool :=
  quotaTakes (partAt s id.part) l &&
  (l.node.isNone || rs.all (fun r => (batchOf s id l r.blk).isSome))

/-- Whether dispatch may start a span now (R254); none starts while a Function Level Reset is closing contexts, since its scrub is to
follow (R259). -/
def mayDispatch (s : State) (p : Nat) (l : Launch) (rs : List Bind) (id : SpanId) : Bool :=
  let q := partAt s p
  let phase := (s.findSpan id).map (·.phase)
  q.scrubs.isEmpty && q.flr.isEmpty && q.ring.isEmpty &&
  (match s.findCtx p id.ctx with | some c => c.leaving.isNone && c.paused.isNone && c.closing.isNone | none => false) &&
  (match phase with
   | none => freshReady s id l rs
   | some .saved => true
   | some .again => quotaTakes q l
   | some _ => false) &&
  rs.all (recordFree s p l)

/-! ### A wave's start (R57, R58, R86, R261) -/

/-- A value cut to a field's width and put in its place. -/
def widPart (x width lo : Nat) : Nat := x % 2 ^ width * 2 ^ lo

/-- WID of a wave: fields 1 to 5 of its lanes' work identifier (R57, R58). `n` is the span's number, or the block's number
within its node. -/
def workId (l : Launch) (n wave block : Nat) : Word64 :=
  let w (k : Nat) : Nat := l.widths.getD (k - 1) 0
  let g3 := l.grid.getD 0 1
  let g4 := l.grid.getD 1 1
  BitVec.ofNat 64 (widPart wave (w 1) 6 + widPart block (w 2) (6 + w 1) + widPart (n % g3) (w 3) (6 + w 1 + w 2) +
    widPart (n / g3 % g4) (w 4) (6 + w 1 + w 2 + w 3) + widPart (n / (g3 * g4)) (w 5) (6 + w 1 + w 2 + w 3 + w 4))

/-- WIDFMT (R58). -/
def widFormat (l : Launch) : Word64 :=
  BitVec.ofNat 64 (6 + ((List.range 5).map (fun k => l.widths.getD k 0 * 2 ^ (6 * (k + 1)))).foldl (· + ·) 0)

/-- A doubleword of a context's trap record; a free value where it cannot be read (R261; log 18). -/
def trapRecordWord (s : State) (p ctx va : Nat) (n : Nat) : Word64 :=
  match access s p ctx .load va 8 with
  | .ok l => if rangePoisoned s l va 8 then Config.trapRecord n else BitVec.ofNat 64 (loadLe s l va 8)
  | .error _ => Config.trapRecord n

/-- The state after a doubleword of the trap record has been read (R144, R145, R261). -/
def recordRead (s : State) (p ctx va : Nat) : State :=
  match access s p ctx .load va 8 with
  | .ok l => touch (touchWalks s p ctx [va]) p false l va 8
  | .error .align => s
  | .error _ => touchWalks s p ctx [va]

/-- The addresses of the two doublewords of a context's trap record (R261). -/
def trapRecords (s : State) (id : SpanId) : Nat × Nat :=
  let save := match s.findCtx id.part id.ctx with | some c => c.save | none => 0
  ((save + 2 ^ 64 - 16) % 2 ^ 64, (save + 2 ^ 64 - 8) % 2 ^ 64)

/-- The lowest resident-wave place that is free on a quad. -/
def freePlace (s : State) (core quad : Nat) : Nat :=
  ((List.range 8).find? (fun k =>
    !s.allWaves.any (fun w => w.resident && w.core == core && w.quad == quad && w.place == k))).getD 0

/-- The lanes of a wave that have records (R84, R86). The model's choice for a block of more than one wave: record `i` goes to lane `i`
of the block, so the waves from 1 on start with none (log 87). -/
def recordLanes (records : Option (List (List Byte))) (wave : Nat) : Word64 :=
  match records with
  | none => BitVec.allOnes 64
  | some rs => maskOf ((List.range 64).filter (fun l => decide (64 * wave + l < rs.length)))

/-- The wave that starts (R86, R261). -/
def startWave (s : State) (id : SpanId) (l : Launch) (n : Nat) (records : Option (List (List Byte))) (r : Bind) (j : Nat) : Wave :=
  let quad := r.quads.getD j 0
  let place := freePlace s r.core quad
  let vec := trapRecordWord s id.part id.ctx (trapRecords s id).1 s.fresh
  let frames := trapRecordWord s id.part id.ctx (trapRecords s id).2 (s.fresh + 1)
  let lanes := recordLanes records j
  let now := tgetD s.quads (4 * r.core + quad) 0
  { Wave.vacant with
    id := s.placed, span := id, block := r.blk, index := j, core := r.core, quad := quad, place := place, regs := l.regs,
    resident := true, wait := .running, pc := l.entry, s := sset [] 0 l.args, active := lanes, retired := ~~~lanes,
    trapvec := vec &&& csrMask 0x050,
    trapframe := ((frames &&& csrMask 0x051) + BitVec.ofNat 64 (1024 * (32 * r.core + 8 * quad + place))) &&& csrMask 0x051,
    wid := workId l n j r.blk, widfmt := widFormat l, now := now, readyAt := now, since := s.cyc }

/-- Start the next wave of a block. -/
def addWave (id : SpanId) (l : Launch) (n : Nat) (records : Option (List (List Byte))) (r : Bind) (s : State) (j : Nat) : State :=
  let w := startWave s id l n records r j
  let s := recordRead (recordRead s id.part id.ctx (trapRecords s id).1) id.part id.ctx (trapRecords s id).2
  let s := { s with waves := insertWave w s.waves, placed := s.placed + 1, fresh := s.fresh + 2 }
  s.changeSpan id (fun x => { x with members := x.members ++ [w.id] })

/-- Start a block of a span that is new or launched again: its scratchpad is zero (R142, R275). -/
def startBlock (id : SpanId) (l : Launch) (s : State) (r : Bind) : State :=
  let kept := match s.findSpan id with | some x => (x.records.find? (fun e => e.1 == r.blk)).map (·.2) | none => none
  let records := if kept.isSome then kept else batchOf s id l r.blk
  let n := if l.node.isSome then id.span * l.blocks + r.blk else id.span
  let b : Block :=
    { span := id, index := r.blk, core := r.core, rbase := r.rbase, quads := r.quads.take l.waves, sbase := 4096 * r.sbase,
      size := l.scratch, scratch := [], poison := [], emitted := 0, records := records, accHome := none, kept := [], ended := false }
  let s := { s with blocks := s.blocks ++ [b] }
  let s := match records with
    | some rs => s.changeSpan id (fun x => { x with records := (r.blk, rs) :: x.records.filter (fun e => e.1 != r.blk) })
    | none => s
  (List.range l.waves).foldl (addWave id l n records r) s

/-- The records of a node's span leave the node with its start. -/
def takeReady (s : State) (id : SpanId) (l : Launch) : State :=
  match l.node with
  | none => s
  | some n => s.changeCtx id.part id.ctx (fun c => { c with nodes := tmod c.nodes n (fun x =>
      { x with ready := x.ready.filter (fun e => decide (e.1 / l.blocks ≠ id.span)) }) })

/-- Start all blocks of a span together (R254). A span that is new or launched again is charged for its emission (R84, R275). -/
def startSpan (s : State) (id : SpanId) (l : Launch) (rs : List Bind) : State :=
  let s := setPart s id.part (fun q => { q with charged := q.charged + l.blocks * l.emitMax })
  let s := match s.findSpan id with
    | some _ => s.changeSpan id (fun x => { x with phase := .live })
    | none => { s with spans := s.spans ++ [newSpan id (!l.nonreplay)] }
  takeReady (rs.foldl (startBlock id l) s) id l

/-! ### Resuming (R87, R88, R190, R243) -/

/-- A saved wave on its new quad: it goes on from now, or re-enters its wait (R87). It keeps its number, so its age counts
from its first placement (R68, R257; DESIGN CHOICE, log 74). -/
def resumeWave (id : SpanId) (r : Bind) (s : State) (j : Nat) : State :=
  let quad := r.quads.getD j 0
  let place := freePlace s r.core quad
  let now := tgetD s.quads (4 * r.core + quad) 0
  s.changeWaves (fun w => w.span == id && w.block == r.blk && w.index == j) (fun w =>
    { w with core := r.core, quad := quad, place := place, resident := true, now := now, readyAt := now, since := s.cyc })

/-- A resumed wave that waits for queue space posts if there is room, and one that waits for a notification is a new arrival
and takes one that has come (R189, R243, R373). -/
def reenter (s : State) (w : Wave) : State :=
  match w.wait with
  | .posting q _ _ _ _ _ => admitPoster s w.core q
  | .notification queue r _ =>
    let s := { s.changeWave w.id (fun w => { w with wait := .notification queue r s.arrivals }) with arrivals := s.arrivals + 1 }
    match (match tget s.parts w.span.part with | some p => tgetD p.notif queue [] | none => []) with
    | e :: rest => notify w.span.part queue e (setPart s w.span.part (fun p => { p with notif := tset p.notif queue rest }))
    | [] => s
  | _ => s

/-- Resume a saved block where its record places it; one that has ended stays as it is. -/
def resumeBlock (id : SpanId) (l : Launch) (s : State) (r : Bind) : State :=
  if r.over s id.part then s else
  let waves := wavesToPlace s id l r.blk
  let s := s.changeBlock id r.blk (fun b =>
    { b with core := r.core, rbase := r.rbase, quads := r.quads.take l.waves, sbase := 4096 * r.sbase })
  let s := waves.foldl (resumeWave id r) s
  (s.allWaves.filter (fun w => w.span == id && w.block == r.blk)).foldl reenter s

/-- Resume a saved span (R257). -/
def resumeSpan (s : State) (id : SpanId) (l : Launch) (rs : List Bind) : State :=
  rs.foldl (resumeBlock id l) (s.changeSpan id (fun x => { x with phase := .live }))

/-! ### Events -/

/-- The spans of a launch's grid that still have to be placed: all but those live and those that have ended. -/
def spansAwaiting (s : State) (id : SpanId) (l : Launch) : Nat :=
  l.spans - l.finished - (s.spans.filter (fun x => sameGrid id x.id && (x.phase == .live || x.phase == .ended))).length

/-- The spans that dispatch takes together: the next one, or, of a grid launched with the GBAR flag, all that have still to be placed,
since such a grid is placed and resumed only as a whole (R79, R257). -/
def nextGroup (s : State) (p : Nat) (id : SpanId) (first : List (Nat × Bind)) : List (List (Nat × Bind)) :=
  let q := partAt s p
  match gridLaunch s id with
  | some l => spansFrom q (min (spansAwaiting s id l) (q.slotTail - firstRecord q)) (firstRecord q)
  | none => [first]

/-- Whether the records of a group are all of one grid. -/
def groupAlike (p : Nat) (id : SpanId) (group : List (List (Nat × Bind))) : Bool :=
  group.all (fun rs => match rs.head? with | some r => sameGrid id (r.2.id p) | none => false)

/-- Whether the records of a group are all there: those of one grid, and all of it (R79). -/
def groupComplete (s : State) (p : Nat) (id : SpanId) (group : List (List (Nat × Bind))) : Bool :=
  match gridLaunch s id with
  | some l => groupAlike p id group && decide (spansAwaiting s id l ≤ group.length)
  | none => true

/-- A group of which records are missing waits: in the ring, or, where the ring is full, outside it (R79, R253; log 100). -/
def holdGroup (s : State) (p : Nat) (id : SpanId) (group : List (List (Nat × Bind))) : State :=
  let q := partAt s p
  if groupAlike p id group && decide (1024 ≤ q.slotTail - q.slotHead) then setPart s p (Partition.gather group.flatten) else s

/-- Start or resume a span whose records have been taken, if it may start now (R254, R256). -/
def placeSpan (p : Nat) (s : State) (rs : List (Nat × Bind)) : Option State :=
  match rs.head? with
  | none => none
  | some (_, first) =>
    let id := first.id p
    match s.launchOf id with
    | none => none
    | some l =>
      let binds := rs.map (·.2)
      if !mayDispatch s p l binds id then none
      else
        let t := notePlacement s p id.ctx l
        some (if (s.findSpan id).map (·.phase) = some .saved then resumeSpan t id l binds else startSpan t id l binds)

/-- Place a group of spans together, or none of them. -/
def placeGroup (p : Nat) : List (List (Nat × Bind)) → State → Option State
  | [], s => some s
  | rs :: rest, s => match placeSpan p s rs with | some t => placeGroup p rest t | none => none

/-- The first span of a group with a failing record: its records, and the slot and reason (R255). -/
def groupFailure (s : State) (p : Nat) (group : List (List (Nat × Bind))) : Option (List (Nat × Bind) × Nat × Nat) :=
  group.findSome? (fun rs => (spanFailure s p rs).map (fun e => (rs, e)))

/-- Dispatch the span whose records come next, with the rest of its grid where it is placed only as a whole, if all of it may start
(R79, R254). A failing record of one span of such a grid makes the ring pass over the records of all of it (log 66). -/
def dispatchNext (p : Nat) (s : State) : State :=
  match nextSpan (partAt s p) with
  | none => s
  | some rs =>
    match spanFailure s p rs, rs.head? with
    | some (slot, reason), _ => bindFault s p rs rs slot reason
    | none, some (_, first) =>
      let id := first.id p
      let group := nextGroup s p id rs
      if !groupComplete s p id group then holdGroup s p id group
      else
        match groupFailure s p group with
        | some (bad, slot, reason) => bindFault s p group.flatten bad slot reason
        | none => (placeGroup p group (passSpan s p group.flatten)).getD s
    | none, none => s

/-! ### Where a relaunch is placed (R275) -/

/-- The waves of a launch that a quad takes at a place of its register file: by its resident-wave places and its free windows. -/
def quadTakes (s : State) (l : Launch) (core quad base : Nat) : Nat :=
  let blocks := s.blocks.filter (fun b => b.core == core && b.holds s)
  let resident := (s.allWaves.filter (fun w => w.resident && w.core == core && w.quad == quad)).length
  ((List.range l.waves).filter (fun k =>
    decide (resident + k + 1 ≤ 8) && decide (base + (k + 1) * l.regs ≤ 512) &&
    !blocks.any (Block.windowsMeet s quad base ((k + 1) * l.regs)))).length

/-- Whether a core can take a block of a launch now (R13, R254, R277). -/
def coreTakes (s : State) (l : Launch) (core : Nat) : Bool :=
  let blocks := s.blocks.filter (fun b => b.core == core && b.holds s)
  !s.retCores.contains core && (tgetD s.islands (islandOf core) Island.initial).state == .active &&
  (List.range 512).any (fun base => decide (l.waves ≤
    (((List.range 4).filter (quadEnabled s core)).map (fun q => quadTakes s l core q base)).foldl (· + ·) 0)) &&
  (List.range 256).any (fun k =>
    decide (4096 * k + l.scratch ≤ 2 ^ 20) && !blocks.any (fun b => rangesMeet (4096 * k) l.scratch b.sbase b.size))

/-- Whether a partition has a placement free for a span of a launch that keeps off some cores (R275). -/
def placementOff (s : State) (p : Nat) (l : Launch) (bad : List Nat) : Bool :=
  let q := partAt s p
  (List.range (q.climit + 1 - q.cbase)).any (fun k =>
    let cores := ((List.range 4).map (4 * (q.cbase + k) + ·)).filter (fun c => !bad.contains c)
    decide (l.blocks ≤ (cores.filter (coreTakes s l)).length))

/-- Whether a record places a relaunch on a core where its killed attempt met its error, though the partition has another placement
free (R275). -/
def relaunchAmiss (s : State) (p : Nat) (r : Bind) : Bool :=
  match s.findSpan (r.id p), s.launchOf (r.id p) with
  | some x, some l => x.phase == .again && x.badCores.contains r.core && placementOff s p l x.badCores
  | _, _ => false

/-- The records that the firmware policy writes of those offered: of the work whose turn it is, and none of a relaunch of which one is
amiss (R256, R275). -/
def policyRecords (s : State) (p : Nat) (offered : List BindWords) : List BindWords :=
  let amiss := ((offered.map bindOf).filter (relaunchAmiss s p)).map (Bind.id p)
  offered.filter (fun w => policyAllows s p (bindOf w).ctx (bindOf w).lrec && !amiss.contains ((bindOf w).id p))

/-- BIND_DISPATCH (R253, R254, R256): firmware writes records to the ring, those that its policy allows, and the next span is checked,
held or started. -/
def execBindDispatch (p : Nat) (written : List BindWords) (s : State) : Result :=
  if !frontLive s || decide (32 ≤ p) then .next s
  else
    let allowed := policyRecords s p written
    .next (dispatchNext p (onPart s p (fun q => allowed.foldl writeSlot q)))

/-- PRIORITY_AGING (R256): ready work that has waited unplaced for 20 ms raises its context one level, up to 7. -/
def execPriorityAging (p ctx : Nat) (s : State) : Result :=
  match s.findCtx p ctx with
  | some c =>
    if readyWork s p ctx && c.paused.isNone && decide (c.agedAt + 20000000 ≤ s.cyc) then
      .next (s.changeCtx p ctx (fun c => { c with raised := min 7 (c.raised + 1), agedAt := s.cyc }))
    else .next s
  | none => .next s

/-- GRAPH_FLUSH_TIMEOUT (R84): a block is launched with fewer records than the coalescing count. A node is named by 256 x its
context and its number. -/
def execGraphFlushTimeout (p node : Nat) (s : State) : Result :=
  .next (s.changeCtx p (node / 256) (fun c =>
    { c with nodes := tmod c.nodes (node % 256) (fun n =>
        let flush := match tget c.launches n.launch with | some l => l.flush | none => 0
        if !n.queue.isEmpty && decide (n.since + flush ≤ s.cyc) then
          { n.launchFrom n.queue.length with since := s.cyc }
        else n) }))

end Sys2Proof.Machine
end

