-- ==== Sys2Proof/Machine/Dispatch.lean ====
section
/-!
DEFINITION. One arm per instruction, event and command: each calls its meaning.
-/

namespace Sys2Proof.Machine

open Sys2Proof

def exec (i : Instr) (s : State) : Host.Outcome State Fault Refusal :=
  match i with
  | .nop st => Sys2Proof.Machine.execNop st s
  | .bra o st => Sys2Proof.Machine.execBra o st s
  | .bcc o c r st => Sys2Proof.Machine.execBcc o c r st s
  | .call o st => Sys2Proof.Machine.execCall o st s
  | .ret r st => Sys2Proof.Machine.execRet r st s
  | .jmpr r st => Sys2Proof.Machine.execJmpr r st s
  | .ifm o k st => Sys2Proof.Machine.execIfm o k st s
  | .els o st => Sys2Proof.Machine.execEls o st s
  | .endif st => Sys2Proof.Machine.execEndif st s
  | .loop st => Sys2Proof.Machine.execLoop st s
  | .brk k st => Sys2Proof.Machine.execBrk k st s
  | .cont k st => Sys2Proof.Machine.execCont k st s
  | .endl o st => Sys2Proof.Machine.execEndl o st s
  | .exitm k st => Sys2Proof.Machine.execExitm k st s
  | .endw st => Sys2Proof.Machine.execEndw st s
  | .run c st => Sys2Proof.Machine.execRun c st s
  | .runend z y x st => Sys2Proof.Machine.execRunend z y x st s
  | .yield st => Sys2Proof.Machine.execYield st s
  | .sleepu r st => Sys2Proof.Machine.execSleepu r st s
  | .waitk r st => Sys2Proof.Machine.execWaitk r st s
  | .trap xi st => Sys2Proof.Machine.execTrap xi st s
  | .eret st => Sys2Proof.Machine.execEret st s
  | .sigchk xi st => Sys2Proof.Machine.execSigchk xi st s
  | .scsr c r st => Sys2Proof.Machine.execScsr c r st s
  | .scsw c r st => Sys2Proof.Machine.execScsw c r st s
  | .scss c r st => Sys2Proof.Machine.execScss c r st s
  | .scsc c r st => Sys2Proof.Machine.execScsc c r st s
  | .sadd b a d st => Sys2Proof.Machine.execSadd b a d st s
  | .ssub b a d st => Sys2Proof.Machine.execSsub b a d st s
  | .smul b a d st => Sys2Proof.Machine.execSmul b a d st s
  | .smulh b a d st => Sys2Proof.Machine.execSmulh b a d st s
  | .sand b a d st => Sys2Proof.Machine.execSand b a d st s
  | .sor b a d st => Sys2Proof.Machine.execSor b a d st s
  | .sxor b a d st => Sys2Proof.Machine.execSxor b a d st s
  | .sshl b a d st => Sys2Proof.Machine.execSshl b a d st s
  | .sshr b a d st => Sys2Proof.Machine.execSshr b a d st s
  | .ssar b a d st => Sys2Proof.Machine.execSsar b a d st s
  | .smin b a d st => Sys2Proof.Machine.execSmin b a d st s
  | .smax b a d st => Sys2Proof.Machine.execSmax b a d st s
  | .snmin b a d st => Sys2Proof.Machine.execSnmin b a d st s
  | .snmax b a d st => Sys2Proof.Machine.execSnmax b a d st s
  | .sclz a d st => Sys2Proof.Machine.execSclz a d st s
  | .spopc a d st => Sys2Proof.Machine.execSpopc a d st s
  | .sbfx b a d st => Sys2Proof.Machine.execSbfx b a d st s
  | .sbfi b a d st => Sys2Proof.Machine.execSbfi b a d st s
  | .smov a d st => Sys2Proof.Machine.execSmov a d st s
  | .scmp c b a d st => Sys2Proof.Machine.execScmp c b a d st s
  | .saddi xi d st => Sys2Proof.Machine.execSaddi xi d st s
  | .smovi xi d st => Sys2Proof.Machine.execSmovi xi d st s
  | .slui xi d st => Sys2Proof.Machine.execSlui xi d st s
  | .sld o b d st => Sys2Proof.Machine.execSld o b d st s
  | .sst o b d st => Sys2Proof.Machine.execSst o b d st s
  | .bar st => Sys2Proof.Machine.execBar st s
  | .sbar st => Sys2Proof.Machine.execSbar st s
  | .gbar st => Sys2Proof.Machine.execGbar st s
  | .fence c st => Sys2Proof.Machine.execFence c st s
  | .qlock r st => Sys2Proof.Machine.execQlock r st s
  | .qunlock r st => Sys2Proof.Machine.execQunlock r st s
  | .send m c d st => Sys2Proof.Machine.execSend m c d st s
  | .recv m c d st => Sys2Proof.Machine.execRecv m c d st s
  | .abind r n st => Sys2Proof.Machine.execAbind r n st s
  | .vld m w t o d st => Sys2Proof.Machine.execVld m w t o d st s
  | .vst m w t o d st => Sys2Proof.Machine.execVst m w t o d st s
  | .vlds m w k o d st => Sys2Proof.Machine.execVlds m w k o d st s
  | .vsts m w k o d st => Sys2Proof.Machine.execVsts m w k o d st s
  | .atom m r p c t o d st => Sys2Proof.Machine.execAtom m r p c t o d st s
  | .red m r p c t o d st => Sys2Proof.Machine.execRed m r p c t o d st s
  | .wfence st => Sys2Proof.Machine.execWfence st s
  | .rst m v p o d st => Sys2Proof.Machine.execRst m v p o d st s
  | .ratom m r v p o d st => Sys2Proof.Machine.execRatom m r v p o d st s
  | .xfer m b a d st => Sys2Proof.Machine.execXfer m b a d st s
  | .xferx m b a d st => Sys2Proof.Machine.execXferx m b a d st s
  | .ftotal k x d st => Sys2Proof.Machine.execFtotal k x d st s
  | .fbind r st => Sys2Proof.Machine.execFbind r st s
  | .fbindSeal r st => Sys2Proof.Machine.execFbindSeal r st s
  | .mxloop u e t st => Sys2Proof.Machine.execMxloop u e t st s
  | .cpy u e t st => Sys2Proof.Machine.execCpy u e t st s
  | .bload u e t st => Sys2Proof.Machine.execBload u e t st s
  | .cbld u e t st => Sys2Proof.Machine.execCbld u e t st s
  | .qfence u e t st => Sys2Proof.Machine.execQfence u e t st s
  | .nwri u e t st => Sys2Proof.Machine.execNwri u e t st s
  | .cpwait r st => Sys2Proof.Machine.execCpwait r st s
  | .emit m n d st => Sys2Proof.Machine.execEmit m n d st s
  | .recin m d st => Sys2Proof.Machine.execRecin m d st s
  | .mxmma f b a z st => Sys2Proof.Machine.execMxmma f b a z st s
  | .mxzero z st => Sys2Proof.Machine.execMxzero z st s
  | .mxldz b z st => Sys2Proof.Machine.execMxldz b z st s
  | .mxstz b z st => Sys2Proof.Machine.execMxstz b z st s
  | .mxrdz n d z st => Sys2Proof.Machine.execMxrdz n d z st s
  | .mxchk c d z st => Sys2Proof.Machine.execMxchk c d z st s
  | .viadd m b a d st => Sys2Proof.Machine.execViadd m b a d st s
  | .visub m b a d st => Sys2Proof.Machine.execVisub m b a d st s
  | .vimul m b a d st => Sys2Proof.Machine.execVimul m b a d st s
  | .vimulh m b a d st => Sys2Proof.Machine.execVimulh m b a d st s
  | .vimad m b a d st => Sys2Proof.Machine.execVimad m b a d st s
  | .vimin m b a d st => Sys2Proof.Machine.execVimin m b a d st s
  | .vimax m b a d st => Sys2Proof.Machine.execVimax m b a d st s
  | .vand m b a d st => Sys2Proof.Machine.execVand m b a d st s
  | .vor m b a d st => Sys2Proof.Machine.execVor m b a d st s
  | .vxor m b a d st => Sys2Proof.Machine.execVxor m b a d st s
  | .vshl m b a d st => Sys2Proof.Machine.execVshl m b a d st s
  | .vshr m b a d st => Sys2Proof.Machine.execVshr m b a d st s
  | .vsar m b a d st => Sys2Proof.Machine.execVsar m b a d st s
  | .vbfx m b a d st => Sys2Proof.Machine.execVbfx m b a d st s
  | .vbfi m b a d st => Sys2Proof.Machine.execVbfi m b a d st s
  | .vicmp m b a c k st => Sys2Proof.Machine.execVicmp m b a c k st s
  | .vsel m b a d st => Sys2Proof.Machine.execVsel m b a d st s
  | .vmov m b d st => Sys2Proof.Machine.execVmov m b d st s
  | .vmovi xi d st => Sys2Proof.Machine.execVmovi xi d st s
  | .vbcast m a d st => Sys2Proof.Machine.execVbcast m a d st s
  | .vxadd m b a d st => Sys2Proof.Machine.execVxadd m b a d st s
  | .vxsub m b a d st => Sys2Proof.Machine.execVxsub m b a d st s
  | .vxmul m b a d st => Sys2Proof.Machine.execVxmul m b a d st s
  | .vxmulRz m b a d st => Sys2Proof.Machine.execVxmulRz m b a d st s
  | .vnot m a d st => Sys2Proof.Machine.execVnot m a d st s
  | .vabsI32 m a d st => Sys2Proof.Machine.execVabsI32 m a d st s
  | .vpopc m a d st => Sys2Proof.Machine.execVpopc m a d st s
  | .vclz m a d st => Sys2Proof.Machine.execVclz m a d st s
  | .laneid m d st => Sys2Proof.Machine.execLaneid m d st s
  | .vfclass m a d st => Sys2Proof.Machine.execVfclass m a d st s
  | .vfkey m t a d st => Sys2Proof.Machine.execVfkey m t a d st s
  | .vfrcp m a d st => Sys2Proof.Machine.execVfrcp m a d st s
  | .vfrsq m a d st => Sys2Proof.Machine.execVfrsq m a d st s
  | .vfex2 m a d st => Sys2Proof.Machine.execVfex2 m a d st s
  | .vfexp m a d st => Sys2Proof.Machine.execVfexp m a d st s
  | .vflg2 m a d st => Sys2Proof.Machine.execVflg2 m a d st s
  | .vfsin m a d st => Sys2Proof.Machine.execVfsin m a d st s
  | .vfcos m a d st => Sys2Proof.Machine.execVfcos m a d st s
  | .vabsF32 m a d st => Sys2Proof.Machine.execVabsF32 m a d st s
  | .vfcvt m c a d st => Sys2Proof.Machine.execVfcvt m c a d st s
  | .vxcvt m c a d st => Sys2Proof.Machine.execVxcvt m c a d st s
  | .vfadd m b a d st => Sys2Proof.Machine.execVfadd m b a d st s
  | .vfsub m b a d st => Sys2Proof.Machine.execVfsub m b a d st s
  | .vfmul m b a d st => Sys2Proof.Machine.execVfmul m b a d st s
  | .vffma m b a d st => Sys2Proof.Machine.execVffma m b a d st s
  | .vfmin m b a d st => Sys2Proof.Machine.execVfmin m b a d st s
  | .vfmax m b a d st => Sys2Proof.Machine.execVfmax m b a d st s
  | .vfcmp m b a c k st => Sys2Proof.Machine.execVfcmp m b a c k st s
  | .vhfma m b a d st => Sys2Proof.Machine.execVhfma m b a d st s
  | .vfaddDirected m r b a d st => Sys2Proof.Machine.execVfaddDirected m r b a d st s
  | .vfsubDirected m r b a d st => Sys2Proof.Machine.execVfsubDirected m r b a d st s
  | .vfmulDirected m r b a d st => Sys2Proof.Machine.execVfmulDirected m r b a d st s
  | .vffmaDirected m r b a d st => Sys2Proof.Machine.execVffmaDirected m r b a d st s
  | .vshfl m b a d st => Sys2Proof.Machine.execVshfl m b a d st s
  | .vshfx m b a d st => Sys2Proof.Machine.execVshfx m b a d st s
  | .vshfr m b a d st => Sys2Proof.Machine.execVshfr m b a d st s
  | .vballot m n a d st => Sys2Proof.Machine.execVballot m n a d st s
  | .vvote m c a d st => Sys2Proof.Machine.execVvote m c a d st s
  | .vlred m t p a d st => Sys2Proof.Machine.execVlred m t p a d st s
  | .vscan m t p a d st => Sys2Proof.Machine.execVscan m t p a d st s
  | .vrdlane n a d st => Sys2Proof.Machine.execVrdlane n a d st s
  | .vwrlane n a d st => Sys2Proof.Machine.execVwrlane n a d st s
  | .mset a d st => Sys2Proof.Machine.execMset a d st s
  | .mget a d st => Sys2Proof.Machine.execMget a d st s
  | .mlog f b a d st => Sys2Proof.Machine.execMlog f b a d st s
  | .mpopc a d st => Sys2Proof.Machine.execMpopc a d st s
  | .vmov16 b d => Sys2Proof.Machine.execVmov16 b d s
  | .viadd16 b d => Sys2Proof.Machine.execViadd16 b d s
  | .visub16 b d => Sys2Proof.Machine.execVisub16 b d s
  | .vimul16 b d => Sys2Proof.Machine.execVimul16 b d s
  | .vand16 b d => Sys2Proof.Machine.execVand16 b d s
  | .vor16 b d => Sys2Proof.Machine.execVor16 b d s
  | .vxor16 b d => Sys2Proof.Machine.execVxor16 b d s
  | .vshl16 b d => Sys2Proof.Machine.execVshl16 b d s
  | .vshr16 b d => Sys2Proof.Machine.execVshr16 b d s
  | .vsar16 b d => Sys2Proof.Machine.execVsar16 b d s
  | .vfadd16 b d => Sys2Proof.Machine.execVfadd16 b d s
  | .vfsub16 b d => Sys2Proof.Machine.execVfsub16 b d s
  | .vfmul16 b d => Sys2Proof.Machine.execVfmul16 b d s
  | .vfmax16 b d => Sys2Proof.Machine.execVfmax16 b d s
  | .vfmin16 b d => Sys2Proof.Machine.execVfmin16 b d s
  | .vxadd16 b d => Sys2Proof.Machine.execVxadd16 b d s
  | .coldReset => Sys2Proof.Machine.execColdReset s
  | .rstctlWarm port value => Sys2Proof.Machine.execRstctlWarm port value s
  | .firmwareWarmReset => Sys2Proof.Machine.execFirmwareWarmReset s
  | .portReset port => Sys2Proof.Machine.execPortReset port s
  | .functionLevelReset p => Sys2Proof.Machine.execFunctionLevelReset p s
  | .bootRomStart selfTestOk => Sys2Proof.Machine.execBootRomStart selfTestOk s
  | .bootLinkUp => Sys2Proof.Machine.execBootLinkUp s
  | .bootLinkTimeout => Sys2Proof.Machine.execBootLinkTimeout s
  | .bootDhcpReply tftpUrl => Sys2Proof.Machine.execBootDhcpReply tftpUrl s
  | .bootDhcpTimeout => Sys2Proof.Machine.execBootDhcpTimeout s
  | .bootTftpData tsize blksize block => Sys2Proof.Machine.execBootTftpData tsize blksize block s
  | .bootTftpError => Sys2Proof.Machine.execBootTftpError s
  | .bootRetryWaitExpiry => Sys2Proof.Machine.execBootRetryWaitExpiry s
  | .firmwareReady settings => Sys2Proof.Machine.execFirmwareReady settings s
  | .thermalThrottle die => Sys2Proof.Machine.execThermalThrottle die s
  | .thermalTrip => Sys2Proof.Machine.execThermalTrip s
  | .powerSample milliwatts => Sys2Proof.Machine.execPowerSample milliwatts s
  | .powerStepDown => Sys2Proof.Machine.execPowerStepDown s
  | .powerClockGate island => Sys2Proof.Machine.execPowerClockGate island s
  | .operatingPointChange island point => Sys2Proof.Machine.execOperatingPointChange island point s
  | .islandOff island => Sys2Proof.Machine.execIslandOff island s
  | .islandWake island => Sys2Proof.Machine.execIslandWake island s
  | .islandActive island => Sys2Proof.Machine.execIslandActive island s
  | .semRead reads writes n => Sys2Proof.Machine.execSemRead reads writes n s
  | .semWrite writes reads n => Sys2Proof.Machine.execSemWrite writes reads n s
  | .errstatClear bank value => Sys2Proof.Machine.execErrstatClear bank value s
  | .registerWrite port space offset value => Sys2Proof.Machine.execRegisterWrite port space offset value s
  | .correctedError clears errors => Sys2Proof.Machine.execCorrectedError clears errors s
  | .uncorrectableError clears errors => Sys2Proof.Machine.execUncorrectableError clears errors s
  | .patrolScrub pa found => Sys2Proof.Machine.execPatrolScrub pa found s
  | .spanRelaunch span => Sys2Proof.Machine.execSpanRelaunch span s
  | .trapDelivery wave => Sys2Proof.Machine.execTrapDelivery wave s
  | .instructionReplay wave => Sys2Proof.Machine.execInstructionReplay wave s
  | .faultTimeout p fault => Sys2Proof.Machine.execFaultTimeout p fault s
  | .sleepExpiry wave => Sys2Proof.Machine.execSleepExpiry wave s
  | .cpwaitPromiseExpiry wave => Sys2Proof.Machine.execCpwaitPromiseExpiry wave s
  | .sliceEnd p ctx => Sys2Proof.Machine.execSliceEnd p ctx s
  | .preemptionTimeout wave => Sys2Proof.Machine.execPreemptionTimeout wave s
  | .priorityAging p ctx => Sys2Proof.Machine.execPriorityAging p ctx s
  | .bindDispatch p written => Sys2Proof.Machine.execBindDispatch p written s
  | .graphFlushTimeout p node => Sys2Proof.Machine.execGraphFlushTimeout p node s
  | .scrubComplete p => Sys2Proof.Machine.execScrubComplete p s
  | .queue0Notify p cmds => Sys2Proof.Machine.execQueue0Notify p cmds s
  | .queue1Notify p buffers => Sys2Proof.Machine.execQueue1Notify p buffers s
  | .ctxOpen p tag ctx root save weight wall => Sys2Proof.Machine.execCtxOpen p tag ctx root save weight wall s
  | .ctxClose p tag ctx => Sys2Proof.Machine.execCtxClose p tag ctx s
  | .invalidate p tag ctx va length => Sys2Proof.Machine.execInvalidate p tag ctx va length s
  | .launch p tag ctx header => Sys2Proof.Machine.execLaunch p tag ctx header s
  | .node p tag ctx n header => Sys2Proof.Machine.execNode p tag ctx n header s
  | .records p tag ctx n va count => Sys2Proof.Machine.execRecords p tag ctx n va count s
  | .pause p tag ctx => Sys2Proof.Machine.execPause p tag ctx s
  | .resume p tag ctx elapsed => Sys2Proof.Machine.execResume p tag ctx elapsed s
  | .faultReply p tag ctx fault resolve => Sys2Proof.Machine.execFaultReply p tag ctx fault resolve s
  | .domainRelease p tag ctx domid => Sys2Proof.Machine.execDomainRelease p tag ctx domid s
  | .txwin p tag ctx entry words => Sys2Proof.Machine.execTxwin p tag ctx entry words s
  | .rat p tag ctx entry words => Sys2Proof.Machine.execRat p tag ctx entry words s
  | .flow p tag ctx n fields => Sys2Proof.Machine.execFlow p tag ctx n fields s
  | .cellRepair p tag ctx domid cell => Sys2Proof.Machine.execCellRepair p tag ctx domid cell s
  | .monitor p tag ctx m fields => Sys2Proof.Machine.execMonitor p tag ctx m fields s
  | .logRead p tag ctx first count address => Sys2Proof.Machine.execLogRead p tag ctx first count address s
  | .keyLoad p tag ctx key material => Sys2Proof.Machine.execKeyLoad p tag ctx key material s
  | .keyClear p tag ctx key => Sys2Proof.Machine.execKeyClear p tag ctx key s
  | .timeMode p tag ctx wall => Sys2Proof.Machine.execTimeMode p tag ctx wall s
  | .partAssign port tag p cbase climit cset grants quota owner => Sys2Proof.Machine.execPartAssign port tag p cbase climit cset grants quota owner s
  | .partRelease port tag p => Sys2Proof.Machine.execPartRelease port tag p s
  | .domainForm port tag number members => Sys2Proof.Machine.execDomainForm port tag number members s
  | .retire port tag kind unit => Sys2Proof.Machine.execRetire port tag kind unit s
  | .monitorPeriodic p m => Sys2Proof.Machine.execMonitorPeriodic p m s
  | .levelSample p m x => Sys2Proof.Machine.execLevelSample p m x s
  | .fabricLinkDown seat => Sys2Proof.Machine.execFabricLinkDown seat s
  | .fabricLinkRestore seat => Sys2Proof.Machine.execFabricLinkRestore seat s
  | .fabricFlitReceive link dest crcOk packet => Sys2Proof.Machine.execFabricFlitReceive link dest crcOk packet s
  | .reflectedStoreArrive path => Sys2Proof.Machine.execReflectedStoreArrive path s
  | .remoteAtomic path firstBad secondBad => Sys2Proof.Machine.execRemoteAtomic path firstBad secondBad s
  | .ratomReply path => Sys2Proof.Machine.execRatomReply path s
  | .xferRecordApply path => Sys2Proof.Machine.execXferRecordApply path s
  | .xferRecordAck path => Sys2Proof.Machine.execXferRecordAck path s
  | .xferRecordRefusal path => Sys2Proof.Machine.execXferRecordRefusal path s
  | .fabricAckReceive path next held lost => Sys2Proof.Machine.execFabricAckReceive path next held lost s
  | .fabricRetransmitTimeout path seq => Sys2Proof.Machine.execFabricRetransmitTimeout path seq s
  | .fabricPathFailed path => Sys2Proof.Machine.execFabricPathFailed path s
  | .pathFaultServiced path resolved => Sys2Proof.Machine.execPathFaultServiced path resolved s
  | .combiningBufferDrain p entry => Sys2Proof.Machine.execCombiningBufferDrain p entry s
  | .networkPacketReceive p packet => Sys2Proof.Machine.execNetworkPacketReceive p packet s
  | .networkAckReceive p flow next held refusal => Sys2Proof.Machine.execNetworkAckReceive p flow next held refusal s
  | .networkRetransmitTimeout p flow psn => Sys2Proof.Machine.execNetworkRetransmitTimeout p flow psn s
  | .networkFlowSilent p flow => Sys2Proof.Machine.execNetworkFlowSilent p flow s
  | .neighbourDiscovery => Sys2Proof.Machine.execNeighbourDiscovery s
  | .engineCommandStart core queue => Sys2Proof.Machine.execEngineCommandStart core queue s
  | .engineCommandComplete core queue => Sys2Proof.Machine.execEngineCommandComplete core queue s
  | .matrixStepStart core => Sys2Proof.Machine.execMatrixStepStart core s
  | .matrixStepRound core => Sys2Proof.Machine.execMatrixStepRound core s
  | .networkAckTimer p flow => Sys2Proof.Machine.execNetworkAckTimer p flow s
  | .uplinkDown link => Sys2Proof.Machine.execUplinkDown link s
  | .uplinkUp link => Sys2Proof.Machine.execUplinkUp link s
  | .hostLinkUp port => Sys2Proof.Machine.execHostLinkUp port s
  | .virtioCommonConfigWrite port p field value => Sys2Proof.Machine.execVirtioCommonConfigWrite port p field value s

end Sys2Proof.Machine
end

