-- ==== Sys2Proof/Machine/Step.lean ====
section
/-!
DEFINITION. One step of the device: the next move of the agenda, or the issue of the next eligible wave.
-/

namespace Sys2Proof.Machine

open Sys2Proof

/-- The issuing wave's next instruction acts: fetched from memory, decoded, and executed (R89, R90, R107). -/
def stepWave (s : State) : Host.Outcome State Fault Refusal :=
  match fetchBytes s s.wave s.wave.pc.toNat with
  | .error (_, .device pa) => .fault (.deviceRegister pa)
  | .error (_, .poison pa) => .next (consumeSector s s.wave pa 0)
  | .error (va, c) => raise (fetchTrap va c) s
  | .ok bs =>
    match decode bs with
    | .ok (i, _) => exec i s
    | .error _ => raise (illegalWord bs) s

/-- The start of a step: CYC advances by a number of cycles, and what has come about by then settles. -/
def startStep (n : Nat) (s : State) : Result := settled (advance s n)

/-- The chosen wave's instruction acts, or nothing happens where no wave can issue. -/
def issueChosen (chosen : Option State) (s : State) : Result :=
  match chosen with
  | some t => stepWave t
  | none => .next s

/-- One step: CYC advances; then a move of the agenda takes place, or, with none left, the next eligible wave
issues. -/
def step (s : State) : Host.Outcome State Fault Refusal :=
  match s.agenda with
  | .event i :: rest => andThen (startStep s.pace { s with agenda := rest }) (fun t => exec i t)
  | .tick n :: rest => startStep n { s with agenda := rest }
  | .issue q :: rest =>
    andThen (startStep s.pace { s with agenda := rest }) (fun t => issueChosen (issueOn t (q / 4) (q % 4)) t)
  | [] => andThen (startStep s.pace s) (fun t => issueChosen (nextIssue t) t)

/-- The state with an instruction's bytes where the next step fetches from, zeros above its bits. -/
def State.withFetchWord (s : State) (nbits w : Nat) : State := placeBytes s (leBytes 4 (w % 2 ^ nbits))

end Sys2Proof.Machine
end

