-- ==== Sys2Proof/Safety.lean ====
section
/-!
DEFINITION. What counts as a safe run: every step answers a next state.
-/

namespace Sys2Proof

open Sys2Proof.Machine

/-- A state from which `n` steps all answer a next state. -/
def safeFor : Nat → State → Bool
  | 0, _ => true
  | n + 1, s =>
    match step s with
    | .next t => safeFor n t
    | .fault _ => false
    | .refused _ => false

/-- A state whose memory keeps its canonical form. -/
def tidy (s : State) : Bool := Memory.wf s.mem

end Sys2Proof
end

