-- ==== Sys2Proof/Certificates/Slice0/Obligations.lean ====
section
/-!
DEFINITION. The statements about this model. Each is a proposition; the names of `Sys2Proof.Claims` are what the
statements say, written from the rules of the manual: the value an instruction gives, and what it leaves alone.
-/

namespace Sys2Proof.Claims

open Sys2Proof Sys2Proof.Machine

/-! ### What an instruction leaves alone -/

/-- Nothing outside the issuing wave differs: no byte of memory, no other wave, no core, partition or device register. -/
def onlyWave (s t : State) : Prop :=
  t = { s with wave := t.wave } ∧ ∀ key pa, memByte t key pa = memByte s key pa

/-- A wave without what the completion of any instruction changes: PC, SIG, the place in a run and in a fused sequence,
the scoreboard with the cycle by which its accesses are performed (R73), a wait that has issued and whose checks are made, and the
cycles of R68. -/
def settle (x w : Wave) : Wave :=
  { x with
    pc := w.pc, sig := w.sig, run := w.run, fuse := w.fuse, pend := w.pend, performed := w.performed, readyAt := w.readyAt,
    since := w.since, inWait := w.inWait, issued := w.issued }

/-- The wave waits, and its instruction, which has issued, acts when its condition holds (R68, R85): nothing else differs. -/
def sleeping (x : Wait) (s : State) : State := { s with wave := { s.wave with wait := x, issued := true, since := s.cyc } }

/-- The instruction after `i` in memory is next (R89), and the place in a run has moved on by one (R69). -/
def movedOn (i : Instr) (s t : State) : Prop :=
  t.wave.pc = s.wave.pc + BitVec.ofNat 64 i.length ∧
  t.wave.run = s.wave.run.map (fun r => ⟨r.pos + 1, r.left - 1⟩)

/-- The frame of an instruction that writes scalar register `d` alone. -/
def scalarFrame (i : Instr) (d : Nat) (s t : State) : Prop :=
  (∀ r, r ≠ d → sget t.wave.s r = sget s.wave.s r) ∧
  { settle t.wave s.wave with s := s.wave.s, poisonS := s.wave.poisonS } = s.wave ∧ movedOn i s t ∧ onlyWave s t

/-- The frame of an instruction that writes mask register `d` alone. -/
def maskFrame (i : Instr) (d : Nat) (s t : State) : Prop :=
  (∀ k, k ≠ d → sget t.wave.m k = sget s.wave.m k) ∧
  { settle t.wave s.wave with m := s.wave.m, poisonM := s.wave.poisonM } = s.wave ∧ movedOn i s t ∧ onlyWave s t

/-- The element of lane `l` of vector register `r`. -/
def element (w : Wave) (r l : Nat) : Word32 := sget w.v (64 * r + l)

/-- What SATF and SATCTL become when the lanes of a mask raise flags (R122, R123): each flag of SATF is set where a lane
raises it, and ARM where AUTO names such a flag; nothing else changes. -/
def raised (mask : Word64) (flags : Nat → Word64) (s t : State) : Prop :=
  (∀ k, t.wave.satf.getLsbD k = true ↔ s.wave.satf.getLsbD k = true ∨
    (k < 4 ∧ ∃ l < 64, mask.getLsbD l = true ∧ (flags l).getLsbD k = true)) ∧
  (∀ k, t.wave.satctl.getLsbD k = true ↔ s.wave.satctl.getLsbD k = true ∨
    (k = 0 ∧ ∃ j < 4, s.wave.satctl.getLsbD (4 + j) = true ∧
      ∃ l < 64, mask.getLsbD l = true ∧ (flags l).getLsbD j = true))

/-- The frame of an instruction that writes the lanes of a mask of vector register `d`, and flags, alone: every element of
another register and every element of another lane is as it was (R333). -/
def vectorFrame (i : Instr) (d : Nat) (mask : Word64) (s t : State) : Prop :=
  (∀ q l, l < 64 → ¬(q = d ∧ mask.getLsbD l = true) → element t.wave q l = element s.wave q l) ∧
  { settle t.wave s.wave with
    v := s.wave.v, poisonV := s.wave.poisonV, satf := s.wave.satf, satctl := s.wave.satctl } = s.wave ∧
  movedOn i s t ∧ onlyWave s t

/-- A scalar result is readable `beats` beats after its issue, and until then, where no older result of the register is
due, the register reads as before (R72, R74). -/
def scalarReady (d beats : Nat) (s t : State) : Prop :=
  (∀ n, s.wave.now + beats * s.passes s.wave ≤ n → (∀ e ∈ s.wave.pend, e.reg = .s d → e.due ≤ n) →
    ({ t.wave with now := n } : Wave).sval d = sget t.wave.s d) ∧
  (∀ n, n < s.wave.now + beats * s.passes s.wave → (∀ e ∈ s.wave.pend, e.reg ≠ .s d) →
    ({ t.wave with now := n } : Wave).sval d = sget s.wave.s d)

/-! ### Scalar instructions (R99, R323 to R325) -/

/-- The conditions of the integer column of R99. -/
def intCondition {w : Nat} (cc : Nat) (a b : BitVec w) : Bool :=
  match cc with
  | 0 => decide (a.toNat = b.toNat)
  | 1 => decide (a.toNat ≠ b.toNat)
  | 2 => decide (a.toInt < b.toInt)
  | 3 => decide (a.toInt ≤ b.toInt)
  | 4 => decide (a.toInt > b.toInt)
  | 5 => decide (a.toInt ≥ b.toInt)
  | 6 => decide (a.toNat < b.toNat)
  | _ => decide (a.toNat ≥ b.toNat)

/-- The number of leading zeros: how many of the bits from the highest down are 0 before the first 1. -/
def clz {w : Nat} (a : BitVec w) : Nat := ((List.range w).takeWhile (fun k => !a.getLsbD (w - 1 - k))).length

/-- The number of 1 bits. -/
def ones {w : Nat} (a : BitVec w) : Nat := ((List.range w).filter (fun k => a.getLsbD k)).length

/-- The width of a bit field: what is asked for, but no more than there is above its lowest bit (R135, R324). -/
def fieldWidth (w p asked : Nat) : Nat := if asked ≤ w - p then asked else w - p

/-- The register, the latency in beats and the value of an instruction of the SALU group (R324) or of a scalar
immediate (R325), from the table of its rule; `a`, `b` and `d` are the values the operands read as. -/
def scalarResult (i : Instr) (w : Wave) : Option (Nat × Nat × Word64) :=
  let v (r : BitVec 5) : Word64 := w.sval r.toNat
  match i with
  | .sadd b a d _ => some (d.toNat, 1, BitVec.ofNat 64 ((v a).toNat + (v b).toNat))
  | .ssub b a d _ => some (d.toNat, 1, BitVec.ofInt 64 ((v a).toInt - (v b).toInt))
  | .smul b a d _ => some (d.toNat, 2, BitVec.ofNat 64 ((v a).toNat * (v b).toNat))
  | .smulh b a d _ => some (d.toNat, 2, BitVec.ofInt 64 ((v a).toInt * (v b).toInt / 2 ^ 64))
  | .sand b a d _ => some (d.toNat, 1, v a &&& v b)
  | .sor b a d _ => some (d.toNat, 1, v a ||| v b)
  | .sxor b a d _ => some (d.toNat, 1, v a ^^^ v b)
  | .sshl b a d _ => some (d.toNat, 1, BitVec.ofNat 64 ((v a).toNat * 2 ^ ((v b).toNat % 64)))
  | .sshr b a d _ => some (d.toNat, 1, BitVec.ofNat 64 ((v a).toNat / 2 ^ ((v b).toNat % 64)))
  | .ssar b a d _ => some (d.toNat, 1, BitVec.ofInt 64 ((v a).toInt / 2 ^ ((v b).toNat % 64)))
  | .smin b a d _ => some (d.toNat, 1, if (v a).toInt ≤ (v b).toInt then v a else v b)
  | .smax b a d _ => some (d.toNat, 1, if (v a).toInt ≤ (v b).toInt then v b else v a)
  | .snmin b a d _ => some (d.toNat, 1, if (v a).toNat ≤ (v b).toNat then v a else v b)
  | .snmax b a d _ => some (d.toNat, 1, if (v a).toNat ≤ (v b).toNat then v b else v a)
  | .sclz a d _ => some (d.toNat, 1, BitVec.ofNat 64 (clz (v a)))
  | .spopc a d _ => some (d.toNat, 1, BitVec.ofNat 64 (ones (v a)))
  | .sbfx b a d _ =>
    let p := (v b).toNat % 64
    let n := fieldWidth 64 p ((v b).toNat / 256 % 128)
    some (d.toNat, 1, BitVec.ofNat 64 ((v a).toNat / 2 ^ p % 2 ^ n))
  | .sbfi b a d _ =>
    let p := (v b).toNat % 64
    let n := fieldWidth 64 p ((v b).toNat / 256 % 128)
    let f : Word64 := BitVec.ofNat 64 ((2 ^ n - 1) * 2 ^ p)
    some (d.toNat, 1, (v d &&& ~~~f) ||| (BitVec.ofNat 64 ((v a).toNat * 2 ^ p) &&& f))
  | .smov a d _ => some (d.toNat, 1, v a)
  | .scmp c b a d _ => some (d.toNat, 1, if intCondition c.toNat (v a) (v b) then 1 else 0)
  | .saddi x d _ => some (d.toNat, 1, BitVec.ofInt 64 ((v d).toInt + x.toInt))
  | .smovi x d _ => some (d.toNat, 1, BitVec.ofInt 64 x.toInt)
  | .slui x d _ => some (d.toNat, 1, BitVec.ofNat 64 ((v d).toNat * 65536 + x.toNat))
  | _ => none

/-! ### Vector instructions (R333) -/

/-- What a vector instruction writes: the register, the lanes, the latency in beats and in further cycles (R72, R73), the
value of each lane, and the flags each lane raises. -/
structure LaneResult where
  dest  : Nat
  mask  : Word64
  beats : Nat
  extra : Nat
  value : Nat → Word32
  flags : Nat → Word64

/-- An instruction that gives each lane a value and raises no flag. -/
def quiet (d : Nat) (mask : Word64) (f : Nat → Word32) : Option LaneResult := some ⟨d, mask, 2, 0, f, fun _ => 0⟩

/-- Integer, logic, shift, bit-field and move operations on one lane (R135, R338, R339, R343, R354, R355, R362, R363,
R365, R367), with the 16-bit forms of R95: D := D op B under the active mask. -/
def integerResult (i : Instr) (w : Wave) : Option LaneResult :=
  let at_ (r : Nat) (l : Nat) : Word32 := w.vval r l
  let two (m : BitVec 3) (b a d : BitVec 6) (f : Word32 → Word32 → Word32) : Option LaneResult :=
    quiet d.toNat (w.active &&& w.mval m.toNat) (fun l => f (at_ a.toNat l) (at_ b.toNat l))
  let one (m : BitVec 3) (a d : BitVec 6) (f : Word32 → Word32) : Option LaneResult :=
    quiet d.toNat (w.active &&& w.mval m.toNat) (fun l => f (at_ a.toNat l))
  let short (b : BitVec 5) (d : BitVec 6) (f : Word32 → Word32 → Word32) : Option LaneResult :=
    quiet d.toNat w.active (fun l => f (at_ d.toNat l) (at_ b.toNat l))
  let add (x y : Word32) : Word32 := BitVec.ofNat 32 (x.toNat + y.toNat)
  let sub (x y : Word32) : Word32 := BitVec.ofInt 32 (x.toInt - y.toInt)
  let mul (x y : Word32) : Word32 := BitVec.ofNat 32 (x.toNat * y.toNat)
  let shl (x y : Word32) : Word32 := BitVec.ofNat 32 (x.toNat * 2 ^ (y.toNat % 32))
  let shr (x y : Word32) : Word32 := BitVec.ofNat 32 (x.toNat / 2 ^ (y.toNat % 32))
  let sar (x y : Word32) : Word32 := BitVec.ofInt 32 (x.toInt / 2 ^ (y.toNat % 32))
  match i with
  | .viadd m b a d _ => two m b a d add
  | .visub m b a d _ => two m b a d sub
  | .vimul m b a d _ => two m b a d mul
  | .vimulh m b a d _ => two m b a d (fun x y => BitVec.ofInt 32 (x.toInt * y.toInt / 2 ^ 32))
  | .vimad m b a d _ =>
    quiet d.toNat (w.active &&& w.mval m.toNat)
      (fun l => BitVec.ofNat 32 ((at_ a.toNat l).toNat * (at_ b.toNat l).toNat + (at_ d.toNat l).toNat))
  | .vimin m b a d _ => two m b a d (fun x y => if x.toInt ≤ y.toInt then x else y)
  | .vimax m b a d _ => two m b a d (fun x y => if x.toInt ≤ y.toInt then y else x)
  | .vand m b a d _ => two m b a d (fun x y => x &&& y)
  | .vor m b a d _ => two m b a d (fun x y => x ||| y)
  | .vxor m b a d _ => two m b a d (fun x y => x ^^^ y)
  | .vshl m b a d _ => two m b a d shl
  | .vshr m b a d _ => two m b a d shr
  | .vsar m b a d _ => two m b a d sar
  | .vbfx m b a d _ => two m b a d (fun x y =>
      BitVec.ofNat 32 (x.toNat / 2 ^ (y.toNat % 32) % 2 ^ fieldWidth 32 (y.toNat % 32) (y.toNat / 256 % 64)))
  | .vbfi m b a d _ =>
    quiet d.toNat (w.active &&& w.mval m.toNat) (fun l =>
      let p := (at_ b.toNat l).toNat % 32
      let f : Word32 := BitVec.ofNat 32 ((2 ^ fieldWidth 32 p ((at_ b.toNat l).toNat / 256 % 64) - 1) * 2 ^ p)
      (at_ d.toNat l &&& ~~~f) ||| (BitVec.ofNat 32 ((at_ a.toNat l).toNat * 2 ^ p) &&& f))
  | .vsel m b a d _ =>
    quiet d.toNat w.active (fun l => if (w.mval m.toNat).getLsbD l then at_ a.toNat l else at_ b.toNat l)
  | .vmov m b d _ => one m b d (fun x => x)
  | .vmovi x d _ => quiet d.toNat w.active (fun _ => BitVec.ofInt 32 x.toInt)
  | .vbcast m a d _ => quiet d.toNat (w.active &&& w.mval m.toNat) (fun _ => BitVec.ofNat 32 (w.sval a.toNat).toNat)
  | .laneid m d _ => quiet d.toNat (w.active &&& w.mval m.toNat) (fun l => BitVec.ofNat 32 l)
  | .vnot m a d _ => one m a d (fun x => ~~~x)
  | .vpopc m a d _ => one m a d (fun x => BitVec.ofNat 32 (ones x))
  | .vclz m a d _ => one m a d (fun x => BitVec.ofNat 32 (clz x))
  | .vabsF32 m a d _ => one m a d (fun x => if 0x7F800000 < x.toNat % 2 ^ 31 then 0x7FC00000 else x &&& 0x7FFFFFFF)
  | .vabsI32 m a d _ =>
    some ⟨d.toNat, w.active &&& w.mval m.toNat, 2, 0,
      fun l => if (at_ a.toNat l).toNat = 0x80000000 then 0x7FFFFFFF else BitVec.ofNat 32 (at_ a.toNat l).toInt.natAbs,
      fun l => if (at_ a.toNat l).toNat = 0x80000000 then flagS else 0⟩
  | .vmov16 b d => short b d (fun _ y => y)
  | .viadd16 b d => short b d add
  | .visub16 b d => short b d sub
  | .vimul16 b d => short b d mul
  | .vand16 b d => short b d (fun x y => x &&& y)
  | .vor16 b d => short b d (fun x y => x ||| y)
  | .vxor16 b d => short b d (fun x y => x ^^^ y)
  | .vshl16 b d => short b d shl
  | .vshr16 b d => short b d shr
  | .vsar16 b d => short b d sar
  | _ => none

/-- What a vector instruction that completes does, from its table (R123, R333): the lanes of the mask have their values and
raise their flags; nothing else changes. Outside a fused sequence the result is readable after its latency. -/
def lanesWritten (i : Instr) (r : LaneResult) (s t : State) : Prop :=
  (∀ l < 64, r.mask.getLsbD l = true → element t.wave r.dest l = r.value l) ∧
  raised r.mask r.flags s t ∧ vectorFrame i r.dest r.mask s t ∧
  (s.wave.fuse = none → ∀ n, s.wave.now + r.beats * s.passes s.wave + r.extra ≤ n →
    (∀ e ∈ s.wave.pend, e.reg = .v r.dest → e.due ≤ n) → ∀ l < 64,
      ({ t.wave with now := n } : Wave).vval r.dest l = element t.wave r.dest l)

end Sys2Proof.Claims

open Sys2Proof Sys2Proof.Machine

/-- R323 to R325, R72, R74: SADD, SSUB, SMUL, SMULH, SAND, SOR, SXOR, SSHL, SSHR, SSAR, SMIN, SMAX, SNMIN, SNMAX, SCLZ,
SPOPC, SBFX, SBFI, SMOV, SCMP, SADDI, SMOVI and SLUI, wherever they act, write the value of their table to sD, readable
after its latency; every other register, SATF and all of memory are unchanged. -/
def Obligations.ScalarArithmeticResults : Prop :=
  ∀ (i : Instr) (s : State) (d beats : Nat) (x : Word64),
    Claims.scalarResult i s.wave = some (d, beats, x) → acts i s = true →
    ∃ t, exec i s = .next t ∧ sget t.wave.s d = x ∧ Claims.scalarFrame i d s t ∧ Claims.scalarReady d beats s t

/-- R333, R339, R343, R355, R362, R363, R365, R367, R135, R338, R95: the vector integer, logic, shift, bit-field, select and
move instructions and their 16-bit forms, wherever they act, give every lane of their mask the value of their table; every
other element, register and byte of memory is unchanged. -/
def Obligations.VectorIntegerResults : Prop :=
  ∀ (i : Instr) (s : State) (r : Claims.LaneResult),
    Claims.integerResult i s.wave = some r → acts i s = true →
    ∃ t, exec i s = .next t ∧ Claims.lanesWritten i r s t

namespace Sys2Proof.Claims

/-! ### Floating point, fixed point and special functions (R114 to R120, R124, R344 to R353, R370 to R372) -/

/-- x of R114 saturated to 32 bits. -/
def fxValue (x : Int) : Word32 := BitVec.ofInt 32 (if x > 0x7FFFFFFF then 0x7FFFFFFF else if x < -2 ^ 31 then -2 ^ 31 else x)

/-- S of R114: the result was saturated. -/
def fxFlag (x : Int) : Word64 := if x > 0x7FFFFFFF ∨ x < -2 ^ 31 then flagS else 0

/-- round(p / 2^16) of R114: to the nearest integer, a tie to the even one; or toward zero. -/
def fxRound (toZero : Bool) (p : Int) : Int :=
  if toZero then p.tdiv 65536
  else
    let low := p / 65536
    let rest := p % 65536
    if rest < 32768 then low else if rest > 32768 then low + 1 else if low % 2 = 0 then low else low + 1

/-- VXMUL on one lane: the value and the flags (R114). -/
def fxProduct (toZero : Bool) (a b : Word32) : Word32 × Word64 :=
  let x := fxRound toZero (a.toInt * b.toInt)
  (fxValue x, fxFlag x ||| (if a.toInt * b.toInt % 65536 ≠ 0 then flagX else 0))

/-- VFKEY on one lane (R131): the 16-bit key of the value in the low half. -/
def keyOf (nanAbove : Nat) (a : Word32) : Word32 :=
  let h := a.toNat % 65536
  if nanAbove < h % 32768 then 0 else BitVec.ofNat 32 (if 32768 ≤ h then 65535 - h else h + 32768)

/-- VFMAX and VFMIN (R117): one NaN gives the other operand, two give the canonical NaN; -0 is below +0. -/
def extremum (larger : Bool) (a b : Word32) : Word32 :=
  let nan (x : Word32) : Bool := decide (0x7F800000 < x.toNat % 2 ^ 31)
  let below (x y : Word32) : Bool :=
    if x.msb && !y.msb then true else if y.msb && !x.msb then false
    else if x.msb then decide (y.toNat < x.toNat) else decide (x.toNat < y.toNat)
  if nan a && nan b then 0x7FC00000 else if nan a then b else if nan b then a
  else if larger then (if below a b then b else a) else (if below b a then b else a)

/-- The class of an FP32 element by its bit (R346). -/
def classBit (a : Word32) : Nat :=
  let x := a.toNat % 2 ^ 31
  if 0x7F800000 < x then 8
  else if a.msb then
    (if x = 0x7F800000 then 0 else if 0x00800000 ≤ x then 1 else if 0 < x then 2 else 3)
  else if x = 0x7F800000 then 7 else if 0x00800000 ≤ x then 6 else if 0 < x then 5 else 4

/-- FP32, FX32 and conversion instructions on one lane, with the 16-bit forms of R95. The FP32 operations, the
conversions and the special functions are the model's: exact, then rounded once (R115, R124). -/
def floatResult (i : Instr) (w : Wave) : Option LaneResult :=
  let at_ (r : Nat) (l : Nat) : Word32 := w.vval r l
  let row (d : Nat) (mask : Word64) (beats : Nat) (f : Nat → Word32 × Word64) : Option LaneResult :=
    some ⟨d, mask, beats, 0, fun l => (f l).1, fun l => (f l).2⟩
  let two {k n : Nat} (m : BitVec k) (b : BitVec n) (a d : BitVec 6) (f : Word32 → Word32 → Word32 × Word64) :=
    row d.toNat (w.active &&& w.mval m.toNat) 3 (fun l => f (at_ a.toNat l) (at_ b.toNat l))
  let three {k n : Nat} (m : BitVec k) (b : BitVec n) (a d : BitVec 6)
      (f : Word32 → Word32 → Word32 → Word32 × Word64) :=
    row d.toNat (w.active &&& w.mval m.toNat) 3 (fun l => f (at_ a.toNat l) (at_ b.toNat l) (at_ d.toNat l))
  let one (m : BitVec 3) (a d : BitVec 6) (beats : Nat) (f : Word32 → Word32 × Word64) :=
    row d.toNat (w.active &&& w.mval m.toNat) beats (fun l => f (at_ a.toNat l))
  let short (b : BitVec 5) (d : BitVec 6) (f : Word32 → Word32 → Word32 × Word64) :=
    row d.toNat w.active 3 (fun l => f (at_ d.toNat l) (at_ b.toNat l))
  let plus (x y : Word32) : Word32 × Word64 := (fxValue (x.toInt + y.toInt), fxFlag (x.toInt + y.toInt))
  let mode (r : BitVec 2) : Rounding := if r = 1 then .rz else if r = 2 then .rp else if r = 3 then .rm else .rne
  match i with
  | .vfadd m b a d _ => two m b a d (fadd .rne)
  | .vfsub m b a d _ => two m b a d (fsub .rne)
  | .vfmul m b a d _ => two m b a d (fmul .rne)
  | .vffma m b a d _ => three m b a d (ffma .rne)
  | .vhfma m b a d _ => three m b a d hfma
  | .vfaddDirected m r b a d _ => two m b a d (fadd (mode r))
  | .vfsubDirected m r b a d _ => two m b a d (fsub (mode r))
  | .vfmulDirected m r b a d _ => two m b a d (fmul (mode r))
  | .vffmaDirected m r b a d _ => three m b a d (ffma (mode r))
  | .vfmin m b a d _ => two m b a d (fun x y => (extremum false x y, 0))
  | .vfmax m b a d _ => two m b a d (fun x y => (extremum true x y, 0))
  | .vxadd m b a d _ => two m b a d plus
  | .vxsub m b a d _ => two m b a d (fun x y => (fxValue (x.toInt - y.toInt), fxFlag (x.toInt - y.toInt)))
  | .vxmul m b a d _ => two m b a d (fxProduct false)
  | .vxmulRz m b a d _ => two m b a d (fxProduct true)
  | .vfclass m a d _ => one m a d 2 (fun x => (BitVec.ofNat 32 (2 ^ classBit x), 0))
  | .vfkey m t a d _ => one m a d 3 (fun x => (keyOf (if t = 0 then 0x7C00 else 0x7F80) x, 0))
  | .vfcvt m c a d _ => one m a d 3 (fconvert c)
  | .vxcvt m c a d _ => one m a d 3 (xconvert c)
  | .vfadd16 b d => short b d (fadd .rne)
  | .vfsub16 b d => short b d (fsub .rne)
  | .vfmul16 b d => short b d (fmul .rne)
  | .vfmax16 b d => short b d (fun x y => (extremum true x y, 0))
  | .vfmin16 b d => short b d (fun x y => (extremum false x y, 0))
  | .vxadd16 b d => short b d plus
  | .vfrcp m a d _ => one m a d 4 frcp
  | .vfrsq m a d _ => one m a d 4 frsq
  | .vfex2 m a d _ => one m a d 4 fex2
  | .vfexp m a d _ => one m a d 4 fexp
  | .vflg2 m a d _ => one m a d 4 flg2
  | .vfsin m a d _ => one m a d 4 fsin
  | .vfcos m a d _ => one m a d 4 fcos
  | _ => none

/-! ### Across the lanes, and masks (R82, R136, R138, R199, R200, R306, R340, R347, R356, R361, R364, R368, R369) -/

/-- Shuffles and VWRLANE: every read before any write. -/
def shuffleResult (i : Instr) (w : Wave) : Option LaneResult :=
  let moved (m : BitVec 3) (d a : BitVec 6) (from_ : Nat → Nat) : Option LaneResult :=
    some ⟨d.toNat, w.active &&& w.mval m.toNat, 2, 6, fun l => w.vval a.toNat (from_ l), fun _ => 0⟩
  match i with
  | .vshfl m b a d _ => moved m d a (fun l => (w.vval b.toNat l).toNat % 64)
  | .vshfx m b a d _ => moved m d a (fun l => l ^^^ ((w.vval b.toNat l).toNat % 64))
  | .vshfr m b a d _ => moved m d a (fun l => (l + (w.vval b.toNat l).toNat) % 64)
  | .vwrlane n a d _ => some ⟨d.toNat, BitVec.ofNat 64 (2 ^ n.toNat), 2, 0, fun _ => BitVec.ofNat 32 (w.sval a.toNat).toNat, fun _ => 0⟩
  | _ => none

/-- VBALLOT, VVOTE, VRDLANE, MGET and MPOPC: the scalar register and the value. -/
def gatheredResult (i : Instr) (w : Wave) : Option (Nat × Word64) :=
  let member (m : BitVec 3) (l : Nat) : Bool := w.active.getLsbD l && (w.mval m.toNat).getLsbD l
  let lanes (m : BitVec 3) : List Nat := (List.range 64).filter (member m)
  match i with
  | .vballot m n a d _ =>
    some (d.toNat, (lanes m).foldl (fun x l => x ||| BitVec.ofNat 64 (((w.vval a.toNat l).toNat / 2 ^ n.toNat % 2) * 2 ^ l)) 0)
  | .vvote m c a d _ =>
    let x (l : Nat) : Word32 := w.vval a.toNat l
    let holds : Bool := match c.toNat with
      | 0 => (lanes m).any (fun l => x l != 0)
      | 1 => (lanes m).all (fun l => x l != 0)
      | _ => (lanes m).all (fun l => (lanes m).all (fun k => x l == x k))
    some (d.toNat, if holds then 1 else 0)
  | .vrdlane n a d _ => some (d.toNat, BitVec.ofNat 64 (w.vval a.toNat n.toNat).toNat)
  | .mget a d _ => some (d.toNat, w.mval a.toNat)
  | .mpopc a d _ => some (d.toNat, BitVec.ofNat 64 (ones (w.mval a.toNat)))
  | _ => none

/-- What an instruction writes to a mask register: the register and its new value. A compare changes the bits of the lanes of
active(M) alone (R347, R356); MSET and MLOG write the whole register (R306). -/
def maskResult (i : Instr) (w : Wave) : Option (Nat × (Nat → Bool)) :=
  let compared (m k : BitVec 3) (f : Nat → Bool) : Option (Nat × (Nat → Bool)) :=
    some (k.toNat, fun l =>
      if w.active.getLsbD l && (w.mval m.toNat).getLsbD l then f l else (sget w.m k.toNat).getLsbD l)
  match i with
  | .vicmp m b a c k _ => compared m k (fun l => intCondition c.toNat (w.vval a.toNat l) (w.vval b.toNat l))
  | .vfcmp m b a c k _ => compared m k (fun l => fcompare c (w.vval a.toNat l) (w.vval b.toNat l))
  | .mset a k _ => some (k.toNat, fun l => (w.sval a.toNat).getLsbD l)
  | .mlog f b a k _ =>
    some (k.toNat, fun l =>
      let x := (w.mval a.toNat).getLsbD l
      let y := (w.mval b.toNat).getLsbD l
      match f.toNat with
      | 0 => x && y
      | 1 => x || y
      | 2 => x != y
      | _ => x && !y)
  | _ => none

end Sys2Proof.Claims

/-- R345, R353, R117, R114, R346, R131, R349, R372, R348, R95: the FP32, FX32, class, key, conversion and special-function
instructions and their 16-bit forms, wherever they act, give every lane of their mask its value and raise its flags. -/
def Obligations.VectorFloatResults : Prop :=
  ∀ (i : Instr) (s : State) (r : Claims.LaneResult),
    Claims.floatResult i s.wave = some r → acts i s = true →
    ∃ t, exec i s = .next t ∧ Claims.lanesWritten i r s t

/-- R364, R138, R82, R369: the shuffles and VWRLANE, wherever they act, write the values of their source lanes as those stood
before the instruction; every other element is unchanged. -/
def Sys2Proof.Claims.ShuffleResults : Prop :=
  ∀ (i : Instr) (s : State) (r : Claims.LaneResult),
    Claims.shuffleResult i s.wave = some r → acts i s = true →
    ∃ t, exec i s = .next t ∧ Claims.lanesWritten i r s t

/-- R136, R368, R200, R306: VBALLOT, VVOTE, VRDLANE, MGET and MPOPC, wherever they act, write their value to sD alone. -/
def Sys2Proof.Claims.GatheredResults : Prop :=
  ∀ (i : Instr) (s : State) (d : Nat) (x : Word64),
    Claims.gatheredResult i s.wave = some (d, x) → acts i s = true →
    ∃ t, exec i s = .next t ∧ sget t.wave.s d = x ∧ Claims.scalarFrame i d s t

/-- R347, R356, R306: VICMP, VFCMP, MSET and MLOG, wherever they act, write their mask register alone; a compare keeps the bits
of the lanes outside active(M). -/
def Sys2Proof.Claims.MaskResults : Prop :=
  ∀ (i : Instr) (s : State) (k : Nat) (f : Nat → Bool),
    Claims.maskResult i s.wave = some (k, f) → acts i s = true →
    ∃ t, exec i s = .next t ∧ (∀ l < 64, (sget t.wave.m k).getLsbD l = f l) ∧ Claims.maskFrame i k s t

/-- R364, R136, R347, R306: shuffles, votes and mask instructions: `ShuffleResults`, `GatheredResults` and `MaskResults`. -/
def Obligations.CrossLaneResults : Prop :=
  Claims.ShuffleResults ∧ Claims.GatheredResults ∧ Claims.MaskResults

/-- R199, R361, R122, R123, R73: VLRED and VSCAN, wherever they act with a lane in active(M), write to those lanes the results of the
fixed tree and of the fixed scan over the elements of the member lanes and the identity elsewhere, and raise the flags of its
combinations, ARM with them under AUTO; nothing but vD and flags changes, and with no member nothing is written. Outside a fused
sequence the result is interlocked, and readable after 3P + 6 cycles and no earlier than an older result of the register. -/
def Sys2Proof.Claims.ReductionResults : Prop :=
  ∀ (scans : Bool) (m t p : BitVec 3) (a d : BitVec 6) (st : BitVec 3) (s : State),
    let i : Instr := if scans then .vscan m t p a d st else .vlred m t p a d st
    let mask := s.wave.active &&& s.wave.mval m.toNat
    let xs := (List.range 64).map (fun l => if mask.getLsbD l then s.wave.vval a.toNat l else identity p.toNat t.toNat)
    let r := if scans then scan p.toNat t.toNat xs else reduce p.toNat t.toNat xs
    acts i s = true →
    ∃ u, exec i s = .next u ∧
      (∀ l < 64, mask.getLsbD l = true → Claims.element u.wave d.toNat l = r.1.getD l 0) ∧
      Claims.raised mask (fun _ => r.2) s u ∧ Claims.vectorFrame i d.toNat mask s u ∧
      (mask ≠ 0 → s.wave.fuse = none → u.wave.fuse = none →
        (∃ e ∈ u.wave.pend, e.reg = .v d.toNat ∧ e.interlocked = true ∧ s.wave.now + (3 * s.passes s.wave + 6) ≤ e.due) ∧
        ∀ n, s.wave.now + (3 * s.passes s.wave + 6) ≤ n → (∀ e ∈ s.wave.pend, e.reg = .v d.toNat → e.due ≤ n) →
          ∀ l < 64, ({ u.wave with now := n } : Wave).vval d.toNat l = Claims.element u.wave d.toNat l)

namespace Sys2Proof.Claims

/-- comb(p, q) and its flags, by the AOP number and the type (0 .f32, 1 .i32, 2 .fx32) of R199. -/
def combination (op type : Nat) (p q : Word32) : Word32 × Word64 :=
  if op = 0 then
    (if type = 0 then fadd .rne p q
     else if type = 1 then (BitVec.ofNat 32 (p.toNat + q.toNat), 0)
     else (fxValue (p.toInt + q.toInt), fxFlag (p.toInt + q.toInt)))
  else if type = 0 then (extremum (op == 3) p q, 0)
  else if op = 2 then (if p.toInt ≤ q.toInt then p else q, 0)
  else if op = 3 then (if p.toInt ≤ q.toInt then q else p, 0)
  else if op = 4 then (if p.toNat ≤ q.toNat then p else q, 0)
  else if op = 5 then (if p.toNat ≤ q.toNat then q else p, 0)
  else if op = 6 then (p &&& q, 0)
  else (p ||| q, 0)

/-- ident(op, type) of R199. -/
def neutral (op type : Nat) : Word32 :=
  if type = 0 then (if op = 0 then 0x80000000 else 0x7FC00000)
  else if op = 2 then 0x7FFFFFFF else if op = 3 then 0x80000000 else if op = 4 ∨ op = 6 then 0xFFFFFFFF else 0

/-- The combinations of operation and type that exist (R103). -/
def combines (op type : Nat) : Prop :=
  (type = 1 ∧ op ≤ 7 ∧ op ≠ 1) ∨ ((type = 0 ∨ type = 2) ∧ (op = 0 ∨ op = 2 ∨ op = 3))

/-- The value that the 2^k lanes from `base` up combine to: the lower half's value first (R199). -/
def treeValue (f : Word32 → Word32 → Word32) (x : Nat → Word32) : Nat → Nat → Word32
  | 0, base => x base
  | k + 1, base => f (treeValue f x k base) (treeValue f x k (base + 2 ^ k))

/-- The value of a lane after `k` steps of the scan: it takes in the lane 2^(k-1) below, whose value comes first (R361). -/
def scanValue (f : Word32 → Word32 → Word32) (x : Nat → Word32) : Nat → Nat → Word32
  | 0, lane => x lane
  | k + 1, lane =>
    if 2 ^ k ≤ lane then f (scanValue f x k (lane - 2 ^ k)) (scanValue f x k lane) else scanValue f x k lane

end Sys2Proof.Claims

/-- R199, R361, R114, R117: for every combination of R103, VLRED's value in each lane is that of the tree over all lanes, VSCAN's
that of its six steps, each step combining as the table of R199; the flags are those that some step raises; a lane outside
active(M) counts as the identity of the table. -/
def Sys2Proof.Claims.TreesCombineAsTheTable : Prop :=
  ∀ (op type : Nat), Claims.combines op type →
    identity op type = Claims.neutral op type ∧
    ∀ (xs : List Word32), xs.length = 64 →
      let x (l : Nat) : Word32 := xs.getD l 0
      let f (p q : Word32) : Word32 := (Claims.combination op type p q).1
      let tree := Claims.treeValue f x
      let part := Claims.scanValue f x
      (∀ l < 64, (reduce op type xs).1.getD l 0 = tree 6 0 ∧ (scan op type xs).1.getD l 0 = part 6 l) ∧
      (∀ j, (reduce op type xs).2.getLsbD j = true ↔ ∃ k < 6, ∃ b < 2 ^ (5 - k),
        (Claims.combination op type (tree k (b * 2 ^ (k + 1))) (tree k (b * 2 ^ (k + 1) + 2 ^ k))).2.getLsbD j = true) ∧
      (∀ j, (scan op type xs).2.getLsbD j = true ↔ ∃ k < 6, ∃ l < 64, 2 ^ k ≤ l ∧
        (Claims.combination op type (part k (l - 2 ^ k)) (part k l)).2.getLsbD j = true)

/-- R199, R361: what the trees of type .i32 mean for a lane of VLRED, over all lanes, and for a lane of VSCAN, over those up to and
including its own: the sum modulo 2^32; the least and the greatest, signed and unsigned; the bits set in all, and those set
in some. -/
def Sys2Proof.Claims.IntegerResultsOfLanes : Prop :=
  ∀ (xs : List Word32), xs.length = 64 → ∀ l < 64, ∀ (scans : Bool),
    let ys := if scans then xs.take (l + 1) else xs
    let r (op : Nat) : Word32 := (if scans then scan op 1 xs else reduce op 1 xs).1.getD l 0
    r 0 = BitVec.ofNat 32 ((ys.map BitVec.toNat).sum) ∧
    (r 2 ∈ ys ∧ ∀ y ∈ ys, (r 2).toInt ≤ y.toInt) ∧ (r 3 ∈ ys ∧ ∀ y ∈ ys, y.toInt ≤ (r 3).toInt) ∧
    (r 4 ∈ ys ∧ ∀ y ∈ ys, (r 4).toNat ≤ y.toNat) ∧ (r 5 ∈ ys ∧ ∀ y ∈ ys, y.toNat ≤ (r 5).toNat) ∧
    (∀ j, (r 6).getLsbD j = ys.all (fun y => y.getLsbD j)) ∧
    (∀ j, (r 7).getLsbD j = ys.any (fun y => y.getLsbD j))

/-- R199, R361: the reductions and scans of the lanes: `ReductionResults`, and what their values are: `TreesCombineAsTheTable` and
`IntegerResultsOfLanes`. -/
def Obligations.ReductionsAndScans : Prop :=
  Claims.ReductionResults ∧ Claims.TreesCombineAsTheTable ∧ Claims.IntegerResultsOfLanes

namespace Sys2Proof.Claims

/-! ### Control (R62 to R71, R89, R91, R294, R299, R310, R321, R375) -/

/-- The target of a transfer with an offset in fetch blocks (R91): (PC AND NOT 63) + 64 x offset, modulo 2^64. -/
def target {n : Nat} (pc : Word64) (offset : BitVec n) : Word64 :=
  BitVec.ofInt 64 ((pc.toNat / 64 * 64 : Nat) + 64 * offset.toInt)

/-- The conditions of BCC on a signed 64-bit value (R99, R294). -/
def branchCondition (cc : Nat) (x : Word64) : Bool :=
  match cc with
  | 0 => decide (x.toInt = 0)
  | 1 => decide (x.toInt ≠ 0)
  | 2 => decide (x.toInt < 0)
  | 3 => decide (x.toInt ≤ 0)
  | 4 => decide (0 < x.toInt)
  | _ => decide (0 ≤ x.toInt)

/-- Where a transfer goes, and what CALL writes to s31 (R294); nowhere for any other instruction and for a register target
off a fetch-block boundary (R66). -/
def transfer (i : Instr) (w : Wave) : Option (Word64 × Option Word64) :=
  match i with
  | .bra o _ => some (target w.pc o, none)
  | .bcc o c r _ => some (if branchCondition c.toNat (w.sval r.toNat) then target w.pc o else w.pc + 4, none)
  | .call o _ => some (target w.pc o, some (BitVec.ofNat 64 ((w.pc.toNat + 3) % 2 ^ 64 / 64 * 64 + 64)))
  | .ret r _ => if (w.sval r.toNat).toNat % 64 = 0 then some (w.sval r.toNat, none) else none
  | .jmpr r _ => if (w.sval r.toNat).toNat % 64 = 0 then some (w.sval r.toNat, none) else none
  | _ => none

/-- The masks of a wave: active, RETIRED, and the stack, its top first (R62). -/
structure Masks where
  active  : Word64
  retired : Word64
  stack   : List Token

/-- The masks of a wave as it stands. -/
def masksOf (w : Wave) : Masks := ⟨w.active, w.retired, w.stack⟩

/-- BRK and CONT (R64): x leaves the active mask, and SAVED of every token above the innermost LOOP token p, and p changes by
`f`. -/
def leave (m : Masks) (x : Word64) (f : Token → Token) : Option Masks :=
  let above := m.stack.takeWhile (fun t => t.kind != .loop)
  match m.stack.dropWhile (fun t => t.kind != .loop) with
  | p :: rest => some ⟨m.active &&& ~~~x, m.retired, above.map (fun t => { t with saved := t.saved &&& ~~~x }) ++ f p :: rest⟩
  | [] => none

/-- What R64 gives each structured instruction but END: the masks after it and whether it skips; none where it traps. `sel`
is the mask of its field (R63). -/
def structuredResult (i : Instr) (m : Masks) (sel : Word64) : Option (Masks × Bool) :=
  match i, m.stack with
  | .ifm _ _ _, stack =>
    if stack.length = 16 then none
    else
      let taken := m.active &&& sel
      some (⟨taken, m.retired, ⟨.ifThen, m.active, taken, 0⟩ :: stack⟩, taken == 0)
  | .els _ _, t :: rest =>
    if t.kind = .ifThen then
      let other := t.saved &&& ~~~t.brkm
      some (⟨other, m.retired, { t with kind := .ifElse } :: rest⟩, other == 0)
    else none
  | .endif _, t :: rest => if t.kind = .loop then none else some (⟨t.saved, m.retired, rest⟩, false)
  | .loop _, stack =>
    if stack.length = 16 then none else some (⟨m.active, m.retired, ⟨.loop, m.active, 0, 0⟩ :: stack⟩, false)
  | .brk _ _, _ =>
    (leave m (m.active &&& sel) (fun t => { t with brkm := t.brkm ||| (m.active &&& sel) })).map (fun x => (x, false))
  | .cont _ _, _ =>
    (leave m (m.active &&& sel) (fun t => { t with contm := t.contm ||| (m.active &&& sel) })).map (fun x => (x, false))
  | .endl _ _, t :: rest =>
    if t.kind = .loop then
      let again := m.active ||| t.contm
      if again = 0 then some (⟨t.saved, m.retired, rest⟩, false)
      else some (⟨again, m.retired, { t with contm := 0 } :: rest⟩, true)
    else none
  | .exitm _ _, stack =>
    let x := m.active &&& sel
    let off (t : Token) : Token :=
      { t with saved := t.saved &&& ~~~x, brkm := t.brkm &&& ~~~x, contm := t.contm &&& ~~~x }
    some (⟨m.active &&& ~~~x, m.retired ||| x, stack.map off⟩, false)
  | _, _ => none

/-- The skip target and the mask field of a structured instruction (R63): the target where it has an offset. -/
def skipAndField : Instr → Option (BitVec 18) × Nat
  | .ifm o k _ => (some o, k.toNat)
  | .els o _ => (some o, 0)
  | .endl o _ => (some o, 0)
  | .brk k _ => (none, k.toNat)
  | .cont k _ => (none, k.toNat)
  | .exitm k _ => (none, k.toNat)
  | _ => (none, 0)

/-- The trap of a structured instruction that cannot act (R64): MASK_DEPTH for IF and LOOP, ILLOP for the others. -/
def structuredTrap : Instr → Option Nat
  | .ifm _ _ _ => some 0x03
  | .loop _ => some 0x03
  | .els _ _ => some 0x01
  | .endif _ => some 0x01
  | .brk _ _ => some 0x01
  | .cont _ _ => some 0x01
  | .endl _ _ => some 0x01
  | _ => none

/-- No lane of a wave that is in RETIRED is active, or waits in a token to become so (R62). -/
def retiredStay (w : Wave) : Prop :=
  w.active &&& w.retired = 0 ∧
  ∀ t ∈ w.stack, t.saved &&& w.retired = 0 ∧ t.brkm &&& w.retired = 0 ∧ t.contm &&& w.retired = 0

/-- A wave without its masks and stack. -/
def withoutMasks (x w : Wave) : Wave := { x with active := w.active, retired := w.retired, stack := w.stack }

end Sys2Proof.Claims

/-- R294, R66, R67: BRA, BCC, CALL, and RET and JMPR with an aligned target, wherever they act, continue at the address of
their rule, and a taken transfer costs 12 cycles more; CALL writes s31; the masks, every other register and memory are
unchanged. -/
def Obligations.TransferResults : Prop :=
  ∀ (i : Instr) (s : State) (pc : Word64) (link : Option Word64),
    Claims.transfer i s.wave = some (pc, link) → acts i s = true →
    ∃ t, exec i s = .next t ∧ t.wave.pc = pc ∧
      (∀ r, sget t.wave.s r = if r = 31 then link.getD (sget s.wave.s 31) else sget s.wave.s r) ∧
      Claims.settle { t.wave with s := s.wave.s, poisonS := s.wave.poisonS } s.wave = s.wave ∧
      (link = none → t.wave.s = s.wave.s) ∧ Claims.onlyWave s t ∧
      t.wave.readyAt = s.wave.now + s.passes s.wave * (1 + i.stall) +
        (match i with | .bcc _ c r _ => if Claims.branchCondition c.toNat (s.wave.sval r.toNat) then 12 else 0 | _ => 12)

/-- R66, R294, R335: RET and JMPR to an address off a fetch-block boundary raise ALIGN (code 0x02) before any state
changes. -/
def Sys2Proof.Claims.UnalignedJumpTraps : Prop :=
  ∀ (ret : Bool) (r : BitVec 5) (st : BitVec 3) (s : State),
    let i : Instr := if ret then .ret r st else .jmpr r st
    acts i s = true → (s.wave.sval r.toNat).toNat % 64 ≠ 0 →
    exec i s = raise (trapOf i 0x02 0 (s.wave.sval r.toNat).toNat []) s

/-- R62 to R65, R67: IF, ELSE, ENDIF, LOOP, BRK, CONT, ENDL and EXIT, wherever they act and R64 names no trap, leave the masks and
the stack that R64 gives and go to their skip target exactly when R64 skips; every register, m1 to m7 and memory are
unchanged. They cost a beat and their stall, 12 cycles more for a skip or a jump back, and 2P more for a rejoin. -/
def Sys2Proof.Claims.StructuredResults : Prop :=
  ∀ (i : Instr) (s : State) (m : Claims.Masks) (skips : Bool),
    Claims.structuredResult i (Claims.masksOf s.wave) (s.wave.mval (Claims.skipAndField i).2) = some (m, skips) →
    acts i s = true →
    ∃ t, exec i s = .next t ∧ Claims.masksOf t.wave = m ∧
      t.wave.pc = (if skips then Claims.target s.wave.pc ((Claims.skipAndField i).1.getD 0) else s.wave.pc + 4) ∧
      t.wave.readyAt = s.wave.now + s.passes s.wave * (1 + i.stall) + (if skips then 12 else 0) +
        (if ∃ l < 64, m.active.getLsbD l = true ∧ s.wave.active.getLsbD l = false then 2 * s.passes s.wave else 0) ∧
      Claims.withoutMasks (Claims.settle t.wave s.wave) s.wave = s.wave ∧ Claims.onlyWave s t

/-- R62: no structured instruction makes a lane of RETIRED active, now or through the mask stack, and none makes the stack deeper
than 16. -/
def Sys2Proof.Claims.RetiredLanesStayInactive : Prop :=
  ∀ (i : Instr) (s t : State),
    (Claims.structuredResult i (Claims.masksOf s.wave) (s.wave.mval (Claims.skipAndField i).2)).isSome = true →
    acts i s = true → exec i s = .next t → Claims.retiredStay s.wave → s.wave.stack.length ≤ 16 →
    Claims.retiredStay t.wave ∧ t.wave.stack.length ≤ 16 ∧ s.wave.retired &&& ~~~t.wave.retired = 0

/-- R62 to R65, R67: the structured instructions: `StructuredResults`, and for the lanes of RETIRED `RetiredLanesStayInactive`. -/
def Obligations.StructuredInstructionsActOnMasks : Prop :=
  Claims.StructuredResults ∧ Claims.RetiredLanesStayInactive

/-- R64, R107, R108: a structured instruction that R64 lets trap raises MASK_DEPTH (IF, LOOP) or ILLOP (the others), the masks and
the stack as they were. -/
def Sys2Proof.Claims.StructuredTraps : Prop :=
  ∀ (i : Instr) (s : State) (code : Nat),
    Claims.structuredTrap i = some code → acts i s = true →
    Claims.structuredResult i (Claims.masksOf s.wave) (s.wave.mval (Claims.skipAndField i).2) = none →
    exec i s = raise (trapOf i code 0 0 []) s

/-- R64, R66, R107, R294, R335: where a jump or a structured instruction traps: `UnalignedJumpTraps` and `StructuredTraps`. -/
def Obligations.ControlTraps : Prop :=
  Claims.UnalignedJumpTraps ∧ Claims.StructuredTraps

/-- R310, R375: NOP and YIELD, wherever they act, change no register, mask or byte of memory: the wave goes on behind them, after a
beat and their stall (R68). -/
def Sys2Proof.Claims.NopAndYieldComplete : Prop :=
  ∀ (yields : Bool) (st : BitVec 3) (s : State),
    let i : Instr := if yields then .yield st else .nop st
    acts i s = true →
    ∃ t, exec i s = .next t ∧ Claims.settle { t.wave with yielded := s.wave.yielded } s.wave = s.wave ∧
      t.wave.yielded = (yields || s.wave.yielded) ∧ t.wave.pc = s.wave.pc + 4 ∧
      t.wave.readyAt = s.wave.now + s.passes s.wave * (1 + st.toNat) ∧ Claims.onlyWave s t

/-- R69, R70, R321: RUN, where it acts, begins a run of COUNT instructions with e0 to e7 zero; RUNEND, where it acts and names no
result of an instruction in service, ends it. Neither changes another register, a mask or memory. -/
def Sys2Proof.Claims.RunFraming : Prop :=
  (∀ (c : BitVec 5) (st : BitVec 3) (s : State), acts (.run c st) s = true →
    1 ≤ c.toNat ∧ c.toNat ≤ 24 ∧ s.wave.run = none ∧ s.wave.level = .user ∧
    ∃ t, exec (.run c st) s = .next t ∧ t.wave.run = some ⟨0, c.toNat⟩ ∧ t.wave.pc = s.wave.pc + 4 ∧
      (∀ r l, l < 64 → Claims.element t.wave r l = if 56 ≤ r ∧ r < 64 then 0 else Claims.element s.wave r l) ∧
      Claims.settle { t.wave with v := s.wave.v, poisonV := s.wave.poisonV } s.wave = s.wave ∧
      { t with quads := s.quads } = { s with wave := t.wave }) ∧
  (∀ (z y x : BitVec 7) (st : BitVec 3) (s : State), acts (.runend z y x st) s = true → s.wave.service = none →
    (∃ n, s.wave.run = some ⟨n, 0⟩) ∧
    ∃ t, exec (.runend z y x st) s = .next t ∧ t.wave.run = none ∧ t.wave.pc = s.wave.pc + 4 ∧
      Claims.settle t.wave s.wave = s.wave ∧ { t with quads := s.quads } = { s with wave := t.wave })

/-- R71, R87, R299: END, where it acts, the wave holds no queue lock and none of its stores is in a combining buffer, ends the
wave: no wave is left in the issuing place, and memory is unchanged. -/
def Sys2Proof.Claims.EndRemovesTheWave : Prop :=
  ∀ (st : BitVec 3) (s : State), acts (.endw st) s = true →
    s.locks.find? (fun l => l.holder == s.wave.id) = none →
    buffered s s.wave.span.part (waveSender s.wave.id) = false →
    ∃ t, exec (.endw st) s = .next t ∧ t.wave = Wave.vacant ∧ t.waves.length = s.waves.length ∧
      ∀ key pa, memByte t key pa = memByte s key pa

/-- R69 to R71, R87, R299, R310, R321, R375: NOP, YIELD, RUN, RUNEND and END: `NopAndYieldComplete`, `RunFraming` and
`EndRemovesTheWave`. -/
def Obligations.SimpleControlCompletes : Prop :=
  Claims.NopAndYieldComplete ∧ Claims.RunFraming ∧ Claims.EndRemovesTheWave

/-- R109, R280, R329: SIGCHK, where it acts with SIGCTL.EN = 1 and TRAP = 0, sets SIG to 0, and sets MISS exactly when its value is
not SIG[20:0] XOR SIG[31:21]; with EN = 0 it does nothing but issue. -/
def Sys2Proof.Claims.SigchkCompares : Prop :=
  ∀ (x : BitVec 21) (st : BitVec 3) (s : State), acts (.sigchk x st) s = true →
    s.wave.sigctl.getLsbD 1 = false →
    ∃ t, exec (.sigchk x st) s = .next t ∧
      t.wave.sig = (if s.wave.sigctl.getLsbD 0 then 0 else s.wave.sig) ∧
      t.wave.sigctl = (if s.wave.sigctl.getLsbD 0 ∧
          x.toNat ≠ (s.wave.sig.toNat % 2 ^ 21) ^^^ (s.wave.sig.toNat / 2 ^ 21 % 2 ^ 11)
        then s.wave.sigctl ||| 4 else s.wave.sigctl) ∧
      Claims.settle { t.wave with sigctl := s.wave.sigctl } s.wave = s.wave ∧ t.wave.pc = s.wave.pc + 4 ∧
      Claims.onlyWave s t

namespace Sys2Proof.Claims

/-- C(x, w) of R279: for each byte of the word, least significant first, eight steps of the reflected polynomial. -/
def crc (x : BitVec 32) (word : Nat) : BitVec 32 :=
  (List.range 4).foldl (fun x k =>
    (List.range 8).foldl (fun x _ => (x >>> 1) ^^^ (if x.getLsbD 0 then 0x82F63B78#32 else 0))
      (x ^^^ BitVec.ofNat 32 (word / 256 ^ k % 256))) x

/-- The word of an instruction as the signature takes it: bits [3:1] are 0 (R279). -/
def hashedWord (i : Instr) : Nat :=
  match encode i with
  | some (_, w) => w - w % 16 + w % 2
  | none => 0

/-- fold(x) of R279. -/
def folded (x : Word64) : Nat := x.toNat / 2 ^ 32 ^^^ x.toNat % 2 ^ 32

/-- The OP of a structured instruction but END, and its inv (R279): from the masks before and after it. -/
def structuredHash (i : Instr) (before after : Masks) : Option (Nat × Nat) :=
  match i, before.stack, after.stack with
  | .ifm _ _ _, _, t :: _ => some (0x06, folded ((t.brkm ||| (t.saved &&& ~~~t.brkm)) ^^^ t.saved))
  | .els _ _, _, t :: _ => some (0x07, folded ((t.brkm ||| after.active) ^^^ t.saved))
  | .endif _, t :: _, _ => some (0x08, folded (after.active ^^^ t.saved))
  | .loop _, _, _ => some (0x09, 0)
  | .brk _ _, _, _ => some (0x0A, 0)
  | .cont _ _, _, _ => some (0x0B, 0)
  | .endl _ _, _, _ => some (0x0C, 0)
  | .exitm _ _, _, _ => some (0x0D, 0)
  | _, _, _ => none

/-- SIG is hashed of what a wave issues: with EN = 1, at user level (R279). -/
def hashes (w : Wave) : Prop := w.sigctl.getLsbD 0 = true ∧ w.level = .user

/-- The instructions of this table that neither transfer control nor change the masks: the scalar and vector arithmetic, the
shuffles, votes and mask instructions, the reductions and scans, NOP and YIELD. -/
def plain (i : Instr) (w : Wave) : Prop :=
  (scalarResult i w).isSome = true ∨ (integerResult i w).isSome = true ∨ (floatResult i w).isSome = true ∨
  (shuffleResult i w).isSome = true ∨ (gatheredResult i w).isSome = true ∨ (maskResult i w).isSome = true ∨
  (∃ m t p a d st, i = .vlred m t p a d st ∨ i = .vscan m t p a d st) ∨ (∃ st, i = .nop st ∨ i = .yield st)

end Sys2Proof.Claims

/-- R279: with SIGCTL.EN = 1 at user level, a completed instruction of the arithmetic families hashes its word into SIG, and NOP
leaves SIG; a structured instruction hashes its word, its inv, its OP and the depth after it; a skip, a taken branch and an
ENDL jump back set SIG to 0, and a branch not taken hashes its word. With EN = 0 or at supervisor level SIG stays. -/
def Sys2Proof.Claims.SignatureIsHashed : Prop :=
  ∀ (i : Instr) (s t : State), acts i s = true → exec i s = .next t →
    let sig : BitVec 32 := s.wave.sig.setWidth 32
    (Claims.plain i s.wave → s.wave.level = .user →
      t.wave.sig = if s.wave.sigctl.getLsbD 0 = true ∧ ∀ st, i ≠ .nop st then (Claims.crc sig (Claims.hashedWord i)).setWidth 64
        else s.wave.sig) ∧
    (∀ (pc : Word64) (link : Option Word64), Claims.transfer i s.wave = some (pc, link) → Claims.hashes s.wave →
      t.wave.sig = (match i with
        | .bcc _ c r _ => if Claims.branchCondition c.toNat (s.wave.sval r.toNat) then 0
            else (Claims.crc sig (Claims.hashedWord i)).setWidth 64
        | _ => 0)) ∧
    (∀ (m : Claims.Masks) (skips : Bool) (op inv : Nat), Claims.hashes s.wave →
      Claims.structuredResult i (Claims.masksOf s.wave) (s.wave.mval (Claims.skipAndField i).2) = some (m, skips) →
      Claims.structuredHash i (Claims.masksOf s.wave) m = some (op, inv) →
      t.wave.sig = if skips then 0
        else (Claims.crc (Claims.crc (Claims.crc sig (Claims.hashedWord i)) inv) (m.stack.length * 256 + op)).setWidth 64) ∧
    (¬ Claims.hashes s.wave →
      Claims.plain i s.wave ∨ (Claims.transfer i s.wave).isSome = true ∨
        (Claims.structuredResult i (Claims.masksOf s.wave) (s.wave.mval (Claims.skipAndField i).2)).isSome = true →
      t.wave.sig = s.wave.sig)

namespace Sys2Proof.Claims

/-! ### Control and status registers (R105, R122, R186, R258, R278, R327, R328, R379) -/

/-- What each CSR number of R105 reads as. -/
def csrValue (s : State) (n : Nat) : Word64 :=
  let w := s.wave
  match n with
  | 0x000 => BitVec.ofNat 64 (64 + 16 * 2 ^ 8 + s.passes w % 256 * 2 ^ 16 + 16 * 2 ^ 24)
  | 0x001 => (goodLanes s w.core w.quad).setWidth 64
  | 0x002 => w.wid
  | 0x003 => w.widfmt
  | 0x010 => BitVec.ofNat 64 s.cyc
  | 0x011 =>
    match s.findCtx w.span.part w.span.ctx with
    | some c => (match c.paused with | some g => BitVec.ofNat 64 g.1 | none => BitVec.ofInt 64 (c.off + s.cyc))
    | none => BitVec.ofNat 64 s.cyc
  | 0x020 => w.satf
  | 0x021 => w.satctl
  | 0x030 => w.sig
  | 0x031 => w.sigctl
  | 0x040 => w.sbchk
  | 0x050 => w.trapvec
  | 0x051 => w.trapframe
  | 0x200 => w.xdom
  | n => if 0x100 ≤ n ∧ n ≤ 0x13F then sget (s.coreOf w.core).accown (n - 0x100) else 0

/-- Whether R105 grants a level a kind of access to a CSR number. -/
def csrAccess (level : Level) (writes : Bool) (n : Nat) : Bool :=
  if [0x000, 0x001, 0x002, 0x003, 0x010, 0x011, 0x200].contains n then !writes
  else if [0x020, 0x021, 0x030, 0x031, 0x040].contains n then true
  else if [0x050, 0x051].contains n || (decide (0x100 ≤ n) && decide (n ≤ 0x13F)) then level == .supervisor
  else false

/-- The RW bits of the CSRs that have any (R75, R122, R186, R278, R379). -/
def csrRw (n : Nat) : Word64 :=
  match n with
  | 0x020 => 0xF
  | 0x021 => 0xF1
  | 0x030 => 0xFFFFFFFF
  | 0x031 => 0x3
  | 0x040 => 0x1
  | 0x050 => 0x00FFFFFFFFFFFFC0
  | 0x051 => 0x00FFFFFFFFFFFC00
  | _ => 0x3FF

/-- The number, the operand register, and the value (of the old one and the operand) of a CSR write (R327). -/
def csrWrite : Instr → Option (Nat × Nat × (Word64 → Word64 → Word64))
  | .scsw c r _ => some (c.toNat, r.toNat, fun _ x => x)
  | .scss c r _ => some (c.toNat, r.toNat, fun old x => old ||| x)
  | .scsc c r _ => some (c.toNat, r.toNat, fun old x => old &&& ~~~x)
  | _ => none

/-- MISS, the one W1C bit (R278, R327): SCSC leaves it, and a 1 in the operand of the others clears it. -/
def missLeft (i : Instr) (old x : Word64) : Word64 :=
  match i with
  | .scsc _ _ _ => old &&& 4
  | _ => old &&& 4 &&& ~~~x

end Sys2Proof.Claims

/-- R105, R327, R72: SCSR, wherever it acts on a CSR that is no poisoned ACCOWN, writes the value of its CSR to sD alone, readable
after one beat. -/
def Sys2Proof.Claims.CsrReads : Prop :=
  ∀ (c : BitVec 12) (r : BitVec 5) (st : BitVec 3) (s : State), acts (.scsr c r st) s = true →
    ownerSpoilt s s.wave.core c.toNat = false →
    ∃ t, exec (.scsr c r st) s = .next t ∧ sget t.wave.s r.toNat = Claims.csrValue s c.toNat ∧
      Claims.scalarFrame (.scsr c r st) r.toNat s t ∧ Claims.scalarReady r.toNat 1 s t

/-- R327, R186, R278: SCSW, SCSS and SCSC, wherever they act (SCSS and SCSC on no poisoned ACCOWN, and on no ACCOWN of a slot into which a
K-step of the wave has still to round, R262), leave in the RW bits of their CSR the value of R327 and 0 in
every other bit but MISS of SIGCTL; BUSY of an ACCOWN is then 0. Every other CSR and register, and memory, is unchanged. That a
write of SATF changes SATF alone, and so never sets ARM of SATCTL under AUTO, is the model's choice (log 33, DEDUCED): R122 speaks
of an instruction that sets a bit. -/
def Obligations.CsrWrites : Prop :=
  ∀ (i : Instr) (s : State) (n r : Nat) (f : Word64 → Word64 → Word64),
    Claims.csrWrite i = some (n, r, f) → acts i s = true →
    ((∃ c d st, i = .scsw c d st) ∨ ownerSpoilt s s.wave.core n = false) →
    (∀ z < 64, n = 0x100 + z → ownStep (s.coreOf s.wave.core) s.wave.id z = false) →
    let old := Claims.csrValue s n
    let x := s.wave.sval r
    let new := (f old x &&& Claims.csrRw n) ||| (if n = 0x031 then Claims.missLeft i old x else 0)
    ∃ t, exec i s = .next t ∧
      (∀ k, k ≠ 0x030 → Claims.csrValue t k = if k = n then new else Claims.csrValue s k) ∧
      (s.wave.sigctl.getLsbD 0 = false ∨ s.wave.level ≠ .user → t.wave.sig = if n = 0x030 then new else s.wave.sig) ∧
      { Claims.settle t.wave s.wave with
        satf := s.wave.satf, satctl := s.wave.satctl, sigctl := s.wave.sigctl, sbchk := s.wave.sbchk,
        trapvec := s.wave.trapvec, trapframe := s.wave.trapframe, poisonC := s.wave.poisonC } = s.wave ∧
      Claims.movedOn i s t ∧ { t with wave := s.wave, cores := s.cores } = s ∧
      (∀ k, { t.coreOf k with accown := (s.coreOf k).accown, poisonO := (s.coreOf k).poisonO } = s.coreOf k) ∧
      (∀ k z, k ≠ s.wave.core ∨ n ≠ 0x100 + z → sget (t.coreOf k).accown z = sget (s.coreOf k).accown z)

/-- R105: a CSR access that R105 does not grant at the wave's level raises ILLOP (code 0x01), whatever the CSR's fields. -/
def Sys2Proof.Claims.CsrAccessIsChecked : Prop :=
  ∀ (c : BitVec 12) (r : BitVec 5) (st : BitVec 3) (s : State),
    (Claims.csrAccess s.wave.level false c.toNat = false →
      exec (.scsr c r st) s = raise (trapOf (.scsr c r st) 0x01 0 0 []) s) ∧
    (Claims.csrAccess s.wave.level true c.toNat = false →
      exec (.scsw c r st) s = raise (trapOf (.scsw c r st) 0x01 0 0 []) s ∧
      exec (.scss c r st) s = raise (trapOf (.scss c r st) 0x01 0 0 []) s ∧
      exec (.scsc c r st) s = raise (trapOf (.scsc c r st) 0x01 0 0 []) s)

/-- R105, R327: reading a CSR, and the rights to a CSR: `CsrReads` and `CsrAccessIsChecked`. -/
def Obligations.CsrReadsAndRights : Prop :=
  Claims.CsrReads ∧ Claims.CsrAccessIsChecked

namespace Sys2Proof.Claims

/-! ### Traps and the return from one (R288, R302 to R304, R334 to R336) -/

/-- Nothing of a wave is on its way to another device (R174, R218). -/
def nothingInFlight (s : State) (w : Wave) : Prop :=
  (∀ p, tget s.parts w.span.part = some p → ∀ e ∈ p.combining, senderOf e.2 ≠ some (2 * w.id)) ∧
  (∀ o ∈ s.fabric.outs, ∀ k ∈ o.unacked, senderOf k.packet.payload ≠ some (2 * w.id)) ∧
  tgetD s.unanswered w.id 0 = 0

/-- A load through a leaf need not wait (R168): the memory is not strongly ordered, or nothing of the wave is on its way. -/
def loadsFreely (s : State) (l : Leaf) : Prop := l.mt ≠ 3 ∨ nothingInFlight s s.wave

/-- A store through a leaf neither waits nor is waited for (R168): the memory is not strongly ordered, or nothing of the wave
is on its way and the store itself stays on the device. -/
def storesFreely (s : State) (l : Leaf) : Prop := l.mt ≠ 3 ∨ (nothingInFlight s s.wave ∧ l.cls ≠ 2)

/-- The doublewords of a trap frame (R302, R303): s24 to s31, the eight fields of R303, the detail, and zeros. -/
def frameDoubleword (t : Trap) (w : Wave) (k : Nat) : Word64 :=
  let run := match w.run with
    | some r => 2 ^ 16 + r.pos % 32 * 2 ^ 17 + r.left % 32 * 2 ^ 22
    | none => 0
  match k with
  | 8 => BitVec.ofNat 64 (t.code + run + w.stack.length * 2 ^ 27)
  | 9 => w.pc
  | 10 => if t.next then w.pc + BitVec.ofNat 64 t.length else w.pc
  | 11 => w.active
  | 12 => w.retired
  | 13 => BitVec.ofNat 64 t.word
  | 14 => t.lanes
  | 15 => t.va
  | k => if k < 8 then sget w.s (24 + k) else (t.detail[k - 16]?).getD 0

/-- The device but for memory, the lines that the bank array holds of it (R143), and what a store to a transmit window or a
monitored page also reaches. -/
def beyondStores (s t : State) : Prop :=
  t = { s with
    wave := t.wave, mem := t.mem, lineKey := t.lineKey, poison := t.poison, array := t.array, parts := t.parts,
    spans := t.spans }

/-- A wave has entered its trap handler (R302): the frame stands at TRAPFRAME, all 128 doublewords of it, with zero where the trap holds
nothing (the model's choice: log 24), and no other byte under that page's key has changed; the wave is at supervisor level at TRAPVEC
with every lane that is not retired active, out of its run, and everything else of it is as it was. -/
def entered (l : Leaf) (x : Trap) (s u : State) : Prop :=
  let va := s.wave.trapframe.toNat
  (∀ k < 128, loadLe u l (va + 8 * k) 8 = (frameDoubleword x s.wave k).toNat) ∧
  (∀ pa, (∀ j < 1024, l.pa (va + j) ≠ pa) → memByte u l.key pa = memByte s l.key pa) ∧
  u.wave.level = .supervisor ∧ u.wave.pc = s.wave.trapvec ∧ u.wave.active = ~~~s.wave.retired ∧ u.wave.run = none ∧
  u.wave.pend = [] ∧
  { settle u.wave s.wave with level := s.wave.level, active := s.wave.active, trap := s.wave.trap, wait := s.wave.wait }
    = s.wave ∧
  beyondStores s u

/-- The doubleword that ERET reads at 8k of the frame (R304). -/
def frameRead (l : Leaf) (s : State) (k : Nat) : Nat := loadLe s l (s.wave.trapframe.toNat + 8 * k) 8

/-- No byte of an access within one page lies in a poisoned sector. -/
def unpoisoned (s : State) (l : Leaf) (va size : Nat) : Prop := ∀ j < size, sget s.poison (l.pa (va + j) / 32) = 0

/-- A span has been killed and reported (R273, R275, R288): none of its waves is left, and it has ended with its frame, or
its SPAN_DONE with status FAILED has been written. That the span, the status and the trap code are the first, the second and
the fourth word of the detail is the model's choice (log 11). -/
def spanKilled (id : SpanId) (code : Nat) (u : State) : Prop :=
  (∀ w ∈ u.allWaves, w.span ≠ id) ∧
  ((∃ x, u.findSpan id = some x ∧ x.phase = .ended ∧ x.frame.map (·.code) = some code) ∨
   (∃ p, tget u.parts id.part = some p ∧ ∃ r ∈ p.delivered ++ p.held ++ p.ring,
      r.event = true ∧ r.code = 1 ∧ r.ctx = id.ctx ∧ r.detail.getD 0 0 = id.span ∧ r.detail.getD 1 0 = 1 ∧
      r.detail.getD 3 0 = code))

/-- An error of a span has been contained (R273, R275): none of its waves is left, and it waits for its relaunch with its
frame, or it has been killed and reported. -/
def contained (id : SpanId) (code : Nat) (u : State) : Prop :=
  spanKilled id code u ∨
  ((∀ w ∈ u.allWaves, w.span ≠ id) ∧
    ∃ x, u.findSpan id = some x ∧ x.phase = .killed ∧ x.frame.map (·.code) = some code)

/-- A bank has taken an uncorrectable error of a kind that a wave met (R267, R269): its record names the wave, the unit, the
place and the lanes; a bank that still holds an uncorrectable record only counts it. -/
def recorded (kind unit addr : Nat) (lanes : Word64) (w : Wave) (cyc : Nat) (old new : Bank) : Prop :=
  if old.valid = true ∧ old.uc = true then
    new = { old with ovf := true, uecnt := if old.uecnt < 255 then old.uecnt + 1 else 255 }
  else
    new.valid = true ∧ new.uc = true ∧ new.kind = kind ∧ new.addr = addr ∧ new.cyc = cyc ∧ new.lanes = lanes ∧
    new.loc.core = w.core ∧ new.loc.quad = w.quad ∧ new.loc.unit = unit ∧ new.loc.part = w.span.part ∧
    new.loc.ctx = w.span.ctx ∧ (∀ l < 64, lanes.getLsbD l = true → new.loc.lane ≤ l) ∧
    (lanes ≠ 0 → lanes.getLsbD new.loc.lane = true)

end Sys2Proof.Claims

/-- Neither TRAPVEC nor TRAPFRAME of a wave is poisoned (R264). -/
def Sys2Proof.Claims.entryClean (w : Wave) : Prop := w.poisoned (.csr 0x050) = false ∧ w.poisoned (.csr 0x051) = false

/-- R302, R303, R288, R168: a trap of the codes 0x01 to 0x17 raised at user level, with no instruction in page-fault service and outside
a fused sequence, writes its frame at TRAPFRAME and enters the handler at TRAPVEC at supervisor level, where TRAPFRAME may be
stored to in an order that R168 leaves free, and neither register is poisoned. The frame's zeros are the model's choice (log 24). -/
def Sys2Proof.Claims.TrapEntry : Prop :=
  ∀ (x : Trap) (s : State) (l : Leaf), 1 ≤ x.code → x.code ≤ 0x17 →
    s.wave.level = .user → s.wave.service = none → s.wave.fuse = none →
    access s s.wave.span.part s.wave.span.ctx .store s.wave.trapframe.toNat 1024 = .ok l →
    Claims.entryClean s.wave → Claims.storesFreely s l →
    ∃ u, raise x s = .next u ∧ Claims.entered l x s u

/-- R288, R302, R273: a trap at supervisor level, and one whose frame cannot be written, kill the span, whose report is FAILED with the
trap's code, or PAGE_FAULT or CONSERVED_STORE for the frame's own fault; a frame whose translation is poisoned, and an entry that would
use a poisoned TRAPVEC or TRAPFRAME, is a consumed error (R264). The places in the report's detail are the model's choice (log 11). -/
def Obligations.FailedTrapsKillTheSpan : Prop :=
  ∀ (x : Trap) (s : State) (sp : Span),
    s.findSpan s.wave.span = some sp → sp.phase = .live → (tget s.parts s.wave.span.part).isSome = true →
    s.wave.fuse = none →
    (s.wave.level = .supervisor → ∃ u, raise x s = .next u ∧ Claims.spanKilled s.wave.span x.code u) ∧
    (∀ c, s.wave.level = .user → s.wave.service = none → Claims.entryClean s.wave →
      access s s.wave.span.part s.wave.span.ctx .store s.wave.trapframe.toNat 1024 = .error c →
      (∀ pa, c ≠ .device pa ∧ c ≠ .poison pa) →
      ∃ u, raise x s = .next u ∧ Claims.spanKilled s.wave.span (if c = .conserved then 0x07 else 0x05) u) ∧
    (s.wave.level = .user → s.wave.service = none →
      ¬ Claims.entryClean s.wave ∨
        (∃ pa, access s s.wave.span.part s.wave.span.ctx .store s.wave.trapframe.toNat 1024 = .error (.poison pa)) →
      ∃ u, raise x s = .next u ∧ Claims.contained s.wave.span 0x20 u)

/-- R334, R302, R303: TRAP, where it acts with TRAPFRAME writable in an order that R168 leaves free, TRAPVEC and TRAPFRAME not poisoned,
and no instruction in service, enters the handler with code 0x17
and its immediate as the detail; RESUME is the address behind it. -/
def Sys2Proof.Claims.TrapInstructionEnters : Prop :=
  ∀ (n : BitVec 16) (st : BitVec 3) (s : State) (l : Leaf),
    acts (.trap n st) s = true → s.wave.level = .user → s.wave.service = none → s.wave.fuse = none →
    access s s.wave.span.part s.wave.span.ctx .store s.wave.trapframe.toNat 1024 = .ok l →
    Claims.entryClean s.wave → Claims.storesFreely s l →
    ∃ u, exec (.trap n st) s = .next u ∧
      Claims.entered l
        { code := 0x17, lanes := 0, va := 0, next := true, detail := [BitVec.ofNat 64 n.toNat],
          word := wordOf (.trap n st), length := 4 } s u

/-- R280, R273, R269: SIGCHK that acts with EN = 1 and TRAP = 1 and does not match is SIG_MISMATCH (code 0x21): the span's error is
contained, and recorded with KIND 5 in the die's bank; at supervisor level the span is killed and reported. -/
def Sys2Proof.Claims.MismatchIsContained : Prop :=
  ∀ (x : BitVec 21) (st : BitVec 3) (s : State) (sp : Span), acts (.sigchk x st) s = true →
    s.wave.sigctl.getLsbD 0 = true → s.wave.sigctl.getLsbD 1 = true →
    x.toNat ≠ (s.wave.sig.toNat % 2 ^ 21) ^^^ (s.wave.sig.toNat / 2 ^ 21 % 2 ^ 11) →
    s.findSpan s.wave.span = some sp → sp.phase = .live → (tget s.parts s.wave.span.part).isSome = true →
    ∃ u, exec (.sigchk x st) s = .next u ∧
      (s.wave.level = .supervisor → Claims.spanKilled s.wave.span 0x21 u) ∧
      (s.wave.level = .user → Claims.contained s.wave.span 0x21 u ∧
        ∃ b, tget u.banks (dieOf s.wave.core) = some b ∧
          Claims.recorded 5 1 s.wave.pc.toNat 0 s.wave s.cyc (tgetD s.banks (dieOf s.wave.core) Bank.empty) b)

/-- R109, R278 to R280, R329: the signature: what SIGCHK compares, `SigchkCompares`; what is hashed, `SignatureIsHashed`; and
how a mismatch is contained, `MismatchIsContained`. -/
def Obligations.SignatureChecks : Prop :=
  Claims.SigchkCompares ∧ Claims.SignatureIsHashed ∧ Claims.MismatchIsContained

/-- R302, R303, R334: taking a trap, and the TRAP instruction: `TrapEntry` and `TrapInstructionEnters`. -/
def Obligations.TrapsEnterTheHandler : Prop :=
  Claims.TrapEntry ∧ Claims.TrapInstructionEnters

/-- R304, R271, R168: ERET, where it acts at supervisor level with a readable, unpoisoned frame, in an order that R168 leaves free, whose
DEPTH is no more than the stack and
whose RESUME is even, returns to user level with the registers, the mask, the run and the PC of the frame; s24 to s31 are
written, so their poison ends. -/
def Obligations.EretReturns : Prop :=
  ∀ (st : BitVec 3) (s : State) (l : Leaf),
    acts (.eret st) s = true → s.wave.level = .supervisor →
    frameAccess s s.wave = .ok l → Claims.unpoisoned s l s.wave.trapframe.toNat 128 → Claims.loadsFreely s l →
    let f := Claims.frameRead l s
    let depth := f 8 / 2 ^ 27 % 32
    let inRun := f 8 / 2 ^ 16 % 2 = 1
    depth ≤ s.wave.stack.length → f 10 % 2 = 0 →
    ∃ t, exec (.eret st) s = .next t ∧ t.wave.level = .user ∧
      (∀ r, sget t.wave.s r = if 24 ≤ r ∧ r < 32 then BitVec.ofNat 64 (f (r - 24)) else sget s.wave.s r) ∧
      t.wave.active = BitVec.ofNat 64 (f 11) &&& ~~~s.wave.retired ∧
      t.wave.stack = s.wave.stack.drop (s.wave.stack.length - depth) ∧
      t.wave.run = (if inRun then some ⟨f 8 / 2 ^ 17 % 32, f 8 / 2 ^ 22 % 32⟩ else none) ∧
      t.wave.pc = BitVec.ofNat 64 (if inRun then f 9 else f 10) ∧
      (∀ r, sget t.wave.poisonS r = if 24 ≤ r ∧ r < 32 then 0 else sget s.wave.poisonS r) ∧
      { Claims.settle t.wave s.wave with
        s := s.wave.s, poisonS := s.wave.poisonS, active := s.wave.active, stack := s.wave.stack,
        level := s.wave.level } = s.wave ∧
      t = { s with wave := t.wave, array := t.array, parts := t.parts } ∧ ∀ key pa, memByte t key pa = memByte s key pa

/-- R302 to R304: a handler that has entered for a trap at user level and at once returns through its frame leaves the wave's scalar
registers, masks, stack and run as they were, at the trapping instruction, or behind it where RESUME says so. The entry is
`Claims.entered`, whose zeros in the frame are the model's choice (log 24). -/
def Obligations.ReturnUndoesEntry : Prop :=
  ∀ (x : Trap) (st : BitVec 3) (s u : State) (l : Leaf),
    Claims.entered l x s u → s.wave.level = .user → s.wave.service = none →
    x.code < 2 ^ 16 → s.wave.stack.length ≤ 16 → (∀ r, s.wave.run = some r → r.pos < 32 ∧ r.left < 32) →
    s.wave.pc.getLsbD 0 = false → x.length % 2 = 0 → s.wave.active &&& s.wave.retired = 0 →
    acts (.eret st) u = true → frameAccess u u.wave = .ok l → Claims.unpoisoned u l u.wave.trapframe.toNat 128 →
    Claims.loadsFreely u l →
    ∃ t, exec (.eret st) u = .next t ∧ t.wave.level = .user ∧
      (∀ r, sget t.wave.s r = sget s.wave.s r) ∧ t.wave.v = s.wave.v ∧ t.wave.m = s.wave.m ∧
      t.wave.active = s.wave.active ∧ t.wave.retired = s.wave.retired ∧ t.wave.stack = s.wave.stack ∧
      t.wave.run = s.wave.run ∧
      t.wave.pc = (if s.wave.run = none ∧ x.next = true then s.wave.pc + BitVec.ofNat 64 x.length else s.wave.pc)

/-! ### What every instruction meets before it acts (R74, R107, R156, R264, R270, R273) -/

/-- The forms that every instruction shares and R107 refuses: a reserved field value, a RUNEND that does not end its run (R71), a control
instruction or one too many inside a run (R70), a vector register that the launch or the place does not give (R93), and a
user instruction at supervisor level (R288). What the level grants of the CSRs is stated apart. -/
def Sys2Proof.Claims.formRefused (i : Instr) (w : Wave) : Prop :=
  i.wellFormed = false ∨
  (∃ z y x st, i = .runend z y x st ∧ ∀ p, w.run ≠ some ⟨p, 0⟩) ∨
  ((∀ z y x st, i ≠ .runend z y x st) ∧ ∃ r, w.run = some r ∧ (r.left = 0 ∨ i.control = true)) ∨
  (∃ r ∈ i.vectors, w.regs ≤ r ∧ (r < 56 ∨ w.run = none)) ∨ (∃ r ∈ i.group, w.regs ≤ r) ∨
  (w.level = .supervisor ∧
    ∃ n k st, i = .run n st ∨ i = .exitm k st ∨ i = .bar st ∨ i = .sbar st ∨ i = .gbar st)

/-- R74: the first source of an instruction, in the order of its operands, whose oldest result is not ready and not interlocked. -/
def Sys2Proof.Claims.shortOf (i : Instr) (w : Wave) (r : RegId) : Prop :=
  let awaited (x : RegId) (p : Pend) : Prop := p.reg = x ∧ w.now < p.due
  let short (x : RegId) : Prop := ∃ p before after, w.pend = before ++ p :: after ∧ awaited x p ∧ p.interlocked = false ∧
    ∀ q ∈ before, ¬awaited x q
  ∃ before after, i.reads = before ++ r :: after ∧ short r ∧ ∀ x ∈ before, ¬short x

/-- R74, R107, R156, R264, R270, R273, R336: an instruction whose form R107 refuses raises ILLOP (0x01). One that needs a result of the
wave's instruction in page-fault service, or has to keep behind it, waits. One with a source that is not ready raises
STALL_SHORT (0x04) with the source's number where SBCHK.EN = 1. One that reads a poisoned register consumes it: the error is
contained and recorded as CONSUMED (KIND 2) with the wave's place, at the PC, inside a fused sequence that of its first word (R133),
with the lanes that read a poisoned element; what a register reads as is poisoned or not with the value that it reads as (R74).
Nothing of the instruction acts. That the checks of R108 which rank before STALL_SHORT are made first is the model's choice (log
23), and that STALL_SHORT is not raised inside a fused sequence (log 72). -/
def Obligations.GateChecks : Prop :=
  ∀ (i : Instr) (s : State), (encode i).isSome = true →
    let w := s.wave
    (Claims.formRefused i w → exec i s = raise (trapOf i 0x01 0 0 []) s) ∧
    (illegal i w = false →
      (∀ sv, w.service = some sv → ordered i = true ∨ (∃ r ∈ sv.writes, r ∈ i.reads ++ i.writes) →
        exec i s = .next (Claims.sleeping .retryService s)) ∧
      (w.holdsBack i = false → early i s = false →
        (∀ r, w.sbchk.getLsbD 0 = true → w.fuse = none → Claims.shortOf i w r →
          exec i s = raise (trapOf i 0x04 0 0
            [match r with | .s n => n | .v n => 0x40 + n | .m n => 0x80 + n | _ => 0]) s) ∧
        (∀ sp, w.sbchk.getLsbD 0 = false → s.findSpan w.span = some sp → sp.phase = .live →
          (tget s.parts w.span.part).isSome = true →
          let spoilt (l : Nat) : Prop := ∃ e ∈ i.readLanes w, e.2.getLsbD l = true ∧ w.badLane e.1 l = true
          let pc := (match w.fuse with | some f => f.before.pc | none => w.pc).toNat
          let kept (u : State) (unit : Nat) (lanes : Word64) : Prop := Claims.contained w.span 0x20 u ∧
            ∃ b, tget u.banks (dieOf w.core) = some b ∧
              Claims.recorded 2 unit pc lanes w s.cyc (tgetD s.banks (dieOf w.core) Bank.empty) b
          ((∃ l < 64, spoilt l) →
            ∃ u lanes, exec i s = .next u ∧ kept u 0 lanes ∧ ∀ l < 64, lanes.getLsbD l = true ↔ spoilt l) ∧
          ((∀ l < 64, ¬spoilt l) → (∃ r ∈ i.firstReads w, w.tainted r = true) →
            ∃ u, exec i s = .next u ∧ kept u 1 0))))

namespace Sys2Proof.Claims

/-! ### Sleeping and waiting for tokens (R160, R190, R237, R243, R332, R373) -/

/-- An engine token that the wave's own core has issued (R190): its fields, its queue, and a SEQ already given. -/
def ownToken (s : State) (x : Word64) : Prop :=
  x.toNat / 2 ^ 12 % 16 = 0 ∧ x.toNat / 2 ^ 48 = 0 ∧ x.toNat % 512 = s.wave.core ∧
  (tokenQueue x ≤ 4 ∨ tokenQueue x = 7) ∧ tokenSeq x < tgetD (s.coreOf s.wave.core).nextSeq (tokenQueue x) 0

/-- The command or queue fence of a token of the wave's core has completed (R190, R197). -/
def completed (s : State) (x : Word64) : Prop :=
  if tokenQueue x = 7 then ∀ f ∈ (s.coreOf s.wave.core).fences, f.seq ≠ tokenSeq x
  else ∀ c ∈ (s.coreOf s.wave.core).queue (tokenQueue x), c.seq ≠ tokenSeq x

/-- The status record kept of a token of the wave's core (R190). -/
def statusOf (s : State) (x : Word64) : Option DoneRec :=
  (s.coreOf s.wave.core).done.find? (fun d => d.queue == tokenQueue x && d.seq == tokenSeq x)

/-- The wave has only gone on: nothing of it but what any completion changes, and nothing else, differs. -/
def wentOn (i : Instr) (s t : State) : Prop := settle t.wave s.wave = s.wave ∧ movedOn i s t ∧ onlyWave s t

end Sys2Proof.Claims

/-- R332: SLEEPU, wherever it acts, sleeps until CYC reaches its value at issue plus sS[31:0], and does not sleep for 0. -/
def Sys2Proof.Claims.SleepuSleeps : Prop :=
  ∀ (r : BitVec 5) (st : BitVec 3) (s : State), acts (.sleepu r st) s = true →
    let n := (s.wave.sval r.toNat).toNat % 2 ^ 32
    ∃ t, exec (.sleepu r st) s = .next t ∧
      t.wave.wait = (if n = 0 then s.wave.wait else .sleeping (s.cyc + n)) ∧
      Claims.settle { t.wave with wait := s.wave.wait } s.wave = s.wave ∧
      Claims.movedOn (.sleepu r st) s t ∧ Claims.onlyWave s t

/-- R160, R190, R373: CPWAIT and WAITK, where they act on a token that the core has issued and whose command has completed with
status OK (and, for WAITK, no refusal pending), go on and change nothing. -/
def Sys2Proof.Claims.TokenWaitsComplete : Prop :=
  ∀ (waitk : Bool) (r : BitVec 5) (st : BitVec 3) (s : State) (d : DoneRec),
    let i : Instr := if waitk then .waitk r st else .cpwait r st
    let x := s.wave.sval r.toNat
    acts i s = true → Claims.ownToken s x → Claims.completed s x → Claims.statusOf s x = some d → d.status = 0 →
    (waitk = true → s.wave.refused = []) →
    ∃ t, exec i s = .next t ∧ Claims.wentOn i s t

/-- R160, R190, R380: CPWAIT on a command that has not completed sleeps, its checks made, while its promise is later than CYC, and
raises COPY_LATE (0x0A) once it is not; CPWAIT and WAITK raise ENGINE_FAULT (0x0B) with token, status and count for a command that
failed. -/
def Sys2Proof.Claims.TokenWaitsReport : Prop :=
  ∀ (r : BitVec 5) (st : BitVec 3) (s : State),
    let x := s.wave.sval r.toNat
    let promise := (s.wave.sval (r.toNat + 1)).toNat
    Claims.ownToken s x →
    (acts (.cpwait r st) s = true → ¬ Claims.completed s x →
      if promise ≤ s.cyc then
        ∃ n, s.cyc < n ∧ exec (.cpwait r st) s =
          raise (trapOf (.cpwait r st) 0x0A 0 0 [x.toNat, n]) { s with fresh := s.fresh + 1 }
      else exec (.cpwait r st) s =
        .next (Claims.sleeping (.retryToken x (some promise)) { s with wave := { s.wave with inWait := true } })) ∧
    (∀ (waitk : Bool) (d : DoneRec),
      let i : Instr := if waitk then .waitk r st else .cpwait r st
      acts i s = true → Claims.completed s x → Claims.statusOf s x = some d → d.status ≠ 0 →
      (waitk = true → s.wave.refused = []) →
      ∃ va, exec i s = raise (trapOf i 0x0B 0 0 [x.toNat, d.status, d.count, va]) { s with fresh := s.fresh + 2 })

/-- R243, R237, R373: WAITK on a notification queue that holds an entry takes the oldest and writes its immediate and flow to sS;
WAITK on a RATOM token all of whose groups have answered OK goes on and changes nothing. -/
def Sys2Proof.Claims.WaitkTakesOutcomes : Prop :=
  ∀ (r : BitVec 5) (st : BitVec 3) (s : State),
    let i : Instr := .waitk r st
    let x := s.wave.sval r.toNat
    acts i s = true → s.wave.refused = [] →
    (∀ (p : Partition) (e : Word32 × Nat) (rest : List (Word32 × Nat)),
      x &&& ~~~(0x3F0E00#64) = 0 → tokenQueue x = 5 →
      tget s.parts s.wave.span.part = some p → tgetD p.notif (x.toNat / 2 ^ 16 % 64) [] = e :: rest →
      ∃ t, exec i s = .next t ∧ sget t.wave.s r.toNat = BitVec.ofNat 64 (e.1.toNat + e.2 % 4096 * 2 ^ 32) ∧
        (∀ k, k ≠ r.toNat → sget t.wave.s k = sget s.wave.s k) ∧
        { Claims.settle t.wave s.wave with s := s.wave.s, poisonS := s.wave.poisonS } = s.wave ∧
        Claims.movedOn i s t ∧
        tget t.parts s.wave.span.part = some { p with notif := tset p.notif (x.toNat / 2 ^ 16 % 64) rest } ∧
        { t with wave := s.wave, parts := s.parts } = s) ∧
    (∀ gs, tokenQueue x = 6 → x.toNat / 2 ^ 12 % 16 = 0 → x.toNat / 2 ^ 48 = 0 → x.toNat % 512 = s.wave.core →
      tokenSeq x < s.wave.ratoms →
      tget s.wave.tokens (tokenSeq x) = some gs → (∀ g ∈ gs, g.status = some 0) →
      (s.wave.ratoms ≤ tokenSeq x + 257 ∨ ∃ g ∈ gs, s.wave.ratoms ≤ g.heard + 256) →
      ∃ t, exec i s = .next t ∧ Claims.wentOn i s t)

/-- R332, R160, R190, R237, R243, R373, R380: SLEEPU, CPWAIT and WAITK: `SleepuSleeps`, `TokenWaitsComplete`, `WaitkTakesOutcomes`,
and `TokenWaitsReport`. -/
def Obligations.WaitsComplete : Prop :=
  Claims.SleepuSleeps ∧ Claims.TokenWaitsComplete ∧ Claims.WaitkTakesOutcomes ∧ Claims.TokenWaitsReport

namespace Sys2Proof.Claims

/-! ### Memory instructions (R141, R142, R151 to R159, R271, R274, R284, R290, R331, R358) -/

/-- A partition but for its monitors and their log, which count accesses (R284 to R286). -/
def unwatched (p : Partition) : Partition := { p with monitors := [], log := [], logSeq := 0, chain := [] }

/-- Beyond the wave, only monitors have counted and the bank array has moved lines (R143, R144): every byte of memory reads as
before. -/
def onlyCounted (s t : State) : Prop :=
  t = { s with wave := t.wave, array := t.array, parts := t.parts } ∧
  (∀ k, (tget t.parts k).map unwatched = (tget s.parts k).map unwatched) ∧
  ∀ key pa, memByte t key pa = memByte s key pa

/-- Of the wave, only the lanes of a mask of vector register `d` are written. -/
def lanesKept (d : Nat) (mask : Word64) (s t : State) : Prop :=
  (∀ q l, l < 64 → ¬(q = d ∧ mask.getLsbD l = true) → element t.wave q l = element s.wave q l) ∧
  { settle t.wave s.wave with v := s.wave.v, poisonV := s.wave.poisonV } = s.wave

/-- The lanes of a mask, ascending. -/
def lanesIn (mask : Word64) : List Nat := (List.range 64).filter (fun l => mask.getLsbD l)

/-- The bytes of a store of `size` bytes, each with its key and physical address, lowest first (R2). -/
def storedAt (l : Leaf) (va size data : Nat) : List (Nat × Nat × Byte) :=
  (List.range size).map (fun j => (l.key, l.pa (va + j), BitVec.ofNat 8 (data / 256 ^ j)))

/-- Memory holds the bytes of a list of stores, later ones winning, and every other byte as before, read under the one
key by which the stores reach its 128-byte line, and under any key in a line that no store reaches (R144, R157). -/
def bytesStored (bs : List (Nat × Nat × Byte)) (s t : State) : Prop :=
  ∀ key pa, (∀ b ∈ bs, b.2.1 / 128 = pa / 128 → b.1 = key) →
    memByte t key pa = ((bs.filter (fun b => b.2.1 = pa)).getLast?.map (fun b => b.2.2)).getD (memByte s key pa)

/-- The poison of a sector ends exactly where the store covers all its 32 bytes (R271). -/
def poisonCovered (bs : List (Nat × Nat × Byte)) (s t : State) : Prop :=
  ∀ k, sget t.poison k =
    if (List.range 32).all (fun j => bs.any (fun b => b.2.1 == 32 * k + j)) then 0 else sget s.poison k

/-- A partition but for its monitors and its stores on their way to other devices. -/
def unreflected (p : Partition) : Partition := { unwatched p with combining := [] }

/-- What a store of the wave leaves alone: all of it but what any completion changes; the device but for memory, poison,
monitors, and for a store to a transmit window the reflection (R230) and the span's replayable bit (R274). -/
def storeFrame (i : Instr) (window : Bool) (s t : State) : Prop :=
  movedOn i s t ∧ beyondStores s t ∧
  (∀ k, (tget t.parts k).map unreflected = (tget s.parts k).map unreflected) ∧
  (window = false → ∀ k, (tget t.parts k).map unwatched = (tget s.parts k).map unwatched) ∧
  t.spans = if window then (s.changeSpan s.wave.span (fun x => { x with replayable := false })).spans else s.spans

/-- The category of a cause (R155): 1 ALIGN, 2 what is not resolvable, 3 what is. -/
def categoryOf : Cause → Nat
  | .align => 1
  | .notPresent => 3
  | .perm => 3
  | .device _ => 4
  | .poison _ => 4
  | _ => 2

/-- The trap of a cause that is not resolvable (R155, R335): ALIGN, CONSERVED_STORE or PAGE_FAULT with its number (R336). -/
def causeCode (c : Cause) (x : Trap) : Prop :=
  match c with
  | .align => x.code = 0x02
  | .conserved => x.code = 0x07
  | .address => x.code = 0x05 ∧ x.detail.getD 0 0 = 1
  | .malformed => x.code = 0x05 ∧ x.detail.getD 0 0 = 3
  | .key => x.code = 0x05 ∧ x.detail.getD 0 0 = 4
  | .cls => x.code = 0x05 ∧ x.detail.getD 0 0 = 5
  | .type => x.code = 0x05 ∧ x.detail.getD 0 0 = 7
  | .format => x.code = 0x05 ∧ x.detail.getD 0 0 = 8
  | _ => False

/-- A vector access: its kind, its mask field, its width in bytes, 0 for elements in the format of their page, and its translation and
offset registers. -/
structure VectorAccess where
  kind   : AccessKind
  mask   : BitVec 3
  size   : Nat
  areg   : Nat
  offset : Nat

/-- VLD and VST, raw and of elements (R154, R358), ATOM and RED (R290). -/
def vectorAccess : Instr → Option VectorAccess
  | .vld m w t o _ _ => some ⟨.load, m, if w.toNat < 3 then 2 ^ w.toNat else 0, t.toNat, o.toNat⟩
  | .vst m w t o _ _ => some ⟨.store, m, if w.toNat < 3 then 2 ^ w.toNat else 0, t.toNat, o.toNat⟩
  | .atom m _ _ _ t o _ _ => some ⟨.atomic, m, 4, t.toNat, o.toNat⟩
  | .red m _ _ _ t o _ _ => some ⟨.atomic, m, 4, t.toNat, o.toNat⟩
  | _ => none

/-- The address and the cause at which a lane of a vector access stops, if it does (R152, R154, R155). -/
def laneStop (s : State) (x : VectorAccess) (l : Nat) : Option (Nat × Cause) :=
  let a := s.wave.areg x.areg
  let off := (s.wave.vval x.offset l).toNat
  if x.size = 0 then
    match locate s s.wave.span.part s.wave.span.ctx x.kind a off with
    | .error e => some e
    | .ok _ => none
  else
    match accessVia s s.wave.span.part s.wave.span.ctx x.kind a off x.size with
    | .error c => some (a.va off, c)
    | .ok _ => none

/-- The leaf through which a lane of a raw vector access reaches memory (R151, R152). -/
def laneLeaf (s : State) (x : VectorAccess) (l : Nat) : Option Leaf :=
  let a := s.wave.areg x.areg
  let off := (s.wave.vval x.offset l).toNat
  if off + x.size ≤ a.limit then some a.leaf
  else (translate s s.wave.span.part s.wave.span.ctx (a.va off)).toOption

/-- The scalar loads and stores: the kind of access and the address sB + 8 x IMM11 (R331). -/
def scalarAccess (i : Instr) (w : Wave) : Option (AccessKind × Word64) :=
  match i with
  | .sld o b _ _ => some (.load, BitVec.ofInt 64 ((w.sval b.toNat).toNat + 8 * o.toInt))
  | .sst o b _ _ => some (.store, BitVec.ofInt 64 ((w.sval b.toNat).toNat + 8 * o.toInt))
  | _ => none

/-- f(old, x) of the atomic operations (R290). -/
def atomicResult (aop : Nat) (old x : Word32) : Word32 :=
  match aop with
  | 0 => BitVec.ofNat 32 (old.toNat + x.toNat)
  | 1 => (fadd .rne old x).1
  | 2 => if old.toInt ≤ x.toInt then old else x
  | 3 => if old.toInt ≤ x.toInt then x else old
  | 4 => if old.toNat ≤ x.toNat then old else x
  | 5 => if old.toNat ≤ x.toNat then x else old
  | 6 => old &&& x
  | _ => old ||| x

end Sys2Proof.Claims

/-- R151, R147, R73: ABIND, wherever it acts and its walk meets no device register and no poison, binds aN to the rest of the page of
sS where the walk finds a leaf whose key is granted, and leaves LIMIT 0 otherwise; an instruction that names aN waits two
beats or longer. -/
def Sys2Proof.Claims.AbindBinds : Prop :=
  ∀ (r : BitVec 5) (n : BitVec 4) (st : BitVec 3) (s : State),
    let i : Instr := .abind r n st
    let va := s.wave.sval r.toNat
    let old := s.wave.areg n.toNat
    let found := translate s s.wave.span.part s.wave.span.ctx va.toNat
    let granted (l : Leaf) : Prop :=
      l.key = 0 ∨ ∃ p, tget s.parts s.wave.span.part = some p ∧ p.grants.contains l.key = true
    acts i s = true → (∀ pa, found ≠ .error (.device pa) ∧ found ≠ .error (.poison pa)) →
    ∃ t, exec i s = .next t ∧
      (∀ l, found = .ok l → granted l → t.wave.areg n.toNat =
        ⟨va, l.size - va.toNat % l.size, l.frame, l.size, BitVec.ofNat 64 l.attr0, BitVec.ofNat 64 l.attr1⟩) ∧
      ((∀ l, found = .ok l → ¬ granted l) → t.wave.areg n.toNat = { old with base := va, limit := 0 }) ∧
      (∀ k, k ≠ n.toNat → t.wave.areg k = s.wave.areg k) ∧
      { Claims.settle t.wave s.wave with a := s.wave.a, poisonA := s.wave.poisonA } = s.wave ∧
      Claims.movedOn i s t ∧ t = { s with wave := t.wave, array := t.array } ∧
      (∀ key pa, memByte t key pa = memByte s key pa) ∧
      ∃ e ∈ t.wave.pend, e.reg = .a n.toNat ∧ e.interlocked = true ∧ s.wave.now + 2 * s.passes s.wave ≤ e.due

namespace Sys2Proof.Claims

/-- The same of stores through several leaves. -/
def allStoreFreely (s : State) (p : Leaf → Prop) : Prop :=
  (∀ l, p l → l.mt ≠ 3) ∨ (nothingInFlight s s.wave ∧ ∀ l, p l → l.cls ≠ 2)

/-- A vector access through the lanes of a mask need not wait for what of the wave is on its way to another device (R165, R166, R168):
nothing is, or no lane reaches strongly ordered memory and the access is no release at .sys. -/
def accessesFreely (s : State) (i : Instr) (x : VectorAccess) (mask : Word64) : Prop :=
  nothingInFlight s s.wave ∨
  ((∀ m r p t o d st, r.toNat ≥ 2 → i ≠ .atom m r p 1 t o d st ∧ i ≠ .red m r p 1 t o d st) ∧
    (x.kind = .atomic ∨ x.size = 0 ∨
      ∀ k < 64, mask.getLsbD k = true → ∀ leaf, laneLeaf s x k = some leaf → leaf.mt ≠ 3))

/-- A user-level wave may use an accumulator slot (R187): it is free or its context's own; supervisor level does not check. -/
def slotOwned (s : State) (z : Nat) : Prop :=
  let own := (sget (s.coreOf s.wave.core).accown z).toNat
  s.wave.level = .supervisor ∨ own / 2 ^ 9 % 2 = 0 ∨
    own % 2 ^ 9 = s.wave.span.part % 32 * 2 ^ 4 + s.wave.span.ctx % 16

/-- ACCOWN of a slot, where the check of R187 reads it, is not poisoned (R264). -/
def ownerSound (s : State) (z : Nat) : Prop := s.wave.level = .supervisor ∨ sget (s.coreOf s.wave.core).poisonO z = 0

/-- The matrix instructions on a slot meet no MXLOOP on it and own it (R181, R187). -/
def slotReady (s : State) (z : Nat) : Prop := loopOn s s.wave.core z = false ∧ slotOwned s z ∧ ownerSound s z

/-- The matrix engine has rounded every K-step of the wave on a slot (R181). -/
def stepsRounded (s : State) (z : Nat) : Prop :=
  (∀ x ∈ (s.coreOf s.wave.core).steps, ¬(x.wave = s.wave.id ∧ x.slot = z)) ∧
  (∀ f ∈ (s.coreOf s.wave.core).flight, f.loop = false → ¬(f.input.wave = s.wave.id ∧ f.input.slot = z))

/-- No word of a slot is listed as poisoned. -/
def slotSound (c : Core) (z : Nat) : Prop := ∀ e ∈ c.poisonZ, ¬(1024 * z ≤ e.1 ∧ e.1 < 1024 * z + 1024)

/-- The instruction raises a trap, its access not performed: nothing has changed but what the bank array holds of the page tables that it
walked (R145), and an access that ALIGN stops has walked none (R155). -/
def accessTraps (i : Instr) (s : State) (c : Cause) (lanes : Word64) (va : Word64) : Prop :=
  ∃ (y : Trap) (a : Tab ArrayLine), exec i s = raise y { s with array := a } ∧ (c = .align → a = s.array) ∧
    causeCode c y ∧ y.lanes = lanes ∧ y.va = va ∧ y.next = false

/-- The instruction has gone into page-fault service (R156, R251) with its effective mask and its lane (R156: of a scalar access there is
none): a PAGE_REQUEST with the VA, the cause and the kind of the access is written, and the wave goes on behind it; memory and registers
are unchanged. The numbers of the kinds in the request, 0 for a load, 1 for a store and 2 for an atomic, are the model's choice (log
54). -/
def served (i : Instr) (s : State) (kind : AccessKind) (va : Word64) (c : Cause) (p : Partition) (P : Service → Prop) : Prop :=
  ∃ (t : State) (q : Partition) (sv : Service), exec i s = .next t ∧ t.wave.service = some sv ∧ P sv ∧
    sv.instr = i ∧ sv.va = va ∧ sv.cause = (if c = .notPresent then 2 else 6) ∧ sv.writes = i.writes ∧
    sv.before.pc = s.wave.pc ∧ sv.before.s = s.wave.s ∧ sv.before.v = s.wave.v ∧
    tget t.parts s.wave.span.part = some q ∧
    q.delivered = p.delivered ++ [⟨true, 2, s.wave.span.ctx, 0, s.cyc,
      [sv.fault, va.toNat, if c = .notPresent then 2 else 6,
        match kind with | .store => 1 | .load => 0 | _ => 2], 0⟩] ∧
    q.faults = p.faults ++ [⟨sv.fault, .wave s.wave.id, s.cyc⟩] ∧
    { settle t.wave s.wave with service := s.wave.service } = s.wave ∧ movedOn i s t ∧
    { t with wave := s.wave, parts := s.parts, arrivals := s.arrivals, array := s.array } = s

/-- What a store to a transmit window puts on its window's path: its bytes at the destination address of the window, with the VA of the
local image, under the wave's number (R171, R230). -/
def reflection (s : State) (va : Nat) (bs : List Byte) : Option (PathKey × Payload) :=
  (windowOf s s.wave.span.part va).map (fun x =>
    (⟨x.2.w0.toNat / 2 ^ 8 % 256, s.wave.span.part, x.1, false⟩,
      .store (x.2.w0.toNat / 2 ^ 16 % 512) (x.2.w3.toNat + (va - x.2.w1.toNat)) va bs (2 * s.wave.id)))

/-- The bytes of a value, lowest first (R2). -/
def bytesOf (n x : Nat) : List Byte := (List.range n).map (fun j => BitVec.ofNat 8 (x / 256 ^ j))

/-- Stores to transmit windows have been queued for their paths, in their order, and a wave that stored to strongly ordered memory waits
until they are performed at their receivers (R168, R171, R230). -/
def queued (strong : Prop) (xs : List (PathKey × Payload)) (s t : State) (p : Partition) : Prop :=
  (strong → t.wave.wait = .retryReflected false) ∧ (¬ strong → t.wave.wait = s.wave.wait) ∧
  ∃ q, tget t.parts s.wave.span.part = some q ∧ q.combining = p.combining ++ xs

end Sys2Proof.Claims

/-- R331, R330, R168: SLD, where it acts and its doubleword is accessible and not poisoned, in an order that R168 leaves free, writes it
to sD alone; memory is unchanged. -/
def Sys2Proof.Claims.SldLoads : Prop :=
  ∀ (o : BitVec 11) (b d : BitVec 5) (st : BitVec 3) (s : State) (va : Word64) (l : Leaf),
    let i : Instr := .sld o b d st
    Claims.scalarAccess i s.wave = some (.load, va) → acts i s = true →
    access s s.wave.span.part s.wave.span.ctx .load va.toNat 8 = .ok l → Claims.unpoisoned s l va.toNat 8 →
    Claims.loadsFreely s l →
    ∃ t, exec i s = .next t ∧ (sget t.wave.s d.toNat).toNat = loadLe s l va.toNat 8 ∧
      (∀ r, r ≠ d.toNat → sget t.wave.s r = sget s.wave.s r) ∧
      { Claims.settle t.wave s.wave with s := s.wave.s, poisonS := s.wave.poisonS } = s.wave ∧
      Claims.movedOn i s t ∧ Claims.onlyCounted s t

/-- R152, R154, R168, R358: VLD, where it acts and every lane of active(M) is accessible and not poisoned, in an order that R168
leaves free, gives each of them its byte,
halfword or word zero-extended, or its element decoded; every other element and memory are unchanged. -/
def Sys2Proof.Claims.VldLoads : Prop :=
  ∀ (m : BitVec 3) (w : BitVec 2) (t : BitVec 4) (o d : BitVec 6) (st : BitVec 3) (s : State),
    let i : Instr := .vld m w t o d st
    let mask := s.wave.active &&& s.wave.mval m.toNat
    let a := s.wave.areg t.toNat
    let off (l : Nat) := (s.wave.vval o.toNat l).toNat
    acts i s = true →
    (∀ leaf : Nat → Leaf, w.toNat < 3 →
      (∀ l < 64, mask.getLsbD l = true →
        accessVia s s.wave.span.part s.wave.span.ctx .load a (off l) (2 ^ w.toNat) = .ok (leaf l) ∧
        Claims.unpoisoned s (leaf l) (a.va (off l)) (2 ^ w.toNat) ∧ Claims.loadsFreely s (leaf l)) →
      ∃ u, exec i s = .next u ∧
        (∀ l < 64, mask.getLsbD l = true →
          (Claims.element u.wave d.toNat l).toNat = loadLe s (leaf l) (a.va (off l)) (2 ^ w.toNat)) ∧
        Claims.lanesKept d.toNat mask s u ∧ Claims.movedOn i s u ∧ Claims.onlyCounted s u) ∧
    (∀ elem : Nat → Element, w.toNat = 3 →
      (∀ l < 64, mask.getLsbD l = true →
        locate s s.wave.span.part s.wave.span.ctx .load a (off l) = .ok (elem l) ∧
        ∀ pa ∈ (elem l).pas, sget s.poison (pa / 32) = 0) →
      ∃ u, exec i s = .next u ∧
        (∀ l < 64, mask.getLsbD l = true →
          Claims.element u.wave d.toNat l = decodeElement s s.wave.span.part (elem l)) ∧
        Claims.lanesKept d.toNat mask s u ∧ Claims.movedOn i s u ∧ Claims.onlyCounted s u)

/-- R151, R152, R154, R331, R358: ABIND, SLD and VLD: `AbindBinds`, `SldLoads` and `VldLoads`. -/
def Obligations.LoadsRead : Prop :=
  Claims.AbindBinds ∧ Claims.SldLoads ∧ Claims.VldLoads

/-- R331, R157, R168, R271: SST, where it acts and its doubleword may be stored to, in an order that R168 leaves free, writes sD there;
every other byte is unchanged. -/
def Sys2Proof.Claims.SstStores : Prop :=
  ∀ (o : BitVec 11) (b d : BitVec 5) (st : BitVec 3) (s : State) (va : Word64) (l : Leaf),
    let i : Instr := .sst o b d st
    Claims.scalarAccess i s.wave = some (.store, va) → acts i s = true →
    access s s.wave.span.part s.wave.span.ctx .store va.toNat 8 = .ok l → Claims.storesFreely s l →
    let bs := Claims.storedAt l va.toNat 8 (s.wave.sval d.toNat).toNat
    ∃ t, exec i s = .next t ∧ Claims.bytesStored bs s t ∧ Claims.poisonCovered bs s t ∧
      Claims.settle t.wave s.wave = s.wave ∧ Claims.storeFrame i (l.cls == 2) s t

/-- R152, R154, R157, R168, R358: VST, where it acts and every lane of active(M) may store (and no scale it uses is poisoned), in
an order that R168 leaves free, writes each
lane's low bytes, or its encoded element and flags, a byte of several lanes taking the highest lane's; every other byte is
unchanged. -/
def Sys2Proof.Claims.VstStores : Prop :=
  ∀ (m : BitVec 3) (w : BitVec 2) (t : BitVec 4) (o d : BitVec 6) (st : BitVec 3) (s : State),
    let i : Instr := .vst m w t o d st
    let mask := s.wave.active &&& s.wave.mval m.toNat
    let a := s.wave.areg t.toNat
    let off (l : Nat) := (s.wave.vval o.toNat l).toNat
    acts i s = true →
    (∀ leaf : Nat → Leaf, w.toNat < 3 →
      (∀ l < 64, mask.getLsbD l = true →
        accessVia s s.wave.span.part s.wave.span.ctx .store a (off l) (2 ^ w.toNat) = .ok (leaf l)) →
      Claims.allStoreFreely s (fun x => ∃ l < 64, mask.getLsbD l = true ∧ leaf l = x) →
      let bs := (Claims.lanesIn mask).flatMap (fun l =>
        Claims.storedAt (leaf l) (a.va (off l)) (2 ^ w.toNat) (s.wave.vval d.toNat l).toNat)
      ∃ u, exec i s = .next u ∧ Claims.bytesStored bs s u ∧ Claims.poisonCovered bs s u ∧
        Claims.settle u.wave s.wave = s.wave ∧
        Claims.storeFrame i ((Claims.lanesIn mask).any (fun l => (leaf l).cls == 2)) s u) ∧
    (∀ elem : Nat → Element, w.toNat = 3 →
      (∀ l < 64, mask.getLsbD l = true →
        locate s s.wave.span.part s.wave.span.ctx .store a (off l) = .ok (elem l) ∧
        ∀ b, (elem l).scale = some b → sget s.poison (b.1.pa b.2 / 32) = 0) →
      let code (l : Nat) := encodeElement s (elem l) (s.wave.vval d.toNat l)
      let bs := (Claims.lanesIn mask).flatMap (fun l =>
        ((elem l).bytes.zipIdx).map (fun e => (e.1.1.key, e.1.1.pa e.1.2, BitVec.ofNat 8 ((code l).1 / 256 ^ e.2))))
      ∃ u, exec i s = .next u ∧ Claims.bytesStored bs s u ∧ Claims.poisonCovered bs s u ∧
        Claims.raised mask (fun l => (code l).2) s u ∧
        { Claims.settle u.wave s.wave with satf := s.wave.satf, satctl := s.wave.satctl } = s.wave ∧
        Claims.storeFrame i false s u)

/-- R230, R171, R168: an SST to a transmit-window page, where R168 lets it be performed, appends its bytes, at the destination address
of the window, to the stores that wait for the window's path, under the wave's number; to strongly ordered memory the wave
then waits until it is performed at its receiver. That the store stands as an entry of its own, the buffer merging nothing,
is the model's choice (log 36). -/
def Sys2Proof.Claims.WindowStoresAreReflected : Prop :=
  ∀ (o : BitVec 11) (b d : BitVec 5) (st : BitVec 3) (s : State) (va : Word64) (l : Leaf) (p : Partition)
    (x : PathKey × Payload),
    let i : Instr := .sst o b d st
    Claims.scalarAccess i s.wave = some (.store, va) → acts i s = true →
    access s s.wave.span.part s.wave.span.ctx .store va.toNat 8 = .ok l → l.cls = 2 → Claims.loadsFreely s l →
    tget s.parts s.wave.span.part = some p →
    Claims.reflection s va.toNat (Claims.bytesOf 8 (s.wave.sval d.toNat).toNat) = some x →
    ∃ t, exec i s = .next t ∧ Claims.queued (l.mt = 3) [x] s t p

/-- R230, R157, R171, R168: a VST of which lanes go to transmit-window pages, where R168 lets it be performed, appends the bytes of each
such lane, in ascending lanes, to the stores that wait for their windows' paths. That every lane's store stands as an entry of its
own is the model's choice (log 36). -/
def Sys2Proof.Claims.WindowLanesAreReflected : Prop :=
  ∀ (m : BitVec 3) (w : BitVec 2) (t : BitVec 4) (o d : BitVec 6) (st : BitVec 3) (s : State) (leaf : Nat → Leaf) (p : Partition)
    (x : Nat → PathKey × Payload),
    let i : Instr := .vst m w t o d st
    let mask := s.wave.active &&& s.wave.mval m.toNat
    let a := s.wave.areg t.toNat
    let off (l : Nat) := (s.wave.vval o.toNat l).toNat
    w.toNat < 3 → acts i s = true →
    (∀ l < 64, mask.getLsbD l = true →
      accessVia s s.wave.span.part s.wave.span.ctx .store a (off l) (2 ^ w.toNat) = .ok (leaf l) ∧ Claims.loadsFreely s (leaf l) ∧
      ((leaf l).cls = 2 → Claims.reflection s (a.va (off l))
        (Claims.bytesOf (2 ^ w.toNat) (s.wave.vval d.toNat l).toNat) = some (x l))) →
    (∃ l < 64, mask.getLsbD l = true ∧ (leaf l).cls = 2) →
    tget s.parts s.wave.span.part = some p →
    ∃ u, exec i s = .next u ∧
      Claims.queued (∃ l < 64, mask.getLsbD l = true ∧ (leaf l).mt = 3)
        (((Claims.lanesIn mask).filter (fun l => (leaf l).cls == 2)).map x) s u p

/-- R230, R182, R171, R168: an MXSTZ of raw words all of whose pieces lie on transmit-window pages, on a slot that is ready, with its
K-steps rounded and no word of it poisoned, appends the words of its tile in their order to the
stores that wait for their windows' paths. That every word stands as an entry of its own is the model's choice (log 36). -/
def Sys2Proof.Claims.WindowTilesAreReflected : Prop :=
  ∀ (b : BitVec 5) (z : BitVec 6) (st : BitVec 3) (s : State) (leaf : Nat → Leaf) (p : Partition) (x : Nat → PathKey × Payload),
    let i : Instr := .mxstz b z st
    let va := (s.wave.sval b.toNat).toNat
    acts i s = true → va % 64 = 0 → Claims.slotReady s z.toNat → Claims.stepsRounded s z.toNat →
    Claims.slotSound (s.coreOf s.wave.core) z.toNat →
    (∀ j < 64, access s s.wave.span.part s.wave.span.ctx .store ((va + 64 * j) % 2 ^ 64) 64 = .ok (leaf j) ∧
      (leaf j).cls = 2 ∧ (leaf j).efmt = 0 ∧ Claims.loadsFreely s (leaf j)) →
    (∀ k < 1024, Claims.reflection s ((va + 64 * (k / 16)) % 2 ^ 64 + 4 * (k % 16))
      (Claims.bytesOf 4 (sget (s.coreOf s.wave.core).acc (1024 * z.toNat + k)).toNat) = some (x k)) →
    tget s.parts s.wave.span.part = some p →
    ∃ u, exec i s = .next u ∧ Claims.queued (∃ j < 64, (leaf j).mt = 3) ((List.range 1024).map x) s u p

/-- R152, R154, R157, R171, R182, R230, R331, R358: SST and VST: `SstStores`, `VstStores`, and, for transmit windows, of SST, VST and
MXSTZ, `WindowStoresAreReflected`, `WindowLanesAreReflected` and `WindowTilesAreReflected`. -/
def Obligations.StoresWrite : Prop :=
  Claims.SstStores ∧ Claims.VstStores ∧ Claims.WindowStoresAreReflected ∧ Claims.WindowLanesAreReflected ∧
  Claims.WindowTilesAreReflected

/-- R141, R142, R358: VLDS and VSTS, where they act and every lane of active(M) is aligned and inside the selected block's
scratchpad (and VLDS reads no poison), read and write its bytes; memory and every other block are unchanged. -/
def Obligations.ScratchpadResults : Prop :=
  ∀ (m : BitVec 3) (w : BitVec 2) (k : BitVec 4) (o d : BitVec 6) (st : BitVec 3) (s : State) (b : Block),
    let mask := s.wave.active &&& s.wave.mval m.toNat
    let size := 2 ^ w.toNat
    let off (l : Nat) := (s.wave.vval o.toNat l).toNat
    s.findBlock s.wave.span (if k.toNat = 0 then s.wave.block else k.toNat % 4) = some b → b.ended = false →
    (∀ l < 64, mask.getLsbD l = true → off l % size = 0 ∧ off l + size ≤ b.size) →
    (acts (.vlds m w k o d st) s = true →
      (∀ l < 64, mask.getLsbD l = true → sget b.poison (off l / 32) = 0) →
      ∃ t, exec (.vlds m w k o d st) s = .next t ∧
        (∀ l < 64, mask.getLsbD l = true →
          (Claims.element t.wave d.toNat l).toNat = leValue ((List.range size).map (fun j => sget b.scratch (off l + j)))) ∧
        Claims.lanesKept d.toNat mask s t ∧ Claims.movedOn (.vlds m w k o d st) s t ∧ Claims.onlyWave s t) ∧
    (acts (.vsts m w k o d st) s = true →
      let bs := (Claims.lanesIn mask).flatMap (fun l =>
        (List.range size).map (fun j => (off l + j, BitVec.ofNat 8 ((s.wave.vval d.toNat l).toNat / 256 ^ j))))
      ∃ t c, exec (.vsts m w k o d st) s = .next t ∧
        t.findBlock b.span b.index = some c ∧
        (∀ x, sget c.scratch x = ((bs.filter (fun e => e.1 = x)).getLast?.map (fun e => e.2)).getD (sget b.scratch x)) ∧
        (∀ q, sget c.poison q =
          if (List.range 32).all (fun j => bs.any (fun e => e.1 == 32 * q + j)) then 0 else sget b.poison q) ∧
        { c with scratch := b.scratch, poison := b.poison } = b ∧
        Claims.settle t.wave s.wave = s.wave ∧ Claims.movedOn (.vsts m w k o d st) s t ∧
        t = { s with wave := t.wave, blocks := t.blocks } ∧
        (∀ id n, ¬(id = b.span ∧ n = b.index) → t.findBlock id n = s.findBlock id n))

/-- R158, R159, R166, R289, R290, R274: ATOM and RED, where they act and every lane of active(M) is accessible, not poisoned and at
an aligned word, and, for a release at .sys, nothing of the wave is on its way to another device, perform their lanes in
ascending order: ATOM's lane receives the word as the lanes before it left it, the word ends as all have left it, every other
byte is unchanged, and the span can no longer be replayed. -/
def Obligations.AtomicResults : Prop :=
  ∀ (red : Bool) (m : BitVec 3) (r : BitVec 2) (p : BitVec 3) (c : BitVec 1) (t : BitVec 2) (o d : BitVec 5)
    (st : BitVec 3) (s : State) (leaf : Nat → Leaf),
    let i : Instr := if red then .red m r p c t o d st else .atom m r p c t o d st
    let mask := s.wave.active &&& s.wave.mval m.toNat
    let a := s.wave.areg t.toNat
    let va (l : Nat) := a.va (s.wave.vval o.toNat l).toNat
    let word (l : Nat) := (leaf l).pa (va l)
    let data (l : Nat) := s.wave.vval (if red then d.toNat else d.toNat + 1) l
    let start (l : Nat) : Word32 := BitVec.ofNat 32 (loadLe s (leaf l) (va l) 4)
    let run (l : Nat) (ls : List Nat) : Word32 :=
      (ls.filter (fun k => word k = word l)).foldl (fun x k => Claims.atomicResult p.toNat x (data k)) (start l)
    acts i s = true →
    (∀ l < 64, mask.getLsbD l = true →
      accessVia s s.wave.span.part s.wave.span.ctx .atomic a (s.wave.vval o.toNat l).toNat 4 = .ok (leaf l) ∧
      Claims.unpoisoned s (leaf l) (va l) 4 ∧
      word l % 4 = 0 ∧ ∀ j < 4, (leaf l).pa (va l + j) = word l + j) →
    (∀ l < 64, ∀ k < 64, mask.getLsbD l = true → mask.getLsbD k = true → word l / 128 = word k / 128 →
      (leaf l).key = (leaf k).key) →
    (r.toNat ≥ 2 ∧ c = 1 → Claims.nothingInFlight s s.wave) →
    ∃ u, exec i s = .next u ∧
      (∀ l < 64, mask.getLsbD l = true →
        loadLe u (leaf l) (va l) 4 = (run l (Claims.lanesIn mask)).toNat ∧
        (red = false → Claims.element u.wave d.toNat l = run l ((Claims.lanesIn mask).filter (fun k => k < l)))) ∧
      (∀ key pa, (∀ l < 64, mask.getLsbD l = true → word l / 128 = pa / 128 → (leaf l).key = key) →
        (∀ l < 64, mask.getLsbD l = true → ∀ j < 4, word l + j ≠ pa) → memByte u key pa = memByte s key pa) ∧
      (if red then Claims.settle u.wave s.wave = s.wave else Claims.lanesKept d.toNat mask s u) ∧
      Claims.movedOn i s u ∧
      u = { s with
        wave := u.wave, mem := u.mem, lineKey := u.lineKey, array := u.array, parts := u.parts, spans := u.spans } ∧
      (∀ k, (tget u.parts k).map Claims.unwatched = (tget s.parts k).map Claims.unwatched) ∧
      u.spans = (s.changeSpan s.wave.span (fun x => { x with replayable := false })).spans

/-- R155, R336, R290, R358: where a lane of a VLD or VST, raw or of elements, of an ATOM or of a RED, or an SLD or SST, meets a cause that
is not resolvable, the instruction, once R165 to R168 let it access, raises its trap with nothing performed: the first category that
any lane meets, at its lowest lane. -/
def Sys2Proof.Claims.UnresolvableAccessesTrap : Prop :=
  (∀ (i : Instr) (s : State) (x : Claims.VectorAccess) (l va : Nat) (c : Cause),
    Claims.vectorAccess i = some x → acts i s = true →
    let mask := s.wave.active &&& s.wave.mval x.mask.toNat
    l < 64 → mask.getLsbD l = true → Claims.laneStop s x l = some (va, c) → Claims.categoryOf c ≤ 2 →
    (∀ k < 64, mask.getLsbD k = true → ∀ e, Claims.laneStop s x k = some e →
      Claims.categoryOf c ≤ Claims.categoryOf e.2 ∧ (Claims.categoryOf e.2 = Claims.categoryOf c → l ≤ k)) →
    Claims.accessesFreely s i x mask →
    Claims.accessTraps i s c (1#64 <<< l) (BitVec.ofNat 64 va)) ∧
  (∀ (i : Instr) (s : State) (kind : AccessKind) (va : Word64) (c : Cause),
    Claims.scalarAccess i s.wave = some (kind, va) → acts i s = true →
    access s s.wave.span.part s.wave.span.ctx kind va.toNat 8 = .error c → Claims.categoryOf c ≤ 2 →
    (∀ leaf, translate s s.wave.span.part s.wave.span.ctx va.toNat = .ok leaf → Claims.loadsFreely s leaf) →
    Claims.accessTraps i s c 0 va)

/-- R156, R155, R251: an SLD or SST that meets NOTPRESENT or PERM, and a VLD or VST, raw or of elements, an ATOM or a RED of which a lane
does and no lane meets what is not resolvable, where queue 1 has a free buffer and nothing is held, goes into page-fault service: a
PAGE_REQUEST with its VA and cause, that of the lowest such lane, is written, nothing is performed, and the wave goes on behind it. -/
def Sys2Proof.Claims.ResolvableFaultsAreServed : Prop :=
  (∀ (i : Instr) (s : State) (kind : AccessKind) (va : Word64) (c : Cause) (p : Partition),
    Claims.scalarAccess i s.wave = some (kind, va) → acts i s = true →
    access s s.wave.span.part s.wave.span.ctx kind va.toNat 8 = .error c → c = .notPresent ∨ c = .perm →
    tget s.parts s.wave.span.part = some p → p.held = [] → p.ring = [] → 0 < p.buffers →
    (∀ leaf, translate s s.wave.span.part s.wave.span.ctx va.toNat = .ok leaf → Claims.loadsFreely s leaf) →
    Claims.served i s kind va c p (fun _ => True)) ∧
  (∀ (i : Instr) (s : State) (x : Claims.VectorAccess) (l va : Nat) (c : Cause) (p : Partition),
    Claims.vectorAccess i = some x → acts i s = true →
    let mask := s.wave.active &&& s.wave.mval x.mask.toNat
    l < 64 → mask.getLsbD l = true → Claims.laneStop s x l = some (va, c) → c = .notPresent ∨ c = .perm → va < 2 ^ 64 →
    (∀ k < 64, mask.getLsbD k = true → ∀ e, Claims.laneStop s x k = some e →
      3 ≤ Claims.categoryOf e.2 ∧ (Claims.categoryOf e.2 = 3 → l ≤ k)) →
    tget s.parts s.wave.span.part = some p → p.held = [] → p.ring = [] → 0 < p.buffers →
    Claims.accessesFreely s i x mask →
    Claims.served i s x.kind (BitVec.ofNat 64 va) c p (fun sv => sv.mask = mask ∧ sv.lane = l))

/-- R155, R156, R251, R336: what an access that may not be performed does: `UnresolvableAccessesTrap` and `ResolvableFaultsAreServed`. -/
def Obligations.AccessFaults : Prop :=
  Claims.UnresolvableAccessesTrap ∧ Claims.ResolvableFaultsAreServed

namespace Sys2Proof.Claims

/-! ### Queue locks, barriers, fences and channels (R77 to R80, R167, R174, R312 to R314, R319) -/

/-- A lock word in memory (R313): HELD, the number of waiters, the holder's partition and context. -/
def lockWord (waiters part ctx : Nat) : Nat :=
  2 ^ 63 + (if waiters ≤ 65535 then waiters else 65535) * 2 ^ 32 + part * 2 ^ 8 + ctx

/-- The doubleword at a physical address holds a value, and every other byte is as before, as in `bytesStored`. -/
def wordStored (key pa x : Nat) (s t : State) : Prop :=
  bytesStored ((List.range 8).map (fun j => (key, pa + j, BitVec.ofNat 8 (x / 256 ^ j)))) s t

/-- The waves that a barrier of a kind counts with a wave (R77). -/
def together (k : BarrierKind) (w x : Wave) : Prop :=
  x.span.part = w.span.part ∧ x.span.ctx = w.span.ctx ∧ x.span.lrec = w.span.lrec ∧
  (k ≠ .grid → x.span = w.span) ∧ (k = .block → x.block = w.block)

/-- Every span of the grid of a span has started or has been reported (R77); a graph node's spans form no grid. -/
def gridWhole (s : State) (id : SpanId) : Prop :=
  ∀ g, s.launchOf id = some g → g.node = none →
    g.grid.foldl (· * ·) 1 ≤ g.finished + (s.spans.filter (fun x =>
      x.id.part == id.part && x.id.ctx == id.ctx && x.id.lrec == id.lrec &&
      [SpanPhase.live, .saved, .ended].contains x.phase)).length

/-- The barrier of an instruction. -/
def barrierOf : Instr → Option BarrierKind
  | .bar _ => some .block
  | .sbar _ => some .span
  | .gbar _ => some .grid
  | _ => none

/-- The packets that a channel of the wave's span holds, oldest first (R80). -/
def channel (s : State) (c : Nat) : List (List Word32) :=
  match s.findSpan s.wave.span with
  | some x => tgetD x.channels c []
  | none => []

/-- A wave waits to send or to receive on a channel of a span. -/
def waitsOn (id : SpanId) (c : Nat) (w : Wave) : Prop :=
  w.span = id ∧ ((∃ p n, w.wait = .sending c p n) ∨ (∃ d m n, w.wait = .receiving c d m n))

end Sys2Proof.Claims

/-- R312, R313: QLOCK, where it acts on an accessible lock word that no lock holds and its unit has room, makes the wave the holder
and writes HELD, no waiter and its partition and context to the word; of a word held by another wave it becomes the last waiter
and sleeps. -/
def Sys2Proof.Claims.QlockTakesOrWaits : Prop :=
  ∀ (r : BitVec 5) (st : BitVec 3) (s : State) (l : Leaf),
    let i : Instr := .qlock r st
    let va := (s.wave.sval r.toNat).toNat
    let part := s.wave.span.part
    acts i s = true → access s part s.wave.span.ctx .lock va 8 = .ok l →
    (findLock s part (l.pa va) = none → unitLoad s (lockUnit s part (l.pa va)) < 64 →
      ∃ t, exec i s = .next t ∧
        findLock t part (l.pa va) = some ⟨l.pa va, l.key, va, s.wave.id, part, s.wave.span.ctx, []⟩ ∧
        Claims.wordStored l.key (l.pa va) (Claims.lockWord 0 part s.wave.span.ctx) s t ∧
        Claims.settle t.wave s.wave = s.wave ∧ Claims.movedOn i s t ∧
        { t with wave := s.wave, locks := s.locks, mem := s.mem, lineKey := s.lineKey, array := s.array } = s) ∧
    (∀ k, findLock s part (l.pa va) = some k → k.holder ≠ s.wave.id → k.key < 4096 →
      ∃ t, exec i s = .next t ∧ t.wave.wait = .locking (l.pa va) va ∧
        findLock t part (l.pa va) = some { k with waiters := k.waiters ++ [s.wave.id] } ∧
        Claims.wordStored k.key (l.pa va) (Claims.lockWord (k.waiters.length + 1) part k.ctx) s t ∧
        Claims.settle { t.wave with wait := s.wave.wait } s.wave = s.wave ∧ Claims.movedOn i s t)

/-- R312, R313: QUNLOCK, where it acts on a lock word that the wave holds with no waiter and no request waits for its unit, frees it
and writes 0 to the word; with a waiter, the oldest becomes the holder, by the VA at which it waits, and goes on. -/
def Sys2Proof.Claims.QunlockReleases : Prop :=
  ∀ (r : BitVec 5) (st : BitVec 3) (s : State) (l : Leaf) (k : Lock),
    let i : Instr := .qunlock r st
    let va := (s.wave.sval r.toNat).toNat
    let part := s.wave.span.part
    acts i s = true → access s part s.wave.span.ctx .lock va 8 = .ok l →
    findLock s part (l.pa va) = some k → k.holder = s.wave.id → k.key < 4096 →
    (k.waiters = [] → s.lockQ = [] →
      ∃ t, exec i s = .next t ∧ findLock t part (l.pa va) = none ∧ Claims.wordStored k.key (l.pa va) 0 s t ∧
        Claims.settle t.wave s.wave = s.wave ∧ Claims.movedOn i s t ∧ t.waves = s.waves) ∧
    (∀ (n : Nat) (rest : List Nat) (w : Wave), k.waiters = n :: rest → n ≠ s.wave.id →
      s.wave.wait ≠ .vacant → s.waves.find? (fun x => x.id == n) = some w →
      ∃ t v, exec i s = .next t ∧
        findLock t part (l.pa va) = some { k with
          holder := n, ctx := w.span.ctx, waiters := rest, va := match w.wait with | .locking _ v => v | _ => k.va } ∧
        Claims.wordStored k.key (l.pa va) (Claims.lockWord rest.length part w.span.ctx) s t ∧
        t.waves.find? (fun x => x.id == n) = some v ∧ v.wait = .running ∧
        { v with wait := w.wait, readyAt := w.readyAt } = w ∧
        Claims.settle t.wave s.wave = s.wave ∧ Claims.movedOn i s t)

/-- R312, R313: QLOCK and QUNLOCK: `QlockTakesOrWaits` and `QunlockReleases`. -/
def Obligations.QueueLocks : Prop :=
  Claims.QlockTakesOrWaits ∧ Claims.QunlockReleases

/-- R77, R78: BAR, SBAR and GBAR (in a grid with the flag), where they act with ARM = 0, let the wave wait while another wave of its
block, span or grid is not at the barrier, a wave of a span that has not started included, and let all of them go on as the
last arrives; registers and memory are unchanged. -/
def Sys2Proof.Claims.BarriersMeet : Prop :=
  ∀ (i : Instr) (k : BarrierKind) (s : State),
    Claims.barrierOf i = some k → acts i s = true → s.wave.satctl.getLsbD 0 = false →
    (k = .grid → ∃ g, s.launchOf s.wave.span = some g ∧ g.gbar = true) →
    let met : Prop := (∀ x ∈ s.waves, Claims.together k s.wave x → ∃ n, x.wait = .barrier k n) ∧
      (k = .grid → Claims.gridWhole s s.wave.span)
    ∃ t, exec i s = .next t ∧
      (¬ met → t.wave.wait = .barrier k s.arrivals ∧ t.waves = s.waves) ∧
      (met → t.wave.wait = .running ∧ t.waves.length = s.waves.length ∧
        ∀ (n : Nat) (x : Wave), s.waves[n]? = some x → ∃ y : Wave, t.waves[n]? = some y ∧
          { y with wait := x.wait, readyAt := x.readyAt } = x ∧ (Claims.together k s.wave x → y.wait = .running) ∧
          (¬ Claims.together k s.wave x → y = x)) ∧
      Claims.settle { t.wave with wait := s.wave.wait } s.wave = s.wave ∧ Claims.movedOn i s t ∧
      { t with wave := s.wave, waves := s.waves, arrivals := s.arrivals, islands := s.islands } = s

/-- R78, R79: a barrier with ARM = 1 raises SAT_BARRIER (0x08) with SATF and clears ARM; GBAR in a grid launched without the flag
raises GRID_BARRIER (0x09). -/
def Sys2Proof.Claims.BarrierTraps : Prop :=
  ∀ (i : Instr) (k : BarrierKind) (s : State), Claims.barrierOf i = some k → acts i s = true →
    (s.wave.satctl.getLsbD 0 = true → (k = .grid → ∃ g, s.launchOf s.wave.span = some g ∧ g.gbar = true) →
      exec i s = raise (trapOf i 0x08 0 0 [s.wave.satf.toNat])
        { s with wave := { s.wave with satctl := s.wave.satctl &&& ~~~1#64 } }) ∧
    (k = .grid → (∀ g, s.launchOf s.wave.span = some g → g.gbar = false) →
      exec i s = raise (trapOf i 0x09 0 0 []) s)

/-- R77 to R79: BAR, SBAR and GBAR: `BarriersMeet` and `BarrierTraps`. -/
def Obligations.Barriers : Prop :=
  Claims.BarriersMeet ∧ Claims.BarrierTraps

/-- R167, R174: FENCE at scopes up to .dev, and any FENCE or a WFENCE of a wave with nothing on its way to another device and no
refusal pending, goes on and changes nothing; with something in flight FENCE.dom, FENCE.sys and WFENCE wait. -/
def Sys2Proof.Claims.FencesWait : Prop :=
  ∀ (c st : BitVec 3) (s : State),
    (acts (.fence c st) s = true → c.toNat < 4 ∨ Claims.nothingInFlight s s.wave →
      ∃ t, exec (.fence c st) s = .next t ∧ Claims.wentOn (.fence c st) s t) ∧
    (acts (.wfence st) s = true → Claims.nothingInFlight s s.wave → s.wave.refused = [] →
      ∃ t, exec (.wfence st) s = .next t ∧ Claims.wentOn (.wfence st) s t) ∧
    (acts (.fence c st) s = true → 4 ≤ c.toNat → ¬ Claims.nothingInFlight s s.wave →
      exec (.fence c st) s = .next (Claims.sleeping (.retryReflected false) s)) ∧
    (acts (.wfence st) s = true → ¬ Claims.nothingInFlight s s.wave →
      exec (.wfence st) s = .next (Claims.sleeping (.retryReflected false) s))

/-- R165, R166, R168: ATOM and RED that release at .sys, and SLD and SST to a strongly ordered page, wait while anything of the wave
is on its way to another device: nothing is performed. -/
def Sys2Proof.Claims.SystemOrderWaits : Prop :=
  ∀ (i : Instr) (s : State), acts i s = true → ¬ Claims.nothingInFlight s s.wave →
    ((∃ m p t o d st, i = .atom m 2 p 1 t o d st ∨ i = .atom m 3 p 1 t o d st ∨ i = .red m 2 p 1 t o d st ∨
        i = .red m 3 p 1 t o d st) ∨
      (∃ kind va l, Claims.scalarAccess i s.wave = some (kind, va) ∧
        translate s s.wave.span.part s.wave.span.ctx va.toNat = .ok l ∧ l.mt = 3)) →
    exec i s = .next (Claims.sleeping (.retryReflected false) s)

/-- R165 to R168, R174: what waits for the wave's stores and requests at other devices, and what goes on: `FencesWait` and
`SystemOrderWaits`. -/
def Obligations.FencesOrder : Prop :=
  Claims.FencesWait ∧ Claims.SystemOrderWaits

/-- R80, R319: SEND, where it acts on a channel with fewer than four packets and no waiting receiver, appends the lanes of active(M),
zero elsewhere; with four it waits with its packet. RECV, where it acts on a channel that holds a packet and has no waiting
sender, takes the oldest into the lanes of active(M); with none it waits. -/
def Obligations.ChannelsPassPackets : Prop :=
  ∀ (m : BitVec 3) (c d : BitVec 6) (st : BitVec 3) (s : State) (x : Span),
    let mask := s.wave.active &&& s.wave.mval m.toNat
    let ps := Claims.channel s c.toNat
    s.findSpan s.wave.span = some x → (∀ w ∈ s.waves, ¬ Claims.waitsOn s.wave.span c.toNat w) →
    ¬ Claims.waitsOn s.wave.span c.toNat s.wave →
    (acts (.send m c d st) s = true →
      let p := (List.range 64).map (fun l => if mask.getLsbD l then s.wave.vval d.toNat l else 0)
      ∃ t, exec (.send m c d st) s = .next t ∧
        (if ps.length < 4 then
          Claims.channel t c.toNat = ps ++ [p] ∧ Claims.settle t.wave s.wave = s.wave ∧
          { t with wave := s.wave, spans := s.spans } = s
        else t.wave.wait = .sending c.toNat p s.arrivals ∧
          Claims.settle { t.wave with wait := s.wave.wait } s.wave = s.wave ∧
          { t with wave := s.wave, arrivals := s.arrivals } = s) ∧
        Claims.movedOn (.send m c d st) s t) ∧
    (acts (.recv m c d st) s = true →
      ∃ t, exec (.recv m c d st) s = .next t ∧ Claims.movedOn (.recv m c d st) s t ∧
        (∀ p rest, ps = p :: rest →
          Claims.channel t c.toNat = rest ∧
          (∀ l < 64, mask.getLsbD l = true → Claims.element t.wave d.toNat l = p.getD l 0) ∧
          Claims.lanesKept d.toNat mask s t ∧ { t with wave := s.wave, spans := s.spans } = s) ∧
        (ps = [] → t.wave.wait = .receiving c.toNat d.toNat mask s.arrivals ∧
          Claims.settle { t.wave with wait := s.wave.wait } s.wave = s.wave ∧
          { t with wave := s.wave, arrivals := s.arrivals } = s))

namespace Sys2Proof.Claims

/-! ### Posting engine commands (R188 to R191, R197, R263, R274, R296, R297, R380) -/

/-- An ENG instruction with a descriptor: FN, and its successor, descriptor and token registers (R296). -/
def posting : Instr → Option (Nat × BitVec 5 × BitVec 5 × BitVec 5)
  | .mxloop u e t _ => some (0, u, e, t)
  | .cpy u e t _ => some (1, u, e, t)
  | .bload u e t _ => some (2, u, e, t)
  | .cbld u e t _ => some (3, u, e, t)
  | .nwri u e t _ => some (5, u, e, t)
  | _ => none

/-- The size of a descriptor in bytes (R192, R194 to R196, R242), and the piece in which it is read. -/
def descriptorSize (fn : Nat) : Nat := if fn = 1 then 256 else if fn = 3 then 16 else 32

/-- The piece in which a descriptor is read: no page boundary cuts it. -/
def descriptorPiece (fn : Nat) : Nat := if fn = 1 then 64 else descriptorSize fn

/-- The queue of a command: MXQ, CPQ0 or CPQ1 by QSEL, CBQ, NWQ (R188). -/
def queueFor (fn : Nat) (desc : List Byte) : Nat :=
  match fn with
  | 0 => 0
  | 3 => 3
  | 5 => 4
  | _ => 1 + (desc.getD 0 0).toNat / 2 % 2

/-- The token of a command (R190). -/
def tokenWord (core q seq : Nat) : Word64 := BitVec.ofNat 64 (core + q * 2 ^ 9 + seq % 2 ^ 32 * 2 ^ 16)

/-- A token names a command that a new command of queue `q` may claim (R197). -/
def mayClaim (c : Core) (core q : Nat) (x : Word64) : Prop :=
  x.toNat / 2 ^ 12 % 16 = 0 ∧ x.toNat / 2 ^ 48 = 0 ∧ x.toNat % 512 = core ∧ tokenQueue x ≠ q ∧ tokenQueue x ≤ 4 ∧
  ∃ k ∈ c.queue (tokenQueue x), k.seq = tokenSeq x ∧ k.held = true ∧ k.claimed = false

/-- What the use of a slot leaves in ACCOWN: a free slot becomes the context's own at user level, BUSY as it was (R187). -/
def slotClaimed (s : State) (z : Nat) : Word64 :=
  let own := sget (s.coreOf s.wave.core).accown z
  if s.wave.level = .user ∧ own.toNat / 2 ^ 9 % 2 = 0 then
    BitVec.ofNat 64 (own.toNat / 2 ^ 10 % 2 * 2 ^ 10 + 2 ^ 9 + s.wave.span.part % 32 * 2 ^ 4 + s.wave.span.ctx % 16)
  else own

/-- The record a lane emits: its elements of vD to vD+3, 16 bytes (R83). -/
def emitted (w : Wave) (d l : Nat) : List Byte :=
  (List.range 16).map (fun j => BitVec.ofNat 8 ((w.vval (d + j / 4) l).toNat / 256 ^ (j % 4)))

/-- The records of a node, those of its batches not yet placed first. -/
def nodeRecords (n : Node) : List (List Byte) := n.ready.flatMap (fun b => b.2) ++ n.queue

/-- Some cores' state but of one core's is unchanged. -/
def otherCores (k : Nat) (s t : State) : Prop := ∀ j, j ≠ k → t.coreOf j = s.coreOf j

/-- The frame of a matrix instruction: beyond the wave, only its core, the block's note of its core (R263), the lines of the bank
array, and monitors. -/
def matrixFrame (s t : State) : Prop :=
  t = { s with wave := t.wave, cores := t.cores, blocks := t.blocks, array := t.array, parts := t.parts } ∧ otherCores s.wave.core s t ∧
  (∀ k, (tget t.parts k).map unwatched = (tget s.parts k).map unwatched) ∧
  t.blocks = (s.changeBlock s.wave.span s.wave.block (fun b => { b with accHome := some s.wave.core })).blocks

/-- Of a core, only slot `z`, its checksums and its owner have changed, and, where `late` says that the tile was written behind them, the
K-steps of the wave on it that have not rounded: nothing will stay of these (R181, R309). -/
def slotFrame (late : Bool) (z : Nat) (s t : State) : Prop :=
  let c := s.coreOf s.wave.core
  let d := t.coreOf s.wave.core
  let left (x : StepInput) : StepInput := if late = true ∧ x.wave = s.wave.id ∧ x.slot = z then { x with gone := true } else x
  { d with
    acc := c.acc, accown := c.accown, checks := c.checks, poisonZ := c.poisonZ, steps := c.steps, flight := c.flight } = c ∧
  d.steps = c.steps.map left ∧ d.flight = c.flight.map (fun f => if f.loop then f else { f with input := left f.input }) ∧
  (∀ k, k < 1024 * z ∨ 1024 * z + 1024 ≤ k → sget d.acc k = sget c.acc k ∧ sget d.poisonZ k = sget c.poisonZ k) ∧
  (∀ y, y ≠ z → sget d.accown y = sget c.accown y ∧ tget d.checks y = tget c.checks y) ∧
  sget d.accown z = slotClaimed s z

/-- Element (i, k) of the A fragment in registers a to a+7, as a code (R178): 16 bits where K is 32 and 8 bits where it is 64. -/
def aCode (w : Wave) (wide : Bool) (a i k : Nat) : Nat :=
  if wide then (w.vval (a + k % 16 / 2) (i + 32 * (k / 16))).toNat / 2 ^ (16 * (k % 2)) % 2 ^ 16
  else (w.vval (a + k % 32 / 4) (i + 32 * (k / 32))).toNat / 2 ^ (8 * (k % 4)) % 2 ^ 8

/-- K of a pairing (R179). -/
def stepSize (fmt : Nat) : Nat := if fmt = 0 ∨ fmt = 1 ∨ fmt = 5 then 32 else 64

/-- A line of the tile store: of each slice its tag, its bytes and its scales (R177). -/
def lineOf (c : Core) (line : Nat) : Nat × List (Nat × List Byte × List Byte) :=
  (line, (List.range 32).map (fun j =>
    ((sget c.tags (32 * line + j)).toNat, (List.range 64).map (fun k => sget c.tile (64 * (32 * line + j) + k)),
      (List.range 2).map (fun h => sget c.scales (2 * (32 * line + j) + h)))))

/-- What a K-step holds fits its pairing: 32 rows of A, whose positions lie in its one or two lines of B, each line with the tag, the
64 bytes and the two scales of 32 slices, and every tag one that the pairing accepts (R177, R179, R192, R193). -/
def stepFits (x : StepInput) : Prop :=
  x.slot < 64 ∧ x.fmt ≤ 5 ∧ x.rows.length = 32 ∧ (x.lines.length = 1 ∨ x.lines.length = 2) ∧ (x.lines.map (·.1)).Nodup ∧
  (∀ l ∈ x.lines, l.1 ≤ 3071 ∧ l.2.length = 32 ∧
    ∀ y ∈ l.2, tagAccepted x.fmt y.1 = true ∧ y.2.1.length = 64 ∧ y.2.2.length = 2) ∧
  (∀ row ∈ x.rows, ∀ e ∈ row, e.1 < stepSize x.fmt * x.lines.length)

/-- The word that a K-step leaves at row i, column j of its slot where the word was `old` (R128 to R130, R193): the integers' products
added modulo 2^32, or the exact sum of each half's products under its scale added to the word and rounded once. Position p
of a row meets element p mod K of line p / K. -/
def stepWord (x : StepInput) (old : Word32) (i j : Nat) : Word32 :=
  let k := stepSize x.fmt
  let slice (p : Nat) : Nat × List Byte × List Byte := (x.lines.getD (p / k) (0, [])).2.getD j (0, [], [])
  let code (p : Nat) : Nat :=
    let at_ (b : Nat) : Nat := ((slice p).2.1.getD b 0).toNat
    if k = 32 then at_ (2 * (p % k)) + 256 * at_ (2 * (p % k) + 1) else at_ (p % k)
  let row := x.rows.getD i []
  if x.fmt = 4 then
    old + BitVec.ofInt 32 ((row.map (fun e => (BitVec.ofNat 8 e.2).toInt *
      (if (slice e.1).1 = 5 then (BitVec.ofNat 8 (code e.1)).toInt else (code e.1 : Int)))).sum)
  else
    let scale (h : Nat) : Nat :=
      let y := slice (32 * h)
      if y.1 = 3 ∨ y.1 = 4 then (y.2.2.getD (h % 2) 0).toNat else if y.1 = 7 then (y.2.2.getD 0 0).toNat else 127
    let half (h : Nat) : Option FVal :=
      (dotF ((row.filter (fun e => decide (e.1 / 32 = h))).map (fun e =>
        (decodeF (fragFormat x.fmt) e.2, decodeF (tagFormat (slice e.1).1) (code e.1))))).map (rescale (scale h))
    accrue .rne old (sumF ((List.range (k / 32 * x.lines.length)).map half))

end Sys2Proof.Claims

/-- R189, R190, R197, R380: MXLOOP, CPY, BLOAD, CBLD and NWRI, where they act with a readable descriptor, a slot that MXLOOP may use and
room in their queue, append one command with the descriptor's bytes to it and write its token to sT and a promise no earlier
than CYC to sT+1; it claims its successor, or is marked CHAIN and leaves the named command as it was. -/
def Sys2Proof.Claims.PostingEnqueues : Prop :=
  ∀ (i : Instr) (fn : Nat) (u e t : BitVec 5) (s : State) (leaf : Nat → Leaf),
    Claims.posting i = some (fn, u, e, t) → acts i s = true →
    let w := s.wave
    let va := (w.sval e.toNat).toNat
    let n := Claims.descriptorPiece fn
    let pieces := List.range (Claims.descriptorSize fn / n)
    let at_ (j : Nat) := (va + n * j) % 2 ^ 64
    va % 64 = 0 →
    (∀ j ∈ pieces, access s w.span.part w.span.ctx .load (at_ j) n = .ok (leaf j) ∧ Claims.unpoisoned s (leaf j) (at_ j) n ∧
      Claims.loadsFreely s (leaf j)) →
    let desc := pieces.flatMap (fun j => loadBytes s (leaf j) (at_ j) n)
    let q := Claims.queueFor fn desc
    let z := (desc.getD 1 0).toNat % 64
    let c := s.coreOf w.core
    (fn = 0 → Claims.slotOwned s z ∧ Claims.ownerSound s z) → (c.queue q).length < 32 →
    let seq := tgetD c.nextSeq q 0
    let succ := if u = 0 then none else some (w.sval u.toNat)
    ∃ (v : State) (k : Cmd) (p : Nat), exec i s = .next v ∧ s.cyc ≤ p ∧
      (∀ r, sget v.wave.s r = if r = t.toNat then Claims.tokenWord w.core q seq
        else if r = t.toNat + 1 then BitVec.ofNat 64 p else sget w.s r) ∧
      k.seq = seq ∧ k.fn = fn ∧ k.desc = desc ∧ k.span = w.span ∧ k.block = w.block ∧ k.phase = .waiting ∧ k.step = 0 ∧
      (k.held = true ↔ k.chain = false ∧ (desc.getD 0 0).toNat % 2 = 1) ∧
      (v.coreOf w.core).queue q = c.queue q ++ [k] ∧ tgetD (v.coreOf w.core).nextSeq q 0 = seq + 1 ∧
      (∀ x, succ = some x → Claims.mayClaim c w.core q x →
        k.succ = some x ∧ k.chain = false ∧ ∀ y, y ≠ q → (v.coreOf w.core).queue y =
          if y = tokenQueue x then modFirst (fun b => b.seq == tokenSeq x) (fun b => { b with claimed := true }) (c.queue y)
          else c.queue y) ∧
      ((∀ x, succ = some x → ¬ Claims.mayClaim c w.core q x) →
        k.succ = none ∧ (k.chain = true ↔ succ ≠ none) ∧ ∀ y, y ≠ q → (v.coreOf w.core).queue y = c.queue y) ∧
      (fn = 0 → sget (v.coreOf w.core).accown z = Claims.slotClaimed s z) ∧
      (∀ y, fn ≠ 0 ∨ y ≠ z → sget (v.coreOf w.core).accown y = sget c.accown y) ∧
      { v.coreOf w.core with queues := c.queues, nextSeq := c.nextSeq, accown := c.accown } = c ∧
      Claims.otherCores w.core s v ∧
      v.spans = (if fn = 5 then (s.changeSpan w.span (fun x => { x with replayable := false })).spans else s.spans) ∧
      { Claims.settle v.wave w with s := w.s, poisonS := w.poisonS } = w ∧ Claims.movedOn i s v ∧
      v = { s with
        wave := v.wave, cores := v.cores, spans := v.spans, blocks := v.blocks, array := v.array, parts := v.parts,
        fresh := v.fresh } ∧
      (∀ j, (tget v.parts j).map Claims.unwatched = (tget s.parts j).map Claims.unwatched)

/-- R197, R190: QFENCE without a successor, where it acts on a core with no other fence open, writes a token of queue 7 and a promise;
it waits for the commands that the queues of its mask hold, or has completed with OK where they hold none. -/
def Sys2Proof.Claims.QfenceWaits : Prop :=
  ∀ (e t : BitVec 5) (st : BitVec 3) (s : State),
    let i : Instr := .qfence 0 e t st
    let w := s.wave
    let c := s.coreOf w.core
    let mask := (w.sval e.toNat).toNat % 32
    let seq := tgetD c.nextSeq 7 0
    let waits := ((List.range 5).filter (fun q => mask / 2 ^ q % 2 = 1)).flatMap (fun q => (c.queue q).map (fun k => (q, k.seq)))
    acts i s = true → c.fences = [] →
    ∃ (v : State) (p : Nat), exec i s = .next v ∧ s.cyc ≤ p ∧
      (∀ r, sget v.wave.s r = if r = t.toNat then Claims.tokenWord w.core 7 seq
        else if r = t.toNat + 1 then BitVec.ofNat 64 p else sget w.s r) ∧
      (v.coreOf w.core).fences = (if waits = [] then [] else [⟨seq, w.span, w.block, mask, waits, none, false⟩]) ∧
      (waits = [] → ⟨7, seq, 0, 0, none⟩ ∈ (v.coreOf w.core).done) ∧
      tgetD (v.coreOf w.core).nextSeq 7 0 = seq + 1 ∧
      { v.coreOf w.core with fences := c.fences, nextSeq := c.nextSeq, done := c.done } = c ∧
      Claims.otherCores w.core s v ∧
      { Claims.settle v.wave w with s := w.s, poisonS := w.poisonS } = w ∧ Claims.movedOn i s v ∧
      v = { s with wave := v.wave, cores := v.cores, fresh := v.fresh }

/-- R189, R190, R197, R380: the ENG instructions: `PostingEnqueues` and `QfenceWaits`. -/
def Obligations.EngineCommandsPosted : Prop :=
  Claims.PostingEnqueues ∧ Claims.QfenceWaits

/-- R83, R84, R300, R274: EMIT, where it acts in a graph grid on a declared successor and within EMITMAX, appends one 16-byte record
per lane of active(M), in ascending lane order, to the node's records, counts them against the block, and ends the span's
replayable bit; registers and memory are unchanged. -/
def Sys2Proof.Claims.EmitAppends : Prop :=
  ∀ (m : BitVec 3) (n d : BitVec 6) (st : BitVec 3) (s : State) (g : Launch) (c : Ctx) (nd : Node) (b : Block),
    let i : Instr := .emit m n d st
    let w := s.wave
    let lanes := Claims.lanesIn (w.active &&& w.mval m.toNat)
    let k := (w.sval n.toNat).toNat
    let node := g.succ.getD k 0xFFFF
    acts i s = true → s.launchOf w.span = some g → g.graph = true → k ≤ 15 → node ≠ 0xFFFF →
    s.findCtx w.span.part w.span.ctx = some c → tget c.nodes node = some nd →
    s.findBlock w.span w.block = some b → b.emitted + lanes.length ≤ g.emitMax →
    ∃ (t : State) (c' : Ctx) (nd' : Node), exec i s = .next t ∧
      t.findCtx w.span.part w.span.ctx = some c' ∧ tget c'.nodes node = some nd' ∧
      Claims.nodeRecords nd' = Claims.nodeRecords nd ++ lanes.map (Claims.emitted w d.toNat) ∧ nd'.launch = nd.launch ∧
      { c' with nodes := c.nodes } = c ∧ (∀ y, y ≠ node → tget c'.nodes y = tget c.nodes y) ∧
      t.findBlock w.span w.block = some { b with emitted := b.emitted + lanes.length } ∧
      t.spans = (s.changeSpan w.span (fun x => { x with replayable := false })).spans ∧
      Claims.settle t.wave w = w ∧ Claims.movedOn i s t ∧
      t = { s with wave := t.wave, blocks := t.blocks, spans := t.spans, parts := t.parts } ∧
      ∀ j, (tget t.parts j).map (fun p => { p with ctxs := [] }) = (tget s.parts j).map (fun p => { p with ctxs := [] })

/-- R317: RECIN, where it acts in a block launched for records, gives vD to vD+3 of each lane of active(M) the four words of the
record of that lane's place in the batch, zero where the batch holds none; nothing else changes. -/
def Sys2Proof.Claims.RecinReads : Prop :=
  ∀ (m : BitVec 3) (d : BitVec 6) (st : BitVec 3) (s : State) (b : Block) (rs : List (List Byte)),
    let i : Instr := .recin m d st
    let w := s.wave
    let mask := w.active &&& w.mval m.toNat
    acts i s = true → s.findBlock w.span w.block = some b → b.records = some rs →
    ∃ t, exec i s = .next t ∧
      (∀ q l, l < 64 → Claims.element t.wave q l =
        if d.toNat ≤ q ∧ q < d.toNat + 4 ∧ mask.getLsbD l = true then
          BitVec.ofNat 32 (leValue (((rs.getD (64 * w.index + l) []).drop (4 * (q - d.toNat))).take 4))
        else Claims.element w q l) ∧
      { Claims.settle t.wave w with v := w.v, poisonV := w.poisonV } = w ∧ Claims.movedOn i s t ∧ Claims.onlyWave s t

/-- R83, R84, R300, R317: EMIT and RECIN: `EmitAppends` and `RecinReads`. -/
def Obligations.GraphRecords : Prop :=
  Claims.EmitAppends ∧ Claims.RecinReads

/-- R181, R182, R184, R186, R187: MXZERO, MXRDZ and MXLDZ, where they act on a slot that is ready (and for MXRDZ its K-steps have
rounded and no word read is poisoned, for MXLDZ the tile's 4,096 bytes are accessible raw data and not poisoned), zero the slot, give
its words of two rows to the active lanes, and fill it with the words in memory; a free slot becomes the context's. Of the wave's
K-steps on the slot that have not rounded nothing stays where MXZERO or MXLDZ writes it behind them (log 101, DEDUCED). -/
def Sys2Proof.Claims.TileMoves : Prop :=
  ∀ (z : BitVec 6) (st : BitVec 3) (s : State), Claims.slotReady s z.toNat →
    let w := s.wave
    (acts (.mxzero z st) s = true →
      ∃ t, exec (.mxzero z st) s = .next t ∧
        (∀ k < 1024, sget (t.coreOf w.core).acc (1024 * z.toNat + k) = 0) ∧ tget (t.coreOf w.core).checks z.toNat = none ∧
        Claims.slotFrame true z.toNat s t ∧ Claims.matrixFrame s t ∧ Claims.settle t.wave w = w ∧
        Claims.movedOn (.mxzero z st) s t) ∧
    (∀ (n : BitVec 4) (d : BitVec 6), acts (.mxrdz n d z st) s = true → Claims.stepsRounded s z.toNat →
      let word (l : Nat) := 1024 * z.toNat + 32 * (2 * n.toNat + l / 32) + l % 32
      (∀ l < 64, w.active.getLsbD l = true → sget (s.coreOf w.core).poisonZ (word l) = 0) →
      ∃ t, exec (.mxrdz n d z st) s = .next t ∧
        (∀ l < 64, w.active.getLsbD l = true → Claims.element t.wave d.toNat l = sget (s.coreOf w.core).acc (word l)) ∧
        Claims.lanesKept d.toNat w.active s t ∧ (t.coreOf w.core).acc = (s.coreOf w.core).acc ∧
        (t.coreOf w.core).checks = (s.coreOf w.core).checks ∧ Claims.slotFrame false z.toNat s t ∧ Claims.matrixFrame s t ∧
        Claims.movedOn (.mxrdz n d z st) s t) ∧
    (∀ (b : BitVec 5) (leaf : Nat → Leaf), acts (.mxldz b z st) s = true →
      let va := (w.sval b.toNat).toNat
      let at_ (j : Nat) := (va + 64 * j) % 2 ^ 64
      va % 64 = 0 →
      (∀ j < 64, access s w.span.part w.span.ctx .load (at_ j) 64 = .ok (leaf j) ∧ (leaf j).efmt = 0 ∧
        Claims.unpoisoned s (leaf j) (at_ j) 64 ∧ Claims.loadsFreely s (leaf j)) →
      ∃ t, exec (.mxldz b z st) s = .next t ∧
        (∀ k < 1024, (sget (t.coreOf w.core).acc (1024 * z.toNat + k)).toNat =
          loadLe s (leaf (k / 16)) (at_ (k / 16) + 4 * (k % 16)) 4) ∧
        tget (t.coreOf w.core).checks z.toNat = none ∧
        Claims.slotFrame true z.toNat s t ∧ Claims.matrixFrame s t ∧ Claims.settle t.wave w = w ∧
        Claims.movedOn (.mxldz b z st) s t)

/-- R182, R183, R125, R119: MXSTZ, where it acts on a slot that is ready, its K-steps rounded, and holds no poison, stores its 1,024
words on unformatted pages, or the codes of its elements on a formatted page, one row to a block with the scale that the device forms
for it, whose byte may be stored to as well (R212); the slot and every other byte are unchanged. -/
def Sys2Proof.Claims.MxstzStores : Prop :=
  ∀ (b : BitVec 5) (z : BitVec 6) (st : BitVec 3) (s : State) (leaf : Nat → Leaf),
    let i : Instr := .mxstz b z st
    let w := s.wave
    let c := s.coreOf w.core
    let va := (w.sval b.toNat).toNat
    let at_ (j : Nat) := (va + 64 * j) % 2 ^ 64
    let word (k : Nat) := sget c.acc (1024 * z.toNat + k)
    Claims.slotReady s z.toNat → Claims.stepsRounded s z.toNat → acts i s = true → va % 64 = 0 →
    Claims.slotSound c z.toNat →
    (∀ j < 64, access s w.span.part w.span.ctx .store (at_ j) 64 = .ok (leaf j)) →
    Claims.allStoreFreely s (fun x => ∃ j < 64, leaf j = x) →
    ((∀ j < 64, (leaf j).efmt = 0) →
      let bs := (List.range 1024).flatMap (fun k =>
        Claims.storedAt (leaf (k / 16)) (at_ (k / 16) + 4 * (k % 16)) 4 (word k).toNat)
      ∃ t, exec i s = .next t ∧ Claims.bytesStored bs s t ∧ Claims.poisonCovered bs s t ∧ Claims.settle t.wave w = w ∧
        Claims.movedOn i s t ∧ (t.coreOf w.core).acc = c.acc ∧ Claims.slotFrame false z.toNat s t ∧
        Claims.otherCores w.core s t ∧
        t = { s with
          wave := t.wave, cores := t.cores, blocks := t.blocks, mem := t.mem, lineKey := t.lineKey, poison := t.poison,
          array := t.array, parts := t.parts, spans := t.spans }) ∧
    (∀ elem : Nat → Element, (leaf 0).efmt ≠ 0 →
      (∀ k : Nat, k < 1024 →
        locate s w.span.part w.span.ctx .store { TReg.unbound with base := BitVec.ofNat 64 va } k = .ok (elem k) ∧
        (elem k).leaf.efmt < 5 ∧ ((elem k).scale.isSome = (elem 0).scale.isSome) ∧
        ∀ y, (elem k).scale = some y → leafCause s w.span.part .store y.1 y.2 = none) →
      let bytes (e : Element) (x : Nat) : List (Nat × Nat × Byte) :=
        (e.bytes.zipIdx).map (fun y => (y.1.1.key, y.1.1.pa y.1.2, BitVec.ofNat 8 (x / 256 ^ y.2)))
      let format (r : Nat) := elementFormat (elem (32 * r)).leaf.efmt
      let scale (r : Nat) := formScale (format r) ((List.range 32).map (fun j => decode32F (word (32 * r + j))))
      let bs := (List.range 32).flatMap (fun r =>
        match (elem (32 * r)).scale with
        | some y => (y.1.key, y.1.pa y.2, BitVec.ofNat 8 (scale r)) :: (List.range 32).flatMap (fun j =>
            bytes (elem (32 * r + j)) (scaledCode (format r) (scale r) (decode32F (word (32 * r + j)))))
        | none => (List.range 32).flatMap (fun j => bytes (elem (32 * r + j))
            (narrowF (elementFormat (elem (32 * r + j)).leaf.efmt) (decode32F (word (32 * r + j)))).1))
      ∃ t, exec i s = .next t ∧ Claims.bytesStored bs s t ∧ Claims.poisonCovered bs s t ∧ Claims.settle t.wave w = w ∧
        Claims.movedOn i s t ∧ (t.coreOf w.core).acc = c.acc ∧ Claims.slotFrame false z.toNat s t ∧
        Claims.otherCores w.core s t ∧
        t = { s with
          wave := t.wave, cores := t.cores, blocks := t.blocks, mem := t.mem, lineKey := t.lineKey, poison := t.poison,
          array := t.array, parts := t.parts, spans := t.spans })

/-- R182, R183: MXZERO, MXRDZ, MXLDZ and MXSTZ: `TileMoves` and `MxstzStores`. -/
def Obligations.TilesMove : Prop :=
  Claims.TileMoves ∧ Claims.MxstzStores

/-- The K-step of an MXMMA as it waits for the matrix engine: the fragment and the line of B as they stand at its issue. That
they are read there and not when the engine takes the step up is the model's choice (log 75, DEDUCED). -/
def Sys2Proof.Claims.waveStepOf (s : State) (fmt line a z : Nat) : StepInput :=
  let k := Claims.stepSize fmt
  { wave := s.wave.id, span := s.wave.span, slot := z, fmt := fmt, first := a,
    rows := (List.range 32).map (fun i => (List.range k).map (fun p => (p, Claims.aCode s.wave (k == 32) a i p))),
    lines := [Claims.lineOf (s.coreOf s.wave.core) line], gone := false }

/-- R180, R181: MXMMA, where it acts on a slot that is ready and not poisoned, with a line in range whose tags its pairing accepts and
that is not poisoned, hands one K-step to the matrix engine, behind those that wait; a free slot becomes the context's; every
word, register and byte is unchanged. -/
def Sys2Proof.Claims.MxmmaQueuesItsStep : Prop :=
  ∀ (f : BitVec 4) (b : BitVec 5) (a z : BitVec 6) (st : BitVec 3) (s : State),
    let i : Instr := .mxmma f b a z st
    let w := s.wave
    let c := s.coreOf w.core
    let line := (w.sval b.toNat).toNat
    Claims.slotReady s z.toNat → acts i s = true → line ≤ 3071 →
    (∀ j < 32, tagAccepted f.toNat (sget c.tags (32 * line + j)).toNat = true) →
    Claims.slotSound c z.toNat → (∀ k < 64, sget c.poisonT (64 * line + k) = 0) →
    ∃ t, exec i s = .next t ∧
      (t.coreOf w.core).steps = c.steps ++ [Claims.waveStepOf s f.toNat line a.toNat z.toNat] ∧
      (∀ y, sget (t.coreOf w.core).accown y = if y = z.toNat then Claims.slotClaimed s y else sget c.accown y) ∧
      { t.coreOf w.core with steps := c.steps, accown := c.accown } = c ∧
      Claims.matrixFrame s t ∧ Claims.settle t.wave w = w ∧ Claims.movedOn i s t

/-- R181: on a core whose island runs, the matrix engine starts the first K-step of the oldest wave that has one waiting, no sooner than 8
cycles after the step before, unless a step of an MXLOOP is due: none is where no MXLOOP is at the head of its queue, or where
the step before was an MXLOOP's. -/
def Sys2Proof.Claims.EngineTakesTheOldest : Prop :=
  ∀ (s : State) (core : Nat) (x : StepInput) (before after : List StepInput),
    let c := s.coreOf core
    c.steps = before ++ x :: after → (∀ y ∈ before, x.wave < y.wave) → (∀ y ∈ after, x.wave ≤ y.wave) →
    (c.queue 0 = [] ∨ c.lastLoop = true) → coreRuns s core = true → c.stepAt ≤ s.cyc →
    ∃ t, exec (.matrixStepStart core) s = .next t ∧
      t.coreOf core = { c with
        steps := before ++ after, flight := c.flight ++ [⟨false, s.cyc, x⟩], lastLoop := false,
        stepAt := s.cyc + nanosIn s core 8 } ∧
      Claims.otherCores core s t ∧ t = { s with cores := t.cores }

/-- R181, R128 to R130, R192, R193: 32 cycles after its start the oldest K-step rounds: every word of its slot becomes the word before it
with the products of its rows and lines added, and no other word of the core changes; a K-step behind which its wave wrote the tile
adds nothing (log 101, DEDUCED). A step of an MXLOOP counts, and with the last one the MXLOOP has ended OK. -/
def Sys2Proof.Claims.StepsRound : Prop :=
  ∀ (s : State) (core : Nat) (f : Flight) (later : List Flight),
    let c := s.coreOf core
    let x := f.input
    let word (i j : Nat) := 1024 * x.slot + 32 * i + j
    c.flight = f :: later → coreRuns s core = true → f.start + nanosIn s core 32 ≤ s.cyc → Claims.stepFits x →
    ∃ t, exec (.matrixStepRound core) s = .next t ∧ (t.coreOf core).flight = later ∧
      (x.gone = false → ∀ i < 32, ∀ j < 32,
        sget (t.coreOf core).acc (word i j) = Claims.stepWord x (sget c.acc (word i j)) i j) ∧
      (x.gone = true → (t.coreOf core).acc = c.acc ∧ (t.coreOf core).checks = c.checks) ∧
      (∀ k, k < 1024 * x.slot ∨ 1024 * x.slot + 1024 ≤ k → sget (t.coreOf core).acc k = sget c.acc k) ∧
      (∀ y, y ≠ x.slot → tget (t.coreOf core).checks y = tget c.checks y) ∧
      { t.coreOf core with flight := c.flight, acc := c.acc, checks := c.checks, queues := c.queues } = c ∧
      Claims.otherCores core s t ∧ t = { s with cores := t.cores, wave := t.wave, waves := t.waves } ∧
      t.wave = { s.wave with pend := t.wave.pend } ∧
      t.waves.map (fun w => { w with pend := [] }) = s.waves.map (fun w => { w with pend := [] }) ∧
      (f.loop = true → t = { s with cores := t.cores }) ∧ (f.loop = false → (t.coreOf core).queues = c.queues) ∧
      (∀ k, f.loop = true → headCmd s core 0 = some k → k.phase = .running → k.stall = none →
        headCmd t core 0 = some { k with
          step := k.step + 1,
          phase := if k.step + 1 = k.dword 0 / 2 ^ 32 % 2 ^ 16 then .finished 0 (k.step + 1) none else .running })

/-- R185, R184: MXCHK, where it acts on a slot that is ready, not poisoned and with its K-steps rounded, writes 0 to sD where the slot's
sums agree with its prediction and 1 where it cannot tell, and rebases the checksums where bit 0 of sC is 1; the tile is
unchanged. That integer sums are compared without a test for NaN or infinity is the model's choice (log 50, DEDUCED). -/
def Sys2Proof.Claims.MxchkReports : Prop :=
  ∀ (x d : BitVec 5) (z : BitVec 6) (st : BitVec 3) (s : State),
    let i : Instr := .mxchk x d z st
    let w := s.wave
    let c := s.coreOf w.core
    Claims.slotReady s z.toNat → Claims.stepsRounded s z.toNat → acts i s = true → Claims.slotSound c z.toNat →
    (∀ column index, checkSlot c z.toNat ≠ .mismatch column index) →
    ∃ t, exec i s = .next t ∧ sget t.wave.s d.toNat = (if checkSlot c z.toNat = .agree then 0 else 1) ∧
      (∀ r, r ≠ d.toNat → sget t.wave.s r = sget w.s r) ∧
      tget (t.coreOf w.core).checks z.toNat = (if (w.sval x.toNat).getLsbD 0 then none else tget c.checks z.toNat) ∧
      (t.coreOf w.core).acc = c.acc ∧ Claims.slotFrame false z.toNat s t ∧ Claims.matrixFrame s t ∧
      { Claims.settle t.wave w with s := w.s, poisonS := w.poisonS } = w ∧ Claims.movedOn i s t

/-- R185, R273, R269, R288: MXCHK on such a slot whose sums do not agree is CHECKSUM (code 0x22): the span's error is contained, and
recorded with KIND 6 of unit 4 at the slot's first word in the die's bank; at supervisor level the span is killed and reported. -/
def Sys2Proof.Claims.ChecksumIsContained : Prop :=
  ∀ (x d : BitVec 5) (z : BitVec 6) (st : BitVec 3) (s : State) (column index : Nat) (sp : Span),
    let i : Instr := .mxchk x d z st
    let w := s.wave
    Claims.slotReady s z.toNat → Claims.stepsRounded s z.toNat → acts i s = true →
    Claims.slotSound (s.coreOf w.core) z.toNat → checkSlot (s.coreOf w.core) z.toNat = .mismatch column index →
    s.findSpan w.span = some sp → sp.phase = .live → (tget s.parts w.span.part).isSome = true →
    ∃ u, exec i s = .next u ∧
      (w.level = .supervisor → Claims.spanKilled w.span 0x22 u) ∧
      (w.level = .user → Claims.contained w.span 0x22 u ∧
        ∃ b, tget u.banks (dieOf w.core) = some b ∧
          Claims.recorded 6 4 (1024 * z.toNat) 0 w s.cyc (tgetD s.banks (dieOf w.core) Bank.empty) b)

/-- R180, R181, R184, R185, R273: MXMMA, its K-step in the matrix engine, and MXCHK: `MxmmaQueuesItsStep`, `EngineTakesTheOldest`,
`StepsRound`, `MxchkReports` and `ChecksumIsContained`. -/
def Obligations.MatrixSteps : Prop :=
  Claims.MxmmaQueuesItsStep ∧ Claims.EngineTakesTheOldest ∧ Claims.StepsRound ∧ Claims.MxchkReports ∧ Claims.ChecksumIsContained

/-- R184, R185: an integer K-step that rounds on a slot whose checksums agree, and that holds no floating-point sums, leaves checksums
that agree: fault-free integer work never raises CHECKSUM. It rests on the comparison of integer sums without a test for NaN
or infinity, which is the model's choice (log 50, DEDUCED). -/
def Obligations.IntegerStepsKeepChecksums : Prop :=
  ∀ (s t : State) (core : Nat) (f : Flight) (later : List Flight),
    let c := s.coreOf core
    let z := f.input.slot
    let kind := (tgetD c.checks z Check.rebased).kind
    c.flight = f :: later → f.input.fmt = 4 → f.input.rows.length = 32 → z < 64 → kind = .none ∨ kind = .integer → checkSlot c z = .agree →
    exec (.matrixStepRound core) s = .next t →
    checkSlot (t.coreOf core) z = .agree

/-! ### Traps of operations (R141, R180, R187, R217, R237, R262, R299, R300, R312, R314, R317, R336) -/

/-- The slot that a matrix instruction names (R180, R182, R185). -/
def Sys2Proof.Claims.slotNamed : Instr → Option Nat
  | .mxmma _ _ _ z _ => some z.toNat
  | .mxzero z _ => some z.toNat
  | .mxldz _ z _ => some z.toNat
  | .mxstz _ z _ => some z.toNat
  | .mxrdz _ _ z _ => some z.toNat
  | .mxchk _ _ z _ => some z.toNat
  | _ => none

/-- What a slot that another context owns does to the one that names it (R187, R262, R336): with BUSY = 0, BUSY is set and ACC_OWNER
(0x0C) raised, its detail the slot, its owner, the wave's own word and the core; with BUSY = 1, the wave waits. `u` is the state that the
check leaves. -/
def Sys2Proof.Claims.ownerMet (i : Instr) (z : Nat) (s u : State) : Prop :=
  let w := s.wave
  let own := sget (s.coreOf w.core).accown z
  (own.getLsbD 10 = false →
    exec i s = raise
      (trapOf i 0x0C 0 0 [z, own.toNat, 2 ^ 9 + w.span.part % 32 * 2 ^ 4 + w.span.ctx % 16, w.core])
      (u.changeCore w.core (fun c => { c with accown := sset c.accown z (own ||| 0x400#64) }))) ∧
  (own.getLsbD 10 = true → exec i s = .next (Claims.sleeping (.retryOwner z) u))

/-- R180, R181, R187, R262, R264: a matrix instruction waits for an MXLOOP on its slot, and MXRDZ, MXSTZ and MXCHK for the K-steps of
their wave; then it, or a posting MXLOOP, meets the slot's owner, which the wave consumes where it is poisoned; MXMMA of a line beyond
3,071 raises TILE_FAULT (0x0D) with cause RANGE, and of one with a tag that its pairing refuses, with cause FORMAT and the lowest such
slice. -/
def Sys2Proof.Claims.MatrixTraps : Prop :=
  (∀ (i : Instr) (z : Nat) (s : State), Claims.slotNamed i = some z → acts i s = true →
    let reader : Prop := ∃ n d b c y st, i = .mxrdz n d y st ∨ i = .mxstz b y st ∨ i = .mxchk c b y st
    let free : Prop := loopOn s s.wave.core z = false ∧ (reader → Claims.stepsRounded s z)
    (¬free → exec i s = .next (Claims.sleeping (.retryTile z) s)) ∧
    (free → ¬Claims.slotOwned s z → Claims.ownerSound s z → Claims.ownerMet i z s s) ∧
    (∀ sp, free → ¬Claims.ownerSound s z → s.findSpan s.wave.span = some sp → sp.phase = .live →
      (tget s.parts s.wave.span.part).isSome = true → ∃ u, exec i s = .next u ∧ Claims.contained s.wave.span 0x20 u)) ∧
  (∀ (i : Instr) (u e t : BitVec 5) (s : State) (l : Leaf), Claims.posting i = some (0, u, e, t) → acts i s = true →
    let va := (s.wave.sval e.toNat).toNat
    va % 64 = 0 → access s s.wave.span.part s.wave.span.ctx .load va 32 = .ok l → Claims.unpoisoned s l va 32 →
    (∀ l, translate s s.wave.span.part s.wave.span.ctx va = .ok l → Claims.loadsFreely s l) →
    let z := ((loadBytes s l va 32).getD 1 0).toNat % 64
    ¬Claims.slotOwned s z → Claims.ownerSound s z → ∃ a : Tab ArrayLine, Claims.ownerMet i z s { s with array := a }) ∧
  (∀ (f : BitVec 4) (b : BitVec 5) (a z : BitVec 6) (st : BitVec 3) (s : State),
    let i : Instr := .mxmma f b a z st
    let line := (s.wave.sval b.toNat).toNat
    let tag (j : Nat) := (sget (s.coreOf s.wave.core).tags (32 * line + j)).toNat
    acts i s = true → Claims.slotReady s z.toNat →
    (3071 < line → exec i s = raise (trapOf i 0x0D 0 0 [1, line, 0]) s) ∧
    (∀ j < 32, line ≤ 3071 → tagAccepted f.toNat (tag j) = false → (∀ k < j, tagAccepted f.toNat (tag k) = true) →
      exec i s = raise (trapOf i 0x0D 0 0 [2, line, j]) s))

/-- R141, R336: VLDS and VSTS raise, at the lowest lane of active(M) concerned, ALIGN for an offset that is not aligned and
SCRATCH_RANGE (0x06) for one that reaches past the selected block's scratchpad, or in a block that the span lacks. -/
def Sys2Proof.Claims.ScratchTraps : Prop :=
  ∀ (load : Bool) (m : BitVec 3) (w : BitVec 2) (k : BitVec 4) (o d : BitVec 6) (st : BitVec 3) (s : State) (l : Nat),
    let i : Instr := if load then .vlds m w k o d st else .vsts m w k o d st
    let mask := s.wave.active &&& s.wave.mval m.toNat
    let size := 2 ^ w.toNat
    let off (l : Nat) := (s.wave.vval o.toNat l).toNat
    let limit := match s.findBlock s.wave.span (if k.toNat = 0 then s.wave.block else k.toNat % 4) with
      | some b => if b.ended then 0 else b.size
      | none => 0
    acts i s = true → l < 64 → mask.getLsbD l = true →
    (∀ j < l, mask.getLsbD j = true → off j % size = 0 ∧ off j + size ≤ limit) →
    (off l % size ≠ 0 → exec i s = raise (trapOf i 0x02 (1#64 <<< l) 0 []) s) ∧
    (off l % size = 0 → limit < off l + size →
      exec i s = raise (trapOf i 0x06 (1#64 <<< l) 0 [k.toNat, off l]) s)

/-- R299, R312, R336: QLOCK of a lock that the wave holds and QUNLOCK of one that it does not hold raise LOCK_OWNER (0x0E) with the word's
VA; END of a wave that holds a lock raises LOCK_HELD (0x0F), and otherwise waits for its stores in the combining buffer. -/
def Sys2Proof.Claims.LockTraps : Prop :=
  (∀ (r : BitVec 5) (st : BitVec 3) (s : State) (l : Leaf),
    let va := (s.wave.sval r.toNat).toNat
    let held : Prop := ∃ k, findLock s s.wave.span.part (l.pa va) = some k ∧ k.holder = s.wave.id
    access s s.wave.span.part s.wave.span.ctx .lock va 8 = .ok l →
    let refused (i : Instr) : Prop := ∃ a : Tab ArrayLine, exec i s = raise (trapOf i 0x0E 0 va [va]) { s with array := a }
    (acts (.qlock r st) s = true → held → refused (.qlock r st)) ∧
    (acts (.qunlock r st) s = true → ¬held → refused (.qunlock r st))) ∧
  (∀ (st : BitVec 3) (s : State), acts (.endw st) s = true →
    ((∃ l ∈ s.locks, l.holder = s.wave.id) →
      ∃ l ∈ s.locks, l.holder = s.wave.id ∧ exec (.endw st) s = raise (trapOf (.endw st) 0x0F 0 l.va [l.va]) s) ∧
    ((∀ l ∈ s.locks, l.holder ≠ s.wave.id) → buffered s s.wave.span.part (waveSender s.wave.id) = true →
      exec (.endw st) s = .next (Claims.sleeping (.retryReflected true) s)))

/-- R83, R300, R317, R336: EMIT in a grid without successors, or of a successor that is not declared, raises ILLOP whatever its mask; past
EMITMAX it raises EMIT_LIMIT (0x10) with the records asked for, those emitted and EMITMAX; RECIN in a block that was not
launched for records raises ILLOP. -/
def Sys2Proof.Claims.GraphTraps : Prop :=
  ∀ (m : BitVec 3) (n d : BitVec 6) (st : BitVec 3) (s : State),
    let i : Instr := .emit m n d st
    let w := s.wave
    let k := (w.sval n.toNat).toNat
    let count := (Claims.lanesIn (w.active &&& w.mval m.toNat)).length
    (acts i s = true →
      ((∀ g, s.launchOf w.span = some g → g.graph = false ∨ 15 < k ∨ g.succ.getD k 0xFFFF = 0xFFFF) →
        exec i s = raise (trapOf i 0x01 0 0 []) s) ∧
      (∀ (g : Launch) (c : Ctx) (b : Block), s.launchOf w.span = some g → g.graph = true → k ≤ 15 →
        g.succ.getD k 0xFFFF ≠ 0xFFFF → s.findCtx w.span.part w.span.ctx = some c →
        (tget c.nodes (g.succ.getD k 0xFFFF)).isSome = true → s.findBlock w.span w.block = some b → count ≠ 0 →
        g.emitMax < b.emitted + count →
        exec i s = raise (trapOf i 0x10 0 0 [count, b.emitted, g.emitMax]) s)) ∧
    (∀ b, acts (.recin m d st) s = true → s.findBlock w.span w.block = some b → b.records = none →
      exec (.recin m d st) s = raise (trapOf (.recin m d st) 0x01 0 0 []) s)

/-- R217, R237, R336, R373: a pending refusal of a transfer record makes WFENCE, after its wait, and WAITK, before it, raise XFER_REFUSED
(0x14) with the number pending and the first one's details, and clears them. WAITK on a RATOM token sleeps until every group
has answered; then POISON_REPLY (0x16), or REMOTE_FAULT (0x15) with cause REFUSED, gives the lanes, the device and the status,
RESUME is behind the WAITK, and the outcome is consumed; a token that completed more than 256 RATOMs before is EXPIRED. -/
def Sys2Proof.Claims.OutcomeTraps : Prop :=
  (∀ (r : RefusedXfer) (rest : List RefusedXfer) (s : State), s.wave.refused = r :: rest →
    let refused (i : Instr) : Prop := exec i s = raise
      (trapOf i 0x14 0 0 [rest.length + 1, r.source + r.dest * 2 ^ 32, r.link, (r.amount % 2 ^ 64).toNat, r.reason])
      { s with wave := { s.wave with refused := [] } }
    (∀ st, acts (.wfence st) s = true → Claims.nothingInFlight s s.wave → refused (.wfence st)) ∧
    (∀ x st, acts (.waitk x st) s = true → s.wave.inWait = false → waitkIllegal s s.wave (s.wave.sval x.toNat) = false →
      refused (.waitk x st))) ∧
  (∀ (r : BitVec 5) (st : BitVec 3) (s : State) (gs : List RatomGroup),
    let i : Instr := .waitk r st
    let x := s.wave.sval r.toNat
    let seq := tokenSeq x
    let old : Prop := seq + 257 < s.wave.ratoms ∧ ∀ g ∈ gs, g.heard + 256 < s.wave.ratoms
    acts i s = true → s.wave.refused = [] → tokenQueue x = 6 → waitkIllegal s s.wave x = false →
    tget s.wave.tokens seq = some gs →
    ((∃ g ∈ gs, g.status = none) →
      exec i s = .next (Claims.sleeping (.retryToken x none) { s with wave := { s.wave with inWait := true } })) ∧
    ((∀ g ∈ gs, g.status ≠ none) →
      let reports (code : Nat) (mask : Word64) (detail : List Nat) (consumes : Bool) : Prop :=
        ∃ u : State, exec i s = raise { trapOf i code mask 0 detail with next := true } u ∧
          { u with wave := s.wave } = s ∧ { u.wave with sig := s.wave.sig, tokens := s.wave.tokens } = s.wave ∧
          tget u.wave.tokens seq = some (if consumes then gs.map (fun g => { g with status := some 0 }) else gs)
      let lanes (p : Nat → Prop) (mask : Word64) : Prop :=
        ∀ l < 64, mask.getLsbD l = true ↔ ∃ g ∈ gs, (∃ k, g.status = some k ∧ p k) ∧ g.lanes.getLsbD l = true
      (old → reports 0x15 0 [5, 0, 0, 7] false) ∧
      (¬old →
        (∀ before g after, gs = before ++ g :: after → g.status = some 3 → (∀ y ∈ before, y.status ≠ some 3) → g.lanes ≠ 0 →
          ∃ mask, lanes (· = 3) mask ∧ reports 0x16 mask [mask.toNat, g.device] true) ∧
        (∀ before g after k, gs = before ++ g :: after → (∀ y ∈ gs, y.status ≠ some 3) → g.status = some k → k ≠ 0 →
          (∀ y ∈ before, y.status = some 0) → g.lanes ≠ 0 →
          ∃ mask, lanes (· ≠ 0) mask ∧ reports 0x15 mask [5, mask.toNat, g.device, k] true))))

/-- R83, R141, R180, R181, R187, R217, R237, R262, R299, R300, R312, R317, R336, R373: traps that the operations raise: `MatrixTraps`,
`ScratchTraps`, `LockTraps`, `GraphTraps` and `OutcomeTraps`. -/
def Obligations.OperationTraps : Prop :=
  Claims.MatrixTraps ∧ Claims.ScratchTraps ∧ Claims.LockTraps ∧ Claims.GraphTraps ∧ Claims.OutcomeTraps

namespace Sys2Proof.Claims

/-! ### Conserved domains (R201 to R218, R374) -/

/-- The lanes of XFER and XFERX: amount, source and destination (R208). -/
def transferLanes (w : Wave) (mask : Word64) (b a d : Nat) : List XferLane :=
  (lanesIn mask).map (fun l => ⟨l, w.vval d l, w.vval a l, w.vval b l, false, false, false⟩)

/-- The local designators that a lane names: source and destination, or the source alone for XFERX (R207, R215). -/
def named (cross : Bool) (r : XferLane) : List Nat := if cross then [r.source.toNat] else [r.source.toNat, r.dest.toNat]

/-- The cells that some lanes name, once each: designators with bit 31 clear (R207). -/
def namedCells (cross : Bool) (lanes : List XferLane) : List Nat :=
  ((lanes.flatMap (named cross)).filter (fun x => decide (x < 2 ^ 31))).eraseDups

/-- What an act adds to a designator: minus the amounts that leave it and plus those that reach it (R209). -/
def delta (cross : Bool) (lanes : List XferLane) (x : Nat) : Int :=
  (lanes.map (fun r => (if r.source.toNat = x then -r.amount.toInt else 0) +
    (if cross = false ∧ r.dest.toNat = x then r.amount.toInt else 0))).sum

/-- The content of a cell, signed (R201). -/
def content (s : State) (l : Leaf) (va : Nat) : Int := (BitVec.ofNat 32 (loadLe s l va 4)).toInt

/-- The link that the destination of an XFERX lane names (R215). -/
def linkOf (r : XferLane) : Nat := r.dest.toNat / 2 ^ 27 % 16

/-- The payloads of the packets of a path that are not acknowledged, in order (R226, R227). -/
def onPath (s : State) (key : PathKey) : List Payload :=
  match s.fabric.outs.find? (fun o => o.key == key) with
  | some o => o.unacked.map (fun k => k.packet.payload)
  | none => []

/-- The figure of a domain that FTOTAL reads (R213): a link that is not valid reads as 0, LOCAL is what the domain holds and has
sent without an answer, and POISONED the number of its cells that are lost (R220). -/
def domainFigure (d : Domain) (kind x : Nat) : Int :=
  let link (f : Link → Int) : Int :=
    match d.links[x]? with
    | some l => if l.valid then f l else 0
    | none => 0
  match kind with
  | 0 => d.interior
  | 1 => d.bal.getD x 0
  | 2 => d.residue
  | 3 => link (fun l => l.sent)
  | 4 => link (fun l => l.acked)
  | 5 => link (fun l => l.refunded)
  | 6 => link (fun l => l.applied)
  | 7 => d.interior + d.bal.sum + d.residue + (d.links.map (fun l => l.sent - l.acked - l.refunded)).sum
  | 8 => d.ncell
  | _ => d.lost.length

/-- A partition but for its monitors and conserved domains. -/
def undomained (p : Partition) : Partition := { unwatched p with domains := [] }

/-! ### Remote access (R231, R234 to R236, R315, R316) -/

/-- The lanes of RST and RATOM: peer value, offset and operand (R235). -/
def remoteLanes (w : Wave) (mask : Word64) (vector : Bool) (p o d : Nat) : List PeerLane :=
  (lanesIn mask).map (fun l =>
    ⟨l, if vector then BitVec.ofNat 64 (w.vval p l).toNat else w.sval p, (w.vval o l).toNat, w.vval d l⟩)

/-- A lane of RST or RATOM passes the checks of R235 with a remote-access entry. -/
def peerGood (s : State) (atomic : Bool) (r : PeerLane) (e : EntryWords) : Prop :=
  let x := r.peer.toNat
  r.peer &&& ~~~0x3F3FFF#64 = 0 ∧ (atomic = false → x / 2 ^ 16 % 64 = 0) ∧
  ratEntry s s.wave.span.part (x / 2 ^ 8 % 64) = some e ∧ reachable s (x % 256) = true ∧ r.off % 4 = 0 ∧
  r.off + 4 ≤ e.w2.toNat % 2 ^ 32 ∧
  (atomic = true → ∃ l, access s s.wave.span.part s.wave.span.ctx .store
    ((e.w3.toNat + 256 * (x / 2 ^ 16 % 64) + 4 * r.lane) % 2 ^ 64) 4 = .ok l)

/-- The path of a peer value's request (R228). -/
def peerPath (part x : Nat) : PathKey := ⟨x % 256, part, 256 + x / 2 ^ 8 % 64, false⟩

end Sys2Proof.Claims

/-- R205, R206: FBIND, where it acts on a number below 2^7, unbinds XDOM where bit 6 is 1; otherwise, where the domain is SEALED and the
walk of its base meets no device register and no poison, it binds XDOM to the domain's base and number and a15 as ABIND would. -/
def Sys2Proof.Claims.FbindBinds : Prop :=
  ∀ (r : BitVec 5) (st : BitVec 3) (s : State),
    let i : Instr := .fbind r st
    let w := s.wave
    let x := (w.sval r.toNat).toNat
    let kept (t : State) : Prop :=
      { Claims.settle t.wave w with xdom := w.xdom, a := w.a, poisonA := w.poisonA, poisonC := w.poisonC } = w ∧
      (∀ k, k ≠ 15 → t.wave.areg k = w.areg k) ∧ Claims.movedOn i s t ∧
      t = { s with wave := t.wave, array := t.array } ∧ ∀ key pa, memByte t key pa = memByte s key pa
    acts i s = true →
    (64 ≤ x → x < 128 → ∃ t, exec i s = .next t ∧ t.wave.xdom = 0 ∧ t.wave.areg 15 = w.areg 15 ∧ t.array = s.array ∧ kept t) ∧
    (∀ d, x < 64 → findDomain s w.span.part x = some d →
      (∀ pa, translate s w.span.part w.span.ctx d.base ≠ .error (.device pa)) →
      (∀ pa, translate s w.span.part w.span.ctx d.base ≠ .error (.poison pa)) →
      ∃ t, exec i s = .next t ∧ t.wave.xdom = BitVec.ofNat 64 (2 ^ 63 + d.base + x) ∧
        t.wave.areg 15 = bound s w.span.part (w.areg 15) d.base (translate s w.span.part w.span.ctx d.base) ∧ kept t)

/-- R203: a seal record, by its doublewords, is in its bounds and 0 where its layout has no field. -/
def Sys2Proof.Claims.recordFits (x : Nat → Nat) : Prop :=
  let nacc := x 0 / 2 ^ 8 % 32
  x 0 / 2 ^ 6 % 4 = 0 ∧ x 0 / 2 ^ 13 = 0 ∧ nacc ≤ 16 ∧ x 1 < 2 ^ 56 ∧ x 1 % 2 ^ 15 = 0 ∧ 1 ≤ x 2 ∧ x 2 < 2 ^ 31 ∧
  (∀ j, 3 ≤ j → j < 8 → x j = 0) ∧ (∀ k < 16, nacc ≤ k → x (8 + k) = 0) ∧
  (∀ k < 16, x (24 + k) / 2 ^ 14 % 4 = 0 ∧ x (24 + k) / 2 ^ 17 = 0)

/-- R202 to R204: FBIND.SEAL, where it acts on an accessible, unpoisoned seal record whose fields are in range, for a FREE domain, and
every cell lies on a conserved page of the domain, is not marked for another domain, not poisoned and not negative, makes the
domain SEALED with the record's accounts and links and the sum of its cells, none of them lost, and marks their frames;
memory is unchanged. -/
def Sys2Proof.Claims.SealMakesDomain : Prop :=
  ∀ (r : BitVec 5) (st : BitVec 3) (s : State) (p : Partition) (leaf cell : Nat → Leaf),
    let i : Instr := .fbindSeal r st
    let w := s.wave
    let part := w.span.part
    let va := (w.sval r.toNat).toNat
    let at_ (j : Nat) := (va + 64 * j) % 2 ^ 64
    let ws := (List.range 40).map (fun k => loadLe s (leaf (k / 8)) (at_ (k / 8) + 8 * (k % 8)) 8)
    let x (k : Nat) := ws.getD k 0
    let domid := x 0 % 64
    let cellVa (c : Nat) := x 1 + 4 * c
    acts i s = true → tget s.parts part = some p → va % 64 = 0 →
    (∀ j < 5, access s part w.span.ctx .load (at_ j) 64 = .ok (leaf j) ∧ Claims.unpoisoned s (leaf j) (at_ j) 64 ∧
      Claims.loadsFreely s (leaf j)) →
    Claims.recordFits x → tget p.domains domid = none →
    (∀ c < x 2, cellLeaf s part w.span.ctx domid (cellVa c) = .ok (cell c) ∧
      (∀ m, tget s.marks ((cell c).pa (cellVa c) / 2 ^ 15) = some m → m = (part, domid)) ∧
      Claims.unpoisoned s (cell c) (cellVa c) 4 ∧ 0 ≤ Claims.content s (cell c) (cellVa c)) →
    ∃ t, exec i s = .next t ∧
      findDomain t part domid = some
        { ctx := w.span.ctx, base := x 1, ncell := x 2,
          interior := ((List.range (x 2)).map (fun c => Claims.content s (cell c) (cellVa c))).sum,
          bal := (List.range (x 0 / 2 ^ 8 % 32)).map (fun k => (BitVec.ofNat 64 (x (8 + k))).toInt), residue := 0,
          links := (List.range 16).map (fun k =>
            ⟨decide (x (24 + k) / 2 ^ 16 % 2 = 1), x (24 + k) % 256, x (24 + k) / 2 ^ 8 % 64, 0, 0, 0, 0⟩),
          homes := ((List.range (x 2)).map (fun c => (cellVa c / 2 ^ 15, cell c))).eraseDups, lost := [] } ∧
      (∀ f, tget t.marks f =
        if (List.range (x 2)).any (fun c => (cell c).pa (cellVa c) / 2 ^ 15 == f) then some (part, domid) else tget s.marks f) ∧
      (∀ k, k ≠ domid → findDomain t part k = findDomain s part k) ∧
      (∀ k, (tget t.parts k).map Claims.undomained = (tget s.parts k).map Claims.undomained) ∧
      Claims.settle t.wave w = w ∧ Claims.movedOn i s t ∧ t = { s with wave := t.wave, array := t.array, parts := t.parts, marks := t.marks }

/-- R213: FTOTAL, where it acts with a domain bound and, for a balance, an account that the domain has, writes the figure to sD alone. -/
def Sys2Proof.Claims.FtotalReads : Prop :=
  ∀ (k x : BitVec 4) (d : BitVec 5) (st : BitVec 3) (s : State) (domid : Nat) (dom : Domain),
    let i : Instr := .ftotal k x d st
    acts i s = true → boundDomain s s.wave = some (domid, dom) → (k = 1 → x.toNat < dom.bal.length) →
    ∃ t, exec i s = .next t ∧
      sget t.wave.s d.toNat = BitVec.ofInt 64 (Claims.domainFigure dom k.toNat x.toNat) ∧
      Claims.scalarFrame i d.toNat s t

/-- R202 to R206, R213: FBIND, FBIND.SEAL and FTOTAL: `FbindBinds`, `SealMakesDomain` and `FtotalReads`. That the cells which count as
POISONED are those an error has taken since the seal is read from R220 and R283 by inference (log 42). -/
def Obligations.DomainsBound : Prop :=
  Claims.FbindBinds ∧ Claims.SealMakesDomain ∧ Claims.FtotalReads

/-- R209, R210, R215, R218, R274: XFER and XFERX, where they act on a bound domain, unpoisoned operands and cells, designators in range,
links valid with a reachable peer, and every result in range, change each named cell and balance by its net amount, and
INTERIOR by the cells'; XFERX adds its amounts to SENT and sends a record for each lane whose amount is not 0. Every other
byte and register is unchanged. -/
def Obligations.XferMovesAmounts : Prop :=
  ∀ (cross : Bool) (m : BitVec 3) (b a d : BitVec 6) (st : BitVec 3) (s : State) (domid : Nat) (dom : Domain)
    (leaf : Nat → Leaf),
    let i : Instr := if cross then .xferx m b a d st else .xfer m b a d st
    let w := s.wave
    let part := w.span.part
    let mask := w.active &&& w.mval m.toNat
    let lanes := Claims.transferLanes w mask b.toNat a.toNat d.toNat
    let cells := Claims.namedCells cross lanes
    let va (c : Nat) := dom.base + 4 * c
    let word (c : Nat) := (leaf c).pa (va c)
    acts i s = true → boundDomain s w = some (domid, dom) →
    (∀ r ∈ [d.toNat, a.toNat, b.toNat], ∀ l < 64, w.badLane r l = false) →
    w.tainted (.m m.toNat) = false → (cells ≠ [] → w.tainted (.a 15) = false) →
    (∀ c ∈ cells, c < dom.ncell ∧ cellVia s w (w.areg 15) domid dom.base c = .ok (leaf c) ∧
      Claims.unpoisoned s (leaf c) (va c) 4 ∧ word c % 4 = 0 ∧ (∀ j < 4, (leaf c).pa (va c + j) = word c + j) ∧
      0 ≤ Claims.content s (leaf c) (va c) + Claims.delta cross lanes c ∧
      Claims.content s (leaf c) (va c) + Claims.delta cross lanes c < 2 ^ 31) →
    (∀ c ∈ cells, ∀ k ∈ cells, c ≠ k → word c ≠ word k ∧ (word c / 128 = word k / 128 → (leaf c).key = (leaf k).key)) →
    (∀ r ∈ lanes, ∀ x ∈ Claims.named cross r, 2 ^ 31 ≤ x → x < 2 ^ 31 + 16 ∧ x < 2 ^ 31 + dom.bal.length) →
    (∀ k < dom.bal.length, -2 ^ 63 ≤ dom.bal.getD k 0 + Claims.delta cross lanes (2 ^ 31 + k) ∧
      dom.bal.getD k 0 + Claims.delta cross lanes (2 ^ 31 + k) < 2 ^ 63) →
    (cross = true → ∀ r ∈ lanes, 0 ≤ r.amount.toInt ∧
      ∃ k, dom.links[Claims.linkOf r]? = some k ∧ k.valid = true ∧ reachable s k.peer = true) →
    ∃ t dom', exec i s = .next t ∧ findDomain t part domid = some dom' ∧
      (∀ c ∈ cells, Claims.content t (leaf c) (va c) = Claims.content s (leaf c) (va c) + Claims.delta cross lanes c) ∧
      (∀ key pa, (∀ c ∈ cells, word c / 128 = pa / 128 → (leaf c).key = key) →
        (∀ c ∈ cells, ∀ j < 4, word c + j ≠ pa) → memByte t key pa = memByte s key pa) ∧
      dom'.interior = dom.interior + (cells.map (Claims.delta cross lanes)).sum ∧
      dom'.bal = dom.bal.zipIdx.map (fun e => e.1 + Claims.delta cross lanes (2 ^ 31 + e.2)) ∧
      dom'.links = dom.links.zipIdx.map (fun e =>
        if cross then { e.1 with sent := e.1.sent +
          ((lanes.filter (fun r => Claims.linkOf r == e.2)).map (fun r => r.amount.toInt)).sum } else e.1) ∧
      { dom' with interior := dom.interior, bal := dom.bal, links := dom.links } = dom ∧
      (cross = false → t.fabric = s.fabric ∧ t.unanswered = s.unanswered) ∧ { t.fabric with outs := s.fabric.outs } = s.fabric ∧
      (∀ key, (∀ n k, dom.links[n]? = some k → key ≠ ⟨k.peer, part, 512 + 16 * domid + n, false⟩) →
        Claims.onPath t key = Claims.onPath s key) ∧
      (cross = true → ∀ k, tgetD t.unanswered k 0 = tgetD s.unanswered k 0 +
        if k = w.id then (lanes.filter (fun r => r.amount != 0)).length else 0) ∧
      (cross = true → ∀ n k, dom.links[n]? = some k →
        Claims.onPath t ⟨k.peer, part, 512 + 16 * domid + n, false⟩ =
          Claims.onPath s ⟨k.peer, part, 512 + 16 * domid + n, false⟩ ++
          (lanes.filter (fun r => Claims.linkOf r == n && r.amount != 0)).map (fun r =>
            .record (s.fabric.number.getD 0) domid n k.peerDom r.source.toNat r.dest.toNat r.amount.toInt w.id)) ∧
      t.spans = (s.changeSpan w.span (fun x => { x with replayable := false })).spans ∧
      Claims.settle t.wave w = w ∧ Claims.movedOn i s t ∧
      (∀ k, (tget t.parts k).map Claims.undomained = (tget s.parts k).map Claims.undomained) ∧
      (∀ k, k ≠ domid → findDomain t part k = findDomain s part k) ∧
      t = { s with
        wave := t.wave, mem := t.mem, lineKey := t.lineKey, array := t.array, parts := t.parts, spans := t.spans,
        fabric := t.fabric, unanswered := t.unanswered }

/-- R201, R209, R213, R217: no XFER or XFERX, however it ends, changes what its domain holds and has under way: LOCAL of R213. -/
def Obligations.TransfersConserve : Prop :=
  ∀ (cross : Bool) (m : BitVec 3) (b a d : BitVec 6) (st : BitVec 3) (s t : State) (domid : Nat) (dom : Domain),
    let i : Instr := if cross then .xferx m b a d st else .xfer m b a d st
    boundDomain s s.wave = some (domid, dom) → exec i s = .next t →
    ∃ dom', findDomain t s.wave.span.part domid = some dom' ∧ dom'.ncell = dom.ncell ∧ dom'.base = dom.base ∧
      Claims.domainFigure dom' 7 0 = Claims.domainFigure dom 7 0

/-- R211, R205: without a bound domain XFER, XFERX and FTOTAL raise DOMAIN_FAULT (0x11) with cause UNBOUND; FBIND of a number of 2^7 or
more raises it with cause 3, and FBIND of a domain that is not SEALED with cause 2. -/
def Sys2Proof.Claims.DomainFaults : Prop :=
  ∀ (s : State) (st : BitVec 3),
    (∀ (m : BitVec 3) (b a d : BitVec 6), boundDomain s s.wave = none →
      (acts (.xfer m b a d st) s = true → exec (.xfer m b a d st) s = raise (trapOf (.xfer m b a d st) 0x11 0 0 [1]) s) ∧
      (acts (.xferx m b a d st) s = true → exec (.xferx m b a d st) s = raise (trapOf (.xferx m b a d st) 0x11 0 0 [1]) s)) ∧
    (∀ (k x : BitVec 4) (d : BitVec 5), boundDomain s s.wave = none → acts (.ftotal k x d st) s = true →
      exec (.ftotal k x d st) s = raise (trapOf (.ftotal k x d st) 0x11 0 0 [1]) s) ∧
    (∀ (r : BitVec 5), acts (.fbind r st) s = true →
      let x := (s.wave.sval r.toNat).toNat
      (128 ≤ x → exec (.fbind r st) s = raise (trapOf (.fbind r st) 0x11 0 0 [3]) s) ∧
      (x < 64 → findDomain s s.wave.span.part x = none →
        exec (.fbind r st) s = raise (trapOf (.fbind r st) 0x11 0 0 [2]) s))

/-- R203, R204, R211: what FBIND.SEAL finds wrong with an aligned record, in its order: a field of the record out of place (RECORD, 3);
a domain that is SEALED (STATE, 2); the first cell that is not on a conserved page of the domain, or on a frame marked for
another (PAGES, 4, with its VA); the first that is negative (NEGATIVE, 5, with its VA). Nothing changes, but that the page tables have
been walked. That a page with an unusable key or a malformed leaf is one of PAGES is the model's choice (log 94). -/
def Sys2Proof.Claims.SealChecks : Prop :=
  ∀ (r : BitVec 5) (st : BitVec 3) (s : State) (p : Partition) (leaf cell : Nat → Leaf),
    let i : Instr := .fbindSeal r st
    let w := s.wave
    let part := w.span.part
    let va := (w.sval r.toNat).toNat
    let at_ (j : Nat) := (va + 64 * j) % 2 ^ 64
    let x (k : Nat) := loadLe s (leaf (k / 8)) (at_ (k / 8) + 8 * (k % 8)) 8
    let domid := x 0 % 64
    let cellVa (c : Nat) := x 1 + 4 * c
    let fault (cause va : Nat) : Prop := ∃ a : Tab ArrayLine, exec i s = raise (trapOf i 0x11 0 va [cause]) { s with array := a }
    let good (c : Nat) : Prop := cellLeaf s part w.span.ctx domid (cellVa c) = .ok (cell c) ∧
      ∀ m, tget s.marks ((cell c).pa (cellVa c) / 2 ^ 15) = some m → m = (part, domid)
    acts i s = true → tget s.parts part = some p → va % 64 = 0 →
    (∀ j < 5, access s part w.span.ctx .load (at_ j) 64 = .ok (leaf j) ∧ Claims.unpoisoned s (leaf j) (at_ j) 64 ∧
      Claims.loadsFreely s (leaf j)) →
    (¬Claims.recordFits x → fault 3 0) ∧
    (Claims.recordFits x → ∀ d, tget p.domains domid = some d → fault 2 0) ∧
    (Claims.recordFits x → tget p.domains domid = none → ∀ c < x 2, (∀ k < c, good k) →
      (∀ e, cellLeaf s part w.span.ctx domid (cellVa c) = .error e → (∀ pa, e ≠ .poison pa ∧ e ≠ .device pa) →
        fault 4 (cellVa c)) ∧
      (∀ l m, cellLeaf s part w.span.ctx domid (cellVa c) = .ok l →
        tget s.marks (l.pa (cellVa c) / 2 ^ 15) = some m → m ≠ (part, domid) → fault 4 (cellVa c)) ∧
      ((∀ k < x 2, good k ∧ Claims.unpoisoned s (cell k) (cellVa k) 4) → Claims.content s (cell c) (cellVa c) < 0 →
        (∀ k < c, 0 ≤ Claims.content s (cell k) (cellVa k)) → fault 5 (cellVa c)))

/-- A cell designator beyond the domain's cells (R207, R211). -/
def Sys2Proof.Claims.beyondCells (dom : Domain) (cross : Bool) (r : XferLane) (c : Nat) : Prop :=
  c ∈ Claims.named cross r ∧ c < 2 ^ 31 ∧ dom.ncell ≤ c

/-- An account designator that is bad or beyond the domain's accounts (R207, R211). -/
def Sys2Proof.Claims.badAccount (dom : Domain) (cross : Bool) (r : XferLane) : Prop :=
  ∃ x ∈ Claims.named cross r, 2 ^ 31 ≤ x ∧ ¬(x < 2 ^ 31 + 16 ∧ x < 2 ^ 31 + dom.bal.length)

/-- A link that is not valid (R211, R215). -/
def Sys2Proof.Claims.badLink (dom : Domain) (r : XferLane) : Prop :=
  ∀ k, dom.links[Claims.linkOf r]? = some k → k.valid = false

/-- R207, R209 to R211, R215, R336: XFER and XFERX on a bound domain, with unpoisoned operands and every named cell's page that of the
domain: at the lowest lane that meets one, DOMAIN_FAULT (0x11) with the first of RANGE (6, with the cell's VA), ACCOUNT (7), LINK
(8) and SIGN (9); else, on unpoisoned cells, NEG_CONTENT (0x12) where the net amounts take a cell below 0, and else FX_OVERFLOW
(0x13) where they take a cell past 2^31 - 1 or a balance out of 64 bits: with the mask of the lanes that name a failing
item, and the VA of the lowest failing cell, or the lowest failing account with bit 63 set. Nothing changes, but that the page
tables have been walked. -/
def Sys2Proof.Claims.TransferFaults : Prop :=
  ∀ (cross : Bool) (m : BitVec 3) (b a d : BitVec 6) (st : BitVec 3) (s : State) (domid : Nat) (dom : Domain)
    (leaf : Nat → Leaf),
    let i : Instr := if cross then .xferx m b a d st else .xfer m b a d st
    let w := s.wave
    let lanes := Claims.transferLanes w (w.active &&& w.mval m.toNat) b.toNat a.toNat d.toNat
    let cells := Claims.namedCells cross lanes
    let va (c : Nat) := dom.base + 4 * c
    let clean (r : XferLane) : Prop := (∀ c, ¬Claims.beyondCells dom cross r c) ∧ ¬Claims.badAccount dom cross r ∧
      (cross = true → ¬Claims.badLink dom r ∧ 0 ≤ r.amount.toInt)
    let net (c : Nat) : Int := Claims.content s (leaf c) (va c) + Claims.delta cross lanes c
    let low (c : Nat) : Prop := c ∈ cells ∧ Claims.delta cross lanes c ≠ 0 ∧ net c < 0
    let high (c : Nat) : Prop := c ∈ cells ∧ Claims.delta cross lanes c ≠ 0 ∧ 2 ^ 31 ≤ net c
    let off (k : Nat) : Prop := k < dom.bal.length ∧
      (dom.bal.getD k 0 + Claims.delta cross lanes (2 ^ 31 + k) < -2 ^ 63 ∨
        2 ^ 63 ≤ dom.bal.getD k 0 + Claims.delta cross lanes (2 ^ 31 + k))
    let least (p : Nat → Prop) (c : Nat) : Prop := p c ∧ ∀ k, p k → c ≤ k
    let naming (p : Nat → Prop) (mask : Word64) : Prop :=
      ∀ l < 64, mask.getLsbD l = true ↔ ∃ r ∈ lanes, r.lane = l ∧ ∃ x ∈ Claims.named cross r, p x
    let failing (x : Nat) : Prop := high x ∨ ∃ k, off k ∧ x = 2 ^ 31 + k
    let raises (code : Nat) (mask : Word64) (va item : Nat) : Prop :=
      ∃ x : Tab ArrayLine, exec i s = raise (trapOf i code mask va [mask.toNat, item]) { s with array := x }
    acts i s = true → boundDomain s w = some (domid, dom) →
    (∀ r ∈ [d.toNat, a.toNat, b.toNat], ∀ l < 64, w.badLane r l = false) →
    w.tainted (.m m.toNat) = false → (cells ≠ [] → w.tainted (.a 15) = false) →
    (∀ c ∈ cells, cellVia s w (w.areg 15) domid dom.base c = .ok (leaf c)) →
    (∀ before r after, lanes = before ++ r :: after → (∀ y ∈ before, clean y) →
      let fault (cause va : Nat) : Prop :=
        ∃ x : Tab ArrayLine, exec i s = raise (trapOf i 0x11 (1#64 <<< r.lane) va [cause]) { s with array := x }
      ((∃ c, Claims.beyondCells dom cross r c) → ∃ c, Claims.beyondCells dom cross r c ∧ fault 6 (va c)) ∧
      ((∀ c, ¬Claims.beyondCells dom cross r c) →
        (Claims.badAccount dom cross r → fault 7 0) ∧
        (¬Claims.badAccount dom cross r → cross = true →
          (Claims.badLink dom r → fault 8 0) ∧ (¬Claims.badLink dom r → r.amount.toInt < 0 → fault 9 0)))) ∧
    ((∀ r ∈ lanes, clean r) → (∀ c ∈ cells, Claims.unpoisoned s (leaf c) (va c) 4) → dom.bal.length ≤ 16 →
      (∀ c, least low c → ∃ mask, naming low mask ∧ raises 0x12 mask (va c) (va c)) ∧
      ((∀ c, ¬low c) →
        (∀ c, least high c → ∃ mask, naming failing mask ∧ raises 0x13 mask (va c) (va c)) ∧
        (∀ k, (∀ c, ¬high c) → least off k → ∃ mask, naming failing mask ∧ raises 0x13 mask 0 (2 ^ 63 + k))))

/-- R235, R236, R228, R274, R316: RST and RATOM, where they act and every lane of active(M) passes the checks of R235, send one request
for each distinct peer value, in ascending order, with that peer's lanes; RATOM also writes its token to s30 and waits for
every group. Memory and every other register are unchanged. -/
def Obligations.RemoteRequestsLeave : Prop :=
  ∀ (atomic : Bool) (m : BitVec 3) (rop : BitVec 2) (v : BitVec 1) (p o d : BitVec 5) (st : BitVec 3) (s : State)
    (entry : Nat → EntryWords),
    let i : Instr := if atomic then .ratom m rop v p o d st else .rst m v p o d st
    let w := s.wave
    let lanes := Claims.remoteLanes w (w.active &&& w.mval m.toNat) (v == 1) p.toNat o.toNat d.toNat
    let request (x : Nat) : Payload :=
      let e := entry (x / 2 ^ 8 % 64)
      let ls := (lanes.filter (fun r => r.peer.toNat == x)).map (fun r =>
        (⟨r.lane, (e.w1.toNat + r.off) % 2 ^ 64, r.data⟩ : RemoteLane))
      let asid := e.w0.toNat / 2 ^ 16 % 512
      if atomic then .remoteAtomic asid rop.toNat ls (2 * w.id) w.ratoms x w.span.ctx
      else .remoteStore asid ls (2 * w.id)
    acts i s = true → (∀ r ∈ lanes, Claims.peerGood s atomic r (entry (r.peer.toNat / 2 ^ 8 % 64))) →
    ∃ (t : State) (gs : List Nat), exec i s = .next t ∧
      gs.Pairwise (· < ·) ∧ (∀ x, x ∈ gs ↔ ∃ r ∈ lanes, r.peer.toNat = x) ∧
      (∀ key, Claims.onPath t key =
        Claims.onPath s key ++ (gs.filter (fun x => Claims.peerPath w.span.part x == key)).map request) ∧
      (∀ r, sget t.wave.s r = if atomic = true ∧ r = 30 then Claims.tokenWord w.core 6 w.ratoms else sget w.s r) ∧
      t.wave.ratoms = w.ratoms + (if atomic then 1 else 0) ∧
      (atomic = true → tget t.wave.tokens w.ratoms = some (gs.map (fun x =>
        ⟨x, x % 256, maskOf ((lanes.filter (fun r => r.peer.toNat == x)).map (fun r => r.lane)), none, 0⟩))) ∧
      (∀ k, atomic = false ∨ k ≠ w.ratoms → tget t.wave.tokens k = tget w.tokens k) ∧
      { Claims.settle t.wave w with s := w.s, poisonS := w.poisonS, ratoms := w.ratoms, tokens := w.tokens } = w ∧
      Claims.movedOn i s t ∧
      t.spans = (s.changeSpan w.span (fun x => { x with replayable := false })).spans ∧
      t = { s with wave := t.wave, array := t.array, spans := t.spans, fabric := t.fabric, quads := t.quads } ∧
      ∀ key pa, memByte t key pa = memByte s key pa

/-- R235, R316, R336: the lowest lane of an RST or RATOM that fails a check raises its trap and nothing is sent: REMOTE_FAULT (0x15) with
cause PEER (1) for a peer value with a bit outside its fields, or a reply slot in an RST, ENTRY (2) for an entry that is not valid,
DEVICE (3) for a device that cannot be reached, RANGE (4) for an offset past the entry's size, and before that ALIGN
for one that is not a multiple of 4. -/
def Sys2Proof.Claims.RemoteFaultsTrap : Prop :=
  ∀ (m : BitVec 3) (rop : BitVec 2) (v : BitVec 1) (p o d : BitVec 5) (st : BitVec 3) (s : State) (atomic : Bool)
    (before after : List PeerLane) (r : PeerLane) (entry : Nat → EntryWords),
    let i : Instr := if atomic then .ratom m rop v p o d st else .rst m v p o d st
    let w := s.wave
    let x := r.peer.toNat
    let fault (cause device : Nat) : Prop := ∃ a : Tab ArrayLine,
      exec i s = raise (trapOf i 0x15 (1#64 <<< r.lane) 0 [cause, r.lane, device, 0]) { s with array := a }
    acts i s = true →
    Claims.remoteLanes w (w.active &&& w.mval m.toNat) (v == 1) p.toNat o.toNat d.toNat = before ++ r :: after →
    (∀ y ∈ before, Claims.peerGood s atomic y (entry (y.peer.toNat / 2 ^ 8 % 64))) →
    (r.peer &&& ~~~0x3F3FFF#64 ≠ 0 ∨ (atomic = false ∧ x / 2 ^ 16 % 64 ≠ 0) →
      fault 1 0) ∧
    (r.peer &&& ~~~0x3F3FFF#64 = 0 → (atomic = false → x / 2 ^ 16 % 64 = 0) →
      (ratEntry s w.span.part (x / 2 ^ 8 % 64) = none → fault 2 (x % 256)) ∧
      (∀ e, ratEntry s w.span.part (x / 2 ^ 8 % 64) = some e →
        (reachable s (x % 256) = false → fault 3 (x % 256)) ∧
        (reachable s (x % 256) = true → r.off % 4 ≠ 0 →
          ∃ y : Trap, exec i s = raise y s ∧ y.code = 0x02 ∧ y.lanes = 1#64 <<< r.lane ∧ y.next = false ∧
            y.va.toNat = (e.w1.toNat + r.off) % 2 ^ 64) ∧
        (reachable s (x % 256) = true → r.off % 4 = 0 → e.w2.toNat % 2 ^ 32 < r.off + 4 →
          fault 4 (x % 256))))

/-- R203 to R205, R207, R209 to R211, R215, R235, R316, R336: DOMAIN_FAULT, NEG_CONTENT, FX_OVERFLOW and REMOTE_FAULT: `DomainFaults`,
`SealChecks`, `TransferFaults` and `RemoteFaultsTrap`. -/
def Obligations.DomainAndRemoteFaults : Prop :=
  Claims.DomainFaults ∧ Claims.SealChecks ∧ Claims.TransferFaults ∧ Claims.RemoteFaultsTrap

/-! ### Events: resets, boot, islands and the host window -/

/-- What a reset leaves wherever it comes from: nothing placed, no owner, islands and semaphores at reset, the window's and
the domain's registers at their reset values. That the fuses, retirements, memory and the world outside stand is the model's
choice (log 2). -/
def Sys2Proof.Claims.restartedFrom (s t : State) : Prop :=
  t.wave = Wave.vacant ∧ t.waves = [] ∧ t.blocks = [] ∧ t.spans = [] ∧ t.cores = [] ∧ t.parts = [] ∧ t.keys = [] ∧
  t.locks = [] ∧ t.lockQ = [] ∧ t.marks = [] ∧ t.admin = [] ∧ t.adminQueue = [] ∧ t.adminBusy = false ∧
  (∀ i, (islandAt t i).state = .idle) ∧ (∀ n, sget t.host.sem n = 0) ∧ t.host.semerr = 0 ∧ t.host.failed = false ∧
  t.fabric = State.reset.fabric ∧ t.power = State.reset.power ∧ t.receipts = [] ∧ t.cyc = 0 ∧
  t.boot.stage = 0 ∧ t.boot.err = 0 ∧ t.boot.attempt = 0 ∧ t.boot.rollback = s.boot.rollback ∧
  t.boot.mlHash = s.boot.mlHash ∧ t.boot.ecHash = s.boot.ecHash ∧ t.boot.serial = s.boot.serial ∧ t.fused = s.fused ∧
  t.retCores = s.retCores ∧ t.retRows = s.retRows ∧ t.retBanks = s.retBanks ∧ t.mem = s.mem ∧ t.hostMem = s.hostMem

/-- R31, R32: a cold reset clears everything, the error banks with it, and CYC restarts at 0; a warm reset, by firmware or by
RSTCTL with KEY 0xA5C3 and WARM, does the same but keeps the banks; a write with another KEY, or one within a warm reset, is
discarded. -/
def Sys2Proof.Claims.DeviceResets : Prop :=
  ∀ (s : State) (port : Nat) (value : BitVec 32),
    (∃ t, exec .coldReset s = .next t ∧ Claims.restartedFrom s t ∧ t.banks = [] ∧ t.boot.warm = false) ∧
    (s.boot.warm = false → s.host.failed = false →
      ∃ t, exec .firmwareWarmReset s = .next t ∧ Claims.restartedFrom s t ∧ t.banks = s.banks ∧ t.boot.warm = true ∧
        (value.toNat / 2 ^ 16 = 0xA5C3 → value.toNat % 2 = 1 → exec (.rstctlWarm port value) s = .next t)) ∧
    (value.toNat / 2 ^ 16 ≠ 0xA5C3 ∨ value.toNat % 2 = 0 ∨ s.boot.warm = true → exec (.rstctlWarm port value) s = .next s)

/-- R18, R23, R31, R248: a port's reset frees the semaphores that it holds, with ABAND on each, drops the commands queued through it and the
completions not delivered of its commands, the OVERFLOW event following where that empties a ring with a figure that is not 0, and
leaves the other port's, the partitions' contexts but for the completions of their commands, the waves and memory; when its link is
up again the port's interface resumes. That the commands not accepted yet are dropped is the model's choice (log 58). -/
def Sys2Proof.Claims.PortResets : Prop :=
  ∀ (s : State) (port : Nat), port < 2 → s.host.portUp.length = 2 →
    (∃ t, exec (.portReset port) s = .next t ∧
      (∀ n, sget t.host.sem n =
        (let x := sget s.host.sem n
         if x.toNat % 2 = 1 ∧ x.toNat / 2 % 4 = port + 1 then 0x10#32 else x)) ∧
      (∀ k, t.host.portUp.getD k false = if k = port then false else s.host.portUp.getD k false) ∧
      t.wave = s.wave ∧ t.waves = s.waves ∧ t.blocks = s.blocks ∧ t.spans = s.spans ∧ t.cores = s.cores ∧ t.mem = s.mem ∧
      t.cyc = s.cyc ∧ t.fabric = s.fabric ∧ t.banks = s.banks ∧ t.host.semerr = s.host.semerr ∧
      (∀ p ctx, t.findCtx p ctx = (s.findCtx p ctx).map (fun c =>
        { c with waiting := c.waiting.map (fun h => { h with mute := h.mute || h.cmd.port == port }) })) ∧
      (∀ p, let q := partAt s p
        let kept := (q.held ++ q.ring).filter (fun r => r.event || r.port != port)
        (partAt t p).queue0 = q.queue0.filter (fun c => c.port != port) ∧ (partAt t p).delivered = q.delivered ∧
        ((partAt t p).held ++ (partAt t p).ring = kept ∨
          ∃ r, r.event = true ∧ r.code = 7 ∧ r.detail = [q.declined, q.unlogged] ∧ (partAt t p).ring = [] ∧
            (partAt t p).held = kept ++ [r]))) ∧
    (∃ t, exec (.hostLinkUp port) s = .next t ∧ t.host.portUp.getD port false = true ∧
      t = { s with host := { s.host with portUp := t.host.portUp } })

/-- R17, R246, R259: a function level reset of a virtual function empties its queues. In a partition with an owner, which stays, it
starts a scrub with reason 3 where no context is open, and otherwise every context goes the way of a CTX_CLOSE. A status of 0
written to the common configuration empties queue 0 and the posted buffers, and a number of a queue selects it; that
configuration is virtio's own (log 21, PRESUMED). -/
def Sys2Proof.Claims.FunctionResets : Prop :=
  ∀ (s : State) (p : Nat), p < 32 →
    (∃ t, exec (.functionLevelReset p) s = .next t ∧ (partAt t p).owner = (partAt s p).owner ∧ (partAt t p).queue0 = [] ∧
      (partAt t p).buffers = 0 ∧ (partAt t p).held = [] ∧ (partAt t p).ring = [] ∧
      ((partAt s p).owner ≠ none → (partAt s p).ctxs = [] →
        ∃ x, (partAt t p).scrubs.getLast? = some x ∧ x.reason = 3 ∧ x.cbase = (partAt s p).cbase ∧
          x.climit = (partAt s p).climit ∧ x.cset = (partAt s p).cset) ∧
      ((partAt s p).owner ≠ none → ∀ n c, t.findCtx p n = some c →
        (c.leaving = some .close ∨ c.closing ≠ none) ∧ c.waiting = [])) ∧
    (∀ (port n : Nat), frontLive s = true → s.host.portUp.getD port false = true →
      (∃ t, exec (.virtioCommonConfigWrite port p .deviceStatus 0) s = .next t ∧ (partAt t p).queue0 = [] ∧
        (partAt t p).buffers = 0 ∧ (partAt t p).ctxs = (partAt s p).ctxs) ∧
      (n < 2 → ∃ t, exec (.virtioCommonConfigWrite port p .queueSelect (BitVec.ofNat 64 n)) s = .next t ∧
        (partAt t p).virtio.queueSel = n ∧ (partAt t p).virtio.port = port ∧ (partAt t p).queue0 = (partAt s p).queue0))

/-- R18, R23, R31, R32, R246, R259: resets of the device, a port and a virtual function: `DeviceResets`, `PortResets` and
`FunctionResets`. -/
def Obligations.ResetsLeave : Prop := Claims.DeviceResets ∧ Claims.PortResets ∧ Claims.FunctionResets

/-- The ROM runs at a stage of R26: it is not halted and does not wait its 30 s (R27). -/
def Sys2Proof.Claims.romAt (s : State) (stage : Nat) : Prop :=
  s.boot.stage = stage ∧ s.boot.halted = false ∧ s.boot.waiting = false

/-- R27: an attempt that ends with an error goes on with the next port's link, or, after port 7, counts the attempt, up to 255, and
waits. Only the ROM's own state differs. -/
def Sys2Proof.Claims.attemptEnds (err : Nat) (s t : State) : Prop :=
  t.boot.err = err ∧ t = { s with boot := t.boot } ∧ t.boot.rollback = s.boot.rollback ∧
  (s.boot.port < 7 → t.boot.port = s.boot.port + 1 ∧ Claims.romAt t 3 ∧ t.boot.attempt = s.boot.attempt) ∧
  (s.boot.port = 7 → t.boot.waiting = true ∧
    t.boot.attempt = if s.boot.attempt < 255 then s.boot.attempt + 1 else 255)

/-- R26 to R28, R33: the stages of the boot ROM up to the transfer, each with its error, and firmware's start. A tsize over the limit is
refused with 0x05, and a block size that the ROM does not accept with 0x04: those codes are the model's (log 55, DEDUCED). -/
def Sys2Proof.Claims.RomStages : Prop :=
  ∀ (s : State) (block : List Byte) (tsize blksize : Option Nat) (n size : Nat) (fw : Firmware),
    (Claims.romAt s 0 →
      (∃ t, exec (.bootRomStart true) s = .next t ∧ Claims.romAt t 3 ∧ t.mem = [] ∧ t.poison = [] ∧
        t.boot.port = s.boot.port ∧ t.waves = s.waves) ∧
      (∃ t, exec (.bootRomStart false) s = .next t ∧ t.boot.stage = 1 ∧ t.boot.err = 0x0B ∧ t.boot.halted = true ∧
        t = { s with boot := t.boot })) ∧
    (Claims.romAt s 3 →
      (∃ t, exec .bootLinkUp s = .next t ∧ Claims.romAt t 4 ∧ t.boot.port = s.boot.port ∧ t = { s with boot := t.boot }) ∧
      (∃ t, exec .bootLinkTimeout s = .next t ∧ Claims.attemptEnds 0x01 s t)) ∧
    (Claims.romAt s 4 →
      (∃ t, exec (.bootDhcpReply true) s = .next t ∧ Claims.romAt t 5 ∧ t = { s with boot := t.boot }) ∧
      (∃ t, exec (.bootDhcpReply false) s = .next t ∧ Claims.attemptEnds 0x03 s t) ∧
      (∃ t, exec .bootDhcpTimeout s = .next t ∧ Claims.attemptEnds 0x02 s t)) ∧
    (Claims.romAt s 5 →
      (∃ t, exec .bootTftpError s = .next t ∧ Claims.attemptEnds 0x04 s t) ∧
      (s.boot.blksize = 0 →
        (2 ^ 26 + 7539 < n → tsize = some n →
          ∃ t, exec (.bootTftpData tsize blksize block) s = .next t ∧ Claims.attemptEnds 0x05 s t) ∧
        ((∀ m, tsize = some m → m ≤ 2 ^ 26 + 7539) →
          (blksize = some n → n < 512 ∨ 8192 < n →
            ∃ t, exec (.bootTftpData tsize blksize block) s = .next t ∧ Claims.attemptEnds 0x04 s t) ∧
          (size = blksize.getD 512 → 512 ≤ size → size ≤ 8192 → block.length = size →
            ∃ t, exec (.bootTftpData tsize blksize block) s = .next t ∧ Claims.romAt t 5 ∧ t.boot.blksize = size ∧
              t.boot.image = s.boot.image ++ block ∧ t = { s with boot := t.boot }))) ∧
      (s.boot.blksize ≠ 0 → block.length = s.boot.blksize →
        ∃ t, exec (.bootTftpData tsize blksize block) s = .next t ∧
          t = { s with boot := { s.boot with image := s.boot.image ++ block } })) ∧
    (s.boot.waiting = true →
      ∃ t, exec .bootRetryWaitExpiry s = .next t ∧ t.boot.waiting = false ∧ t.boot.port = 0 ∧ t.boot.stage = 3 ∧
        t.boot.attempt = s.boot.attempt ∧ t = { s with boot := t.boot }) ∧
    (Claims.romAt s 7 → 10000 ≤ fw.preemptTimeout → fw.preemptTimeout ≤ 10000000 → fw.relaunchLimit ≤ 15 →
      fw.powerCap ≤ 3000000 →
      ∃ t, exec (.firmwareReady fw) s = .next t ∧ Claims.romAt t 8 ∧ t.boot.warm = false ∧ t.fw = fw ∧
        t = { s with boot := t.boot, fw := fw })

/-- R29, R30: the block that ends the transfer starts the checks of the image: an oversize payload, a malformed header, a key that is not
the fuses', an SVN below the rollback counter, and either signature that does not verify end the attempt with 0x05 to 0x0A; an
image that passes them all is accepted: the payload is in management SRAM, the rollback counter is advanced, and STAGE is 0x07.
That the first of several faults in the order of their codes gives the code is the model's choice (log 55, DEDUCED). -/
def Sys2Proof.Claims.ImagesAreChecked : Prop :=
  ∀ (s : State) (tsize blksize : Option Nat) (block : List Byte),
    let image := s.boot.image ++ block
    let part (pos n : Nat) : List Byte := (image.drop pos).take n
    let f (pos n : Nat) : Nat := leValue (part pos n)
    let len := f 0x10 8
    let mlKey := part 0x40 2592
    let ecKey := part 0x0A60 96
    let signed := image.take (0x0B00 + len)
    let formed : Prop := f 0 4 = 0x57514854 ∧ f 4 4 = 1 ∧ f 0x0C 4 = 0 ∧ 0 < len ∧ f 0x18 8 < len ∧ f 0x20 32 = 0 ∧
      f 0x0AC0 64 = 0 ∧ image.length = 0x0B00 + len + 4627 + 96
    let keys : Prop := Config.sha384 mlKey = s.boot.mlHash ∧ Config.sha384 ecKey = s.boot.ecHash
    let ml := Config.mlDsaVerifies mlKey signed (part (0x0B00 + len) 4627)
    let ec := Config.ecdsaVerifies ecKey signed (part (0x0B00 + len + 4627) 96)
    let ends (err : Nat) : Prop := ∃ t, exec (.bootTftpData tsize blksize block) s = .next t ∧ Claims.attemptEnds err s t
    Claims.romAt s 5 → block.length < s.boot.blksize →
    (2 ^ 26 < len → ends 0x05) ∧
    (len ≤ 2 ^ 26 → ¬ formed → ends 0x06) ∧
    (len ≤ 2 ^ 26 → formed →
      (¬ keys → ends 0x07) ∧
      (keys → f 8 4 < s.boot.rollback → ends 0x08) ∧
      (keys → s.boot.rollback ≤ f 8 4 →
        (ml = false → ends 0x09) ∧
        (ml = true → ec = false → ends 0x0A) ∧
        (ml = true → ec = true →
          ∃ t, exec (.bootTftpData tsize blksize block) s = .next t ∧ Claims.romAt t 7 ∧ t.boot.rollback = f 8 4 ∧
            t.boot.sramCopy = part 0x0B00 len ∧ t.boot.attempt = s.boot.attempt ∧ t = { s with boot := t.boot })))

/-- R26 to R30, R33: the boot ROM from its start to firmware: `RomStages` and `ImagesAreChecked`. -/
def Obligations.BootRomProceeds : Prop := Claims.RomStages ∧ Claims.ImagesAreChecked

/-- What an island's event changes: that island alone, and nothing outside the islands. -/
def Sys2Proof.Claims.islandOnly (i : Nat) (s t : State) : Prop :=
  (∀ j, j ≠ i → islandAt t j = islandAt s j) ∧ t = { s with islands := t.islands }

/-- R15: the limiter may gate an island: ACTIVE, at point 0, and not gated within the last 4 us. -/
def Sys2Proof.Claims.mayGate (s : State) (i : Nat) : Prop :=
  (islandAt s i).state = .active ∧ (islandAt s i).point = 0 ∧ ∀ x, (islandAt s i).gatedAt = some x → x + 4000 ≤ s.cyc

/-- Of the islands that a test names, the turn to be gated comes to island `i`: the first that may be gated behind the one gated
last, in rising order and round again (R15). `turn` is the number behind that island's, 0 after reset: the model's choice (log 1). -/
def Sys2Proof.Claims.gatedNext (s : State) (p : Nat → Prop) (i : Nat) : Prop :=
  p i ∧ Claims.mayGate s i ∧ ∀ j, p j → Claims.mayGate s j → j ≠ i →
    if s.power.turn ≤ i then j < s.power.turn ∨ i < j else j < s.power.turn ∧ i < j

/-- R14, R15, R16: an operating point one lower for the islands of a die or of the device, that are ACTIVE and above point
0, and the die's next island at point 0 gated; a requested point, of which a rise is overridden while the islands are lowered, for
heat the 10 us after a lowering (log 56); and the trip, which turns every island OFF, loses what is resident on them, and fails both
links. -/
def Sys2Proof.Claims.PointsChange : Prop :=
  ∀ (s : State) (die i point : Nat),
    let ofDie (j : Nat) : Prop := 8 * die ≤ j ∧ j < 8 * die + 8
    let lower (x : Island) : Nat := if x.state = .active then x.point - 1 else x.point
    (∃ t, exec (.thermalThrottle die) s = .next t ∧ t = { s with islands := t.islands, power := t.power } ∧
      (∀ j, ¬ ofDie j → islandAt t j = islandAt s j) ∧
      (∀ j, ofDie j → islandAt t j =
        { islandAt s j with point := lower (islandAt s j), gatedAt := (islandAt t j).gatedAt }) ∧
      tget t.power.hot die = some s.cyc ∧ (∀ k, k ≠ die → tget t.power.hot k = tget s.power.hot k) ∧
      (∀ j, Claims.gatedNext s ofDie j →
        (islandAt t j).gatedAt = some s.cyc ∧ t.power = { s.power with turn := j + 1, hot := t.power.hot }) ∧
      (∀ j, ¬ Claims.gatedNext s ofDie j → (islandAt t j).gatedAt = (islandAt s j).gatedAt) ∧
      ((∀ j, ¬ Claims.gatedNext s ofDie j) → t.power = { s.power with hot := t.power.hot })) ∧
    (s.power.above = true → ∃ t, exec .powerStepDown s = .next t ∧ t = { s with islands := t.islands } ∧
      ∀ j, islandAt t j = if j < 64 then { islandAt s j with point := lower (islandAt s j) } else islandAt s j) ∧
    (∃ t, exec .thermalTrip s = .next t ∧ t.host = { s.host with failed := true } ∧ t.cores = [] ∧
      (∀ j < 64, (islandAt t j).state = .off ∧ (islandAt t j).waking = false) ∧ (∀ w ∈ t.allWaves, w.resident = false) ∧
      (∀ b, b ∈ t.blocks ↔ b ∈ s.blocks ∧
        ¬ (b.ended = false ∧ ∃ x, s.findSpan b.span = some x ∧ x.phase = .live)) ∧
      t = { s with
        islands := t.islands, host := t.host, cores := t.cores, blocks := t.blocks, wave := t.wave, waves := t.waves }) ∧
    (let lowered : Prop := s.power.above = true ∨ ∃ x, tget s.power.hot (i / 8) = some x ∧ s.cyc ≤ x + 10000
     (point ≤ 15 → lowered → (islandAt s i).point < point → exec (.operatingPointChange i point) s = .next s) ∧
     (point ≤ 15 → ¬ lowered ∨ point ≤ (islandAt s i).point →
      ∃ t, exec (.operatingPointChange i point) s = .next t ∧ Claims.islandOnly i s t ∧
        islandAt t i = { islandAt s i with point := point }))

/-- R15: the cap that firmware has set bounds the average of the last 100 us; above it, the island whose turn it is of those at
point 0 is gated, while a gating that has begun goes on as it stands. That the sum of fewer than 100 samples is
divided by 100 as well is the model's choice (log 56, DEDUCED). -/
def Sys2Proof.Claims.PowerIsCapped : Prop :=
  ∀ (s : State) (i x : Nat),
    (∃ t, exec (.powerSample x) s = .next t ∧ t = { s with power := t.power } ∧
      t.power.turn = s.power.turn ∧ t.power.hot = s.power.hot ∧ (s.power.samples.length ≤ 100 → t.power.samples.length ≤ 100) ∧
      (t.power.above = true ↔ 100 * s.fw.powerCap < t.power.samples.sum) ∧
      (s.power.samples.length < 100 → t.power.samples = s.power.samples ++ [x])) ∧
    (s.power.above = true → Claims.gatedNext s (fun j => j < 64) i →
      ∃ t, exec (.powerClockGate i) s = .next t ∧ Claims.islandOnly i { s with power := t.power } t ∧
        islandAt t i = { islandAt s i with gatedAt := some s.cyc } ∧ t.power = { s.power with turn := i + 1 })

/-- R13: an island without a bound block goes OFF and loses what its cores held, accumulator slots that a saved block has left there
included (log 56); a bind record that names a core of one that
is not ACTIVE starts its wake (of one that is IDLE too: the model's choice, log 56); it then reports ACTIVE. -/
def Sys2Proof.Claims.IslandsChangeState : Prop :=
  ∀ (s : State) (i : Nat),
    ((∀ b ∈ s.blocks, islandOf b.core = i → b.ended = true ∨ ∀ x, s.findSpan b.span = some x → x.phase ≠ .live) →
      ∃ t, exec (.islandOff i) s = .next t ∧ (islandAt t i).state = .off ∧ (∀ j, j ≠ i → islandAt t j = islandAt s j) ∧
        (∀ c, tget t.cores c = if islandOf c = i then none else tget s.cores c) ∧
        t = { s with islands := t.islands, cores := t.cores }) ∧
    (∀ (part : Nat) (q : Partition) (slot : Nat) (r : BindWords),
      (part, q) ∈ s.parts → (slot, r) ∈ q.slots → r.w0.getLsbD 0 = true → islandOf (r.w0.toNat / 2 % 512) = i →
      (islandAt s i).state ≠ .active → s.host.failed = false →
      ∃ t, exec (.islandWake i) s = .next t ∧ Claims.islandOnly i s t ∧ islandAt t i = { islandAt s i with waking := true }) ∧
    ((islandAt s i).waking = true →
      ∃ t, exec (.islandActive i) s = .next t ∧ (islandAt t i).state = .active ∧ (islandAt t i).waking = false ∧
        (∀ j, j ≠ i → islandAt t j = islandAt s j) ∧
        (∀ c, tget t.cores c = if islandOf c = i ∧ (islandAt s i).state = .off then none else tget s.cores c) ∧
        t = { s with islands := t.islands, cores := t.cores })

/-- R13 to R16: islands and power: `PointsChange`, `PowerIsCapped` and `IslandsChangeState`. -/
def Obligations.IslandsFollowTheirEvents : Prop :=
  Claims.PointsChange ∧ Claims.PowerIsCapped ∧ Claims.IslandsChangeState

/-- R20, R21, R24: one requester alone reads or writes a semaphore: a free one is acquired and GOT returned, a held one is
read as it stands; its owner's write with bit 0 clear frees it; another's write changes nothing but ABAND, and sets its
bit in SEMERR. -/
def Sys2Proof.Claims.SemaphoresServe : Prop :=
  ∀ (s : State) (who : Requester) (n : Nat) (value : BitVec 32), n < 16 →
    (semOrder s n).count who = 1 →
    let code : Nat := match who with | .port0 => 1 | .port1 => 2 | .management => 3
    let x := sget s.host.sem n
    let others (t : State) : Prop := (∀ k, k ≠ n → sget t.host.sem k = sget s.host.sem k) ∧ t = { s with host := t.host }
    (∃ t, exec (.semRead [who] [] n) s = .next t ∧ others t ∧ t.host.semerr = s.host.semerr ∧
      (x.toNat % 2 = 1 → sget t.host.sem n = x ∧ tget t.host.readData (code - 1) = some x) ∧
      (x.toNat % 2 = 0 → (sget t.host.sem n).toNat % 2 = 1 ∧ (sget t.host.sem n).toNat / 2 % 4 = code ∧
        tget t.host.readData (code - 1) = some (sget t.host.sem n ||| 8#32))) ∧
    (∃ t, exec (.semWrite [(who, value)] [] n) s = .next t ∧ others t ∧
      (x.toNat % 2 = 1 → x.toNat / 2 % 4 = code →
        t.host.semerr = s.host.semerr ∧
        (value.toNat % 2 = 0 → sget t.host.sem n = x &&& ~~~value &&& 0x10#32) ∧
        (value.toNat % 2 = 1 → (sget t.host.sem n).toNat / 2 ^ 16 = value.toNat / 2 ^ 16 ∧
          (sget t.host.sem n).toNat % 8 = x.toNat % 8)) ∧
      (x.toNat % 2 = 0 ∨ x.toNat / 2 % 4 ≠ code →
        sget t.host.sem n = x &&& ~~~(value &&& 0x10#32) ∧ t.host.semerr = s.host.semerr ||| (1#32 <<< (code - 1))))

/-- R22: a read and a write of two requesters that reach a semaphore in one cycle are served one after the other in its order, and the
one served first then has the lowest priority. -/
def Sys2Proof.Claims.SemaphoresRotate : Prop :=
  ∀ (s : State) (a b : Requester) (value : BitVec 32) (n : Nat) (before between after : List Requester), n < 16 →
    semOrder s n = before ++ a :: between ++ b :: after → (semOrder s n).Nodup →
    (∃ u v t, exec (.semRead [a] [] n) s = .next u ∧ exec (.semWrite [(b, value)] [] n) u = .next v ∧
      exec (.semRead [a] [(b, value)] n) s = .next t ∧ exec (.semWrite [(b, value)] [a] n) s = .next t ∧
      semOrder t n = before ++ between ++ b :: after ++ [a] ∧ t = { v with host := { v.host with order := t.host.order } }) ∧
    (∃ u v t, exec (.semWrite [(a, value)] [] n) s = .next u ∧ exec (.semRead [b] [] n) u = .next v ∧
      exec (.semWrite [(a, value)] [b] n) s = .next t ∧
      semOrder t n = before ++ between ++ b :: after ++ [a] ∧ t = { v with host := { v.host with order := t.host.order } })

/-- R19, R24, R269: writing 1 to V of ERRSTAT clears the bank, once the window is live, through its own event or as the register at
0x2000 + 0x40 x bank; SEMERR clears the bits written as 1; a write elsewhere in the window is discarded. RSTCTL at 0x0010 (R32) and
SEM0 to SEM15 from 0x1000 on (R21) are no part of this: writes to them are events of their own, rstctlWarm and semWrite (log 102). -/
def Sys2Proof.Claims.WindowWrites : Prop :=
  ∀ (s : State) (port bank offset : Nat) (value : Word64),
    (value.getLsbD 63 = true → 8 ≤ s.boot.stage →
      ∃ t, exec (.errstatClear bank value) s = .next t ∧ tgetD t.banks bank Bank.empty = Bank.empty ∧
        (∀ k, k ≠ bank → tget t.banks k = tget s.banks k) ∧ t = { s with banks := t.banks } ∧
        (bank < 22 → exec (.registerWrite port .window (0x2000 + 0x40 * bank) value) s = .next t)) ∧
    (∃ t, exec (.registerWrite port .window 0x1080 value) s = .next t ∧
      t.host.semerr = s.host.semerr &&& ~~~(BitVec.ofNat 32 value.toNat) ∧
      t = { s with host := { s.host with semerr := t.host.semerr } }) ∧
    (offset ≠ 0x1080 → offset ≠ 0x0010 → ¬(0x1000 ≤ offset ∧ offset < 0x1040) →
      (∀ k < 22, offset ≠ 0x2000 + 0x40 * k) → exec (.registerWrite port .window offset value) s = .next s)

/-- What the record of an error that nothing has consumed leaves in its bank (R267, R269): a corrected one counts, and takes an empty
bank; an uncorrectable one makes a record where the bank holds none of its kind, and otherwise sets OVF and counts. -/
def Sys2Proof.Claims.noted (corrected : Bool) (kind addr cyc : Nat) (loc : ErrLoc) (b c : Bank) : Prop :=
  let fresh : Prop := c.valid = true ∧ c.uc = !corrected ∧ c.kind = kind ∧ c.addr = addr ∧ c.loc = loc ∧ c.cyc = cyc ∧ c.lanes = 0
  if corrected then
    c.cecnt = (if b.cecnt < 65535 then b.cecnt + 1 else 65535) ∧
    (b.valid = true → c = { b with cecnt := c.cecnt }) ∧ (b.valid = false → fresh)
  else
    (b.valid = true → b.uc = true → c = { b with ovf := true, uecnt := if b.uecnt < 255 then b.uecnt + 1 else 255 }) ∧
    (b.valid = false ∨ b.uc = false → fresh ∧ c.cecnt = b.cecnt)

/-- R267, R269, R271, R272: an error outside the arrays or in a sector of HBM or of the bank array is recorded in the bank that detects
it, with no consumer in ERRLOC; an uncorrectable one poisons its sector, and where what reads the sector meets it makes no record
itself. The patrol finds either in HBM; that it leaves a sector already poisoned as it stands, OVF and UECNT with it, is the model's
choice (log 64, DEDUCED). -/
def Sys2Proof.Claims.ErrorsAreRecorded : Prop :=
  ∀ (s : State) (bank pa addr : Nat) (loc : ErrLoc), bank < 22 → pa < 0x9000000000 →
    let b := tgetD s.banks bank Bank.empty
    let hbm := 8 + Config.hbmStack pa % 12
    let others (k : Nat) (t : State) : Prop := ∀ j, j ≠ k → tget t.banks j = tget s.banks j
    let frame (t : State) : Prop := (∀ k, (tget t.parts k).map Claims.undomained = (tget s.parts k).map Claims.undomained) ∧
      t = { s with
        poison := t.poison, banks := t.banks, parts := t.parts, evidence := t.evidence,
        host := { s.host with msix := t.host.msix, tables := t.host.tables } }
    (∃ t, exec (.correctedError [] [⟨bank, true, .none, loc, addr, false⟩]) s = .next t ∧ others bank t ∧ frame t ∧
      t.poison = s.poison ∧ t.parts = s.parts ∧
      Claims.noted true 1 addr s.cyc { loc with part := 0, ctx := 0 } b (tgetD t.banks bank Bank.empty)) ∧
    (bank < 8 ∨ bank = hbm →
      ∃ t, exec (.uncorrectableError [] [⟨bank, false, .sector pa, loc, addr, false⟩]) s = .next t ∧ others bank t ∧ frame t ∧
        (∀ k, sget t.poison k = if k = pa / 32 then 1 else sget s.poison k) ∧
        Claims.noted false 3 (pa / 32 * 32) s.cyc ⟨0, 0, 0, if bank < 8 then 5 else 6, 0, 0⟩ b
          (tgetD t.banks bank Bank.empty)) ∧
    (bank < 8 ∨ bank = hbm →
      ∃ t, exec (.uncorrectableError [] [⟨bank, false, .sector pa, loc, addr, true⟩]) s = .next t ∧ frame t ∧
        t.banks = s.banks ∧ t.host = s.host ∧ ∀ k, sget t.poison k = if k = pa / 32 then 1 else sget s.poison k) ∧
    exec (.patrolScrub pa .clean) s = .next s ∧
    (∃ t, exec (.patrolScrub pa .corrected) s = .next t ∧ others hbm t ∧ frame t ∧ t.poison = s.poison ∧ t.parts = s.parts) ∧
    (sectorPoisoned s pa = true → exec (.patrolScrub pa .uncorrectable) s = .next s) ∧
    (sectorPoisoned s pa = false → ∃ t, exec (.patrolScrub pa .uncorrectable) s = .next t ∧
      sectorPoisoned t pa = true ∧ others hbm t ∧ frame t ∧
      Claims.noted false 4 (pa / 32 * 32) s.cyc ⟨0, 0, 0, 6, 0, 0⟩ (tgetD s.banks hbm Bank.empty)
        (tgetD t.banks hbm Bank.empty))

/-- R269: of two errors of one cycle that of the lower CORE, and within a CORE that of the lower UNIT, is applied first, and a clear of
the bank in that cycle before both. -/
def Sys2Proof.Claims.ErrorsOfOneCycle : Prop :=
  ∀ (s : State) (bank : Nat) (c d : Bool) (x y : ErrLoc) (i j : Nat), bank < 22 →
    x.core < y.core ∨ (x.core = y.core ∧ x.unit < y.unit) →
    let a : Detected := ⟨bank, c, .none, x, i, false⟩
    let b : Detected := ⟨bank, d, .none, y, j, false⟩
    ∃ u t, exec (.uncorrectableError [] [a]) s = .next u ∧ exec (.uncorrectableError [] [b]) u = .next t ∧
      exec (.uncorrectableError [] [b, a]) s = .next t ∧ exec (.uncorrectableError [] [a, b]) s = .next t ∧
      ∀ v, exec (.errstatClear bank (1#64 <<< 63)) v = .next s → exec (.uncorrectableError [bank] [b, a]) v = .next t

/-- R19 to R22, R24, R267, R269, R271, R272: semaphores, the host window and the error banks: `SemaphoresServe`, `SemaphoresRotate`,
`WindowWrites`, `ErrorsAreRecorded` and `ErrorsOfOneCycle`. -/
def Obligations.HostWindowAndErrors : Prop :=
  Claims.SemaphoresServe ∧ Claims.SemaphoresRotate ∧ Claims.WindowWrites ∧ Claims.ErrorsAreRecorded ∧ Claims.ErrorsOfOneCycle

/-! ### Events: waves, spans and the scheduler -/

/-- Nothing outside the wave with a placement number differs. -/
def Sys2Proof.Claims.waveOnly (id : Nat) (s t : State) : Prop :=
  t = { s with wave := t.wave, waves := t.waves } ∧ ∀ j, j ≠ id → t.findWave j = s.findWave j

/-- R12, R156, R331, R337: a logged instruction whose request is no longer open replays, while its island runs and nothing of its wave
is on its way to another device. One whose accesses come out performs them and leaves page-fault service; an SLD so gives its register
the doubleword. -/
def Sys2Proof.Claims.ReplaysPerform : Prop :=
  ∀ (s : State) (id : Nat) (v : Service),
    let f := focus s id
    s.findWave id = some f.wave → f.wave.service = some v → f.wave.resident = true → v.declined = false →
    coreRuns s f.wave.core = true → faultOpen s f.wave.span.part v.fault = false → Claims.nothingInFlight f f.wave →
    (∀ u, (∀ fn t va succ, v.req ≠ .post fn t va succ) → (∀ z va, v.req ≠ .mxldz z va ∧ v.req ≠ .mxstz z va) →
      replayAttempt v f = .performed u → (v.req.strong u u.wave = false ∨ Claims.nothingInFlight u u.wave) →
      ∃ t, exec (.instructionReplay id) s = .next t ∧ t.wave = { u.wave with service := none, fuse := t.wave.fuse } ∧
        (f.wave.fuse = none → t.wave.fuse = u.wave.fuse) ∧ t = { u with wave := t.wave }) ∧
    (∀ (d : Nat) (va : Word64) (l : Leaf), v.req = .sload d va →
      access f f.wave.span.part f.wave.span.ctx .load va.toNat 8 = .ok l → Claims.unpoisoned f l va.toNat 8 →
      ∃ t, exec (.instructionReplay id) s = .next t ∧ (sget t.wave.s d).toNat = loadLe s l va.toNat 8 ∧
        (∀ r, r ≠ d → sget t.wave.s r = sget f.wave.s r) ∧ t.wave.service = none ∧ t.wave.pc = f.wave.pc ∧
        t.waves = f.waves ∧ ∀ key pa, memByte t key pa = memByte s key pa)

/-- R12, R302, R337: a trap of the codes 0x01 to 0x17 that stood behind page-fault service enters the handler once the service is over and
while the island runs, where TRAPFRAME may be stored to in an order that R168 leaves free, and neither TRAPVEC nor TRAPFRAME is
poisoned. The frame's zeros are the model's choice (log 24, DEDUCED). -/
def Sys2Proof.Claims.WaitingTrapsDelivered : Prop :=
  ∀ (s : State) (id : Nat) (x : Trap) (l : Leaf),
    let f := focus s id
    s.findWave id = some f.wave → f.wave.trap = some x → f.wave.service = none → f.wave.resident = true →
    coreRuns s f.wave.core = true → f.wave.level = .user → 1 ≤ x.code → x.code ≤ 0x17 →
    access f f.wave.span.part f.wave.span.ctx .store f.wave.trapframe.toNat 1024 = .ok l →
    Claims.entryClean f.wave → Claims.storesFreely f l →
    ∃ u, exec (.trapDelivery id) s = .next u ∧ Claims.entered l x f u

/-- R12, R160, R332: a sleep is over when CYC has reached its target; a CPWAIT whose promise CYC has reached raises COPY_LATE
(0x0A), while the island runs and where its frame may be written at once. The frame's zeros are the model's choice (log 24, DEDUCED). -/
def Sys2Proof.Claims.SleepsAndPromisesEnd : Prop :=
  ∀ (s : State) (id : Nat),
    (∀ (w : Wave) (target : Nat), s.findWave id = some w → w.wait = .sleeping target → target ≤ s.cyc →
      ∃ t, exec (.sleepExpiry id) s = .next t ∧ Claims.waveOnly id s t ∧
        ∃ x, t.findWave id = some x ∧ x.wait = .running ∧ w.readyAt ≤ x.readyAt ∧
          x = { w with wait := .running, readyAt := x.readyAt }) ∧
    (∀ (token : Word64) (promise : Nat) (i : Instr) (l : Leaf),
      let f := focus s id
      let g := { (f.onWave (Wave.resumed f)) with fresh := f.fresh + 1 }
      s.findWave id = some f.wave → f.wave.wait = .retryToken token (some promise) → f.wave.resident = true →
      promise ≤ s.cyc → tokenPending s f.wave token = true → instrAt s f.wave f.wave.pc.toNat = some i →
      coreRuns s f.wave.core = true → f.wave.level = .user → f.wave.service = none → f.wave.fuse = none →
      access g g.wave.span.part g.wave.span.ctx .store g.wave.trapframe.toNat 1024 = .ok l →
      Claims.entryClean g.wave → Claims.storesFreely g l →
      ∃ x u, exec (.cpwaitPromiseExpiry id) s = .next u ∧ x.code = 0x0A ∧ x.detail.head? = some (BitVec.ofNat 64 token.toNat) ∧
        Claims.entered l x g u)

/-- R88, R275, R276: a wave that has not halted within the time is to be fully saved; killed spans that are launched again wait for
their records, without frame or channels, those of a GBAR grid together. -/
def Sys2Proof.Claims.SavesAndRelaunches : Prop :=
  ∀ (s : State) (id : Nat) (span : SpanId),
    (∀ (w : Wave) (asked : Nat), s.findWave id = some w → w.halting = some asked → asked + s.fw.preemptTimeout ≤ s.cyc →
      ∃ t, exec (.preemptionTimeout id) s = .next t ∧ Claims.waveOnly id s t ∧ t.findWave id = some { w with full := true }) ∧
    (∀ l, s.launchOf span = some l → l.node = none ∨ l.gbar = false → (s.spans.map (·.id)).Nodup →
      ∃ t, exec (.spanRelaunch span) s = .next t ∧ t = { s with spans := t.spans } ∧
        ∀ y ∈ s.spans, t.findSpan y.id = some (
          if y.phase = .killed ∧ (y.id = span ∨
            (l.gbar = true ∧ y.id.part = span.part ∧ y.id.ctx = span.ctx ∧ y.id.lrec = span.lrec)) then
            { y with phase := .again, relaunched := y.relaunched + 1, replayable := !l.nonreplay, frame := none, channels := [] }
          else y))

/-- R88, R156, R160, R275, R276, R302, R332, R337: the events of a wave and of a killed span: `ReplaysPerform`,
`WaitingTrapsDelivered`, `SleepsAndPromisesEnd` and `SavesAndRelaunches`. -/
def Obligations.WaveEventsTakeEffect : Prop :=
  Claims.ReplaysPerform ∧ Claims.WaitingTrapsDelivered ∧ Claims.SleepsAndPromisesEnd ∧ Claims.SavesAndRelaunches

/-- R12, R156, R251: a request without a reply for the fault timeout is declined: it is open no longer, a wave that is out, or whose
island does not run, will trap with its replay, and another raises PAGE_FAULT (0x05) with the state it had before its instruction
issued. The frame's zeros are the model's choice (log 24, DEDUCED). -/
def Sys2Proof.Claims.FaultsTimeOut : Prop :=
  ∀ (s : State) (p fault id raised : Nat) (w : Wave) (v : Service),
    findFault s p fault = some ⟨fault, .wave id, raised⟩ → raised + s.fw.faultTimeout ≤ s.cyc →
    s.findWave id = some w → w.service = some v → v.fault = fault →
    (w.resident = false ∨ coreRuns s w.core = false →
      ∃ t, exec (.faultTimeout p fault) s = .next t ∧ findFault t p fault = none ∧
        t.findWave id = some { w with service := some { v with declined := true } } ∧
        ∀ j, j ≠ id → t.findWave j = s.findWave j) ∧
    (w.resident = true → coreRuns s w.core = true → ∀ l : Leaf,
      let g := rewound v (focus (closeFault s p fault) id)
      g.wave.level = .user →
      access g g.wave.span.part g.wave.span.ctx .store g.wave.trapframe.toNat 1024 = .ok l →
      Claims.entryClean g.wave → Claims.storesFreely g l →
      ∃ x u, exec (.faultTimeout p fault) s = .next u ∧ x.code = 0x05 ∧ Claims.entered l x g u)

/-- R256, R257: at the end of its slice a context with a live span is taken off its cores: each of its waves is asked to halt. Ready
work that has waited for 20 ms raises its context one level, up to 7; that the next 20 ms count from the rise is the model's
choice (log 67, DEDUCED). -/
def Sys2Proof.Claims.SlicesAndAging : Prop :=
  ∀ (s : State) (p n : Nat) (c : Ctx), s.findCtx p n = some c →
    (c.leaving = none → c.closing = none → ctxLive s p n = true → sliceOver s p n c = true →
      ∃ t, exec (.sliceEnd p n) s = .next t ∧ t.findCtx p n = some { c with leaving := some .slice } ∧
        (∀ w ∈ t.allWaves, w.span.part = p → w.span.ctx = n → w.resident = true → w.halting.isSome = true) ∧
        t = { s with wave := t.wave, waves := t.waves, parts := t.parts }) ∧
    (s.cyc < c.placedAt + s.fw.slice → exec (.sliceEnd p n) s = .next s) ∧
    (readyWork s p n = true → c.paused = none → c.agedAt + 20000000 ≤ s.cyc →
      ∃ t, exec (.priorityAging p n) s = .next t ∧
        t.findCtx p n = some { c with raised := min 7 (c.raised + 1), agedAt := s.cyc } ∧ t = { s with parts := t.parts })

/-- R253 to R255: the records that firmware writes, as its policy allows, of no span to be launched again, enter the ring. A new span
whose records pass the checks and may start is live, with each of its blocks' waves at the launch's entry, its argument in s0; one whose
records fail is passed over with a BIND_FAULT event. -/
def Sys2Proof.Claims.SpansDispatch : Prop :=
  ∀ (s : State) (p : Nat) (written : List BindWords) (rs : List (Nat × Bind)),
    let a := onPart s p (fun q => written.foldl writeSlot q)
    frontLive s = true → p < 32 → (∀ w ∈ written, policyAllows s p (bindOf w).ctx (bindOf w).lrec = true) →
    (∀ w ∈ written, ∀ x, s.findSpan ((bindOf w).id p) = some x → x.phase ≠ .again) →
    nextSpan (partAt a p) = some rs → (partAt s p).gathered.length ≤ (partAt s p).slotHead →
    let place (t : State) : Nat := (partAt t p).slotHead - (partAt t p).gathered.length
    (∀ (slot : Nat) (first : Bind) (l : Launch), spanFailure a p rs = none → rs.head? = some (slot, first) →
      a.launchOf (first.id p) = some l → l.gbar = false ∨ l.node ≠ none →
      mayDispatch a p l (rs.map (·.2)) (first.id p) = true → a.findSpan (first.id p) = none →
      ∃ t, exec (.bindDispatch p written) s = .next t ∧ place t = place s + rs.length ∧
        (∃ x, t.findSpan (first.id p) = some x ∧ x.phase = .live ∧ x.frame = none ∧ x.channels = [] ∧
          x.replayable = !l.nonreplay) ∧
        ∀ e ∈ rs, ∀ j < l.waves, ∃ w ∈ t.allWaves, w.span = first.id p ∧ w.block = e.2.blk ∧ w.index = j ∧
          w.core = e.2.core ∧ w.pc = l.entry ∧ sget w.s 0 = l.args ∧ w.level = .user ∧ w.resident = true ∧
          w.active = ~~~w.retired) ∧
    (∀ (slot reason : Nat), spanFailure a p rs = some (slot, reason) →
      ∃ t, exec (.bindDispatch p written) s = .next t ∧ place t = place s + rs.length ∧
        (∃ r ∈ (partAt t p).delivered ++ (partAt t p).held ++ (partAt t p).ring,
          r.event = true ∧ r.code = 6 ∧ r.detail = [slot, reason]) ∧
        (reason = 8 ∨ reason = 9 → t.spans = s.spans))

/-- R79, R254: of a grid launched with the GBAR flag nothing starts while only one of several spans that have still to be placed has its
records in the ring. -/
def Sys2Proof.Claims.BarrierGridsStartWhole : Prop :=
  ∀ (s : State) (p slot : Nat) (written : List BindWords) (rs : List (Nat × Bind)) (first : Bind) (l : Launch),
    let a := onPart s p (fun q => written.foldl writeSlot q)
    frontLive s = true → p < 32 → (∀ w ∈ written, policyAllows s p (bindOf w).ctx (bindOf w).lrec = true) →
    (∀ w ∈ written, ∀ x, s.findSpan ((bindOf w).id p) = some x → x.phase ≠ .again) → (partAt a p).gathered = [] →
    nextSpan (partAt a p) = some rs → spanFailure a p rs = none → rs.head? = some (slot, first) → rs.length < 1024 →
    (partAt a p).slotTail = (partAt a p).slotHead + rs.length →
    a.launchOf (first.id p) = some l → l.gbar = true → l.node = none → l.finished + 2 ≤ l.grid.foldl (· * ·) 1 →
    (∀ x ∈ s.spans, x.phase = .live ∨ x.phase = .ended →
      x.id.part ≠ p ∨ x.id.ctx ≠ first.ctx ∨ x.id.lrec ≠ first.lrec) →
    exec (.bindDispatch p written) s = .next a

/-- R256, R275: firmware writes no record of a launch while another context has ready work of a higher level, or, of the same level where
the round robin has not begun, a lower number; and none that puts a span launched again on a core where its killed attempt met
its error, while the partition has another placement free. -/
def Sys2Proof.Claims.PolicyHoldsRecords : Prop :=
  (∀ (s : State) (p : Nat) (w : BindWords) (x : Span) (l : Launch),
    s.findSpan ((bindOf w).id p) = some x → x.phase = .again → (bindOf w).core ∈ x.badCores →
    s.launchOf ((bindOf w).id p) = some l → placementOff s p l x.badCores = true →
    exec (.bindDispatch p [w]) s = exec (.bindDispatch p []) s) ∧
  (∀ (s : State) (p n m k j : Nat) (c d : Ctx) (l g : Launch) (w : BindWords),
    let level (c : Ctx) (l : Launch) : Nat := min 7 (l.prio + c.raised)
    ((partAt s p).ctxs.map (·.1)).Pairwise (· < ·) → s.findCtx p n = some c → s.findCtx p m = some d →
    tget c.launches k = some l → tget d.launches j = some g → (bindOf w).ctx = n → (bindOf w).lrec = k →
    d.leaving = none → d.paused = none → d.closing = none → launchReady s p m j g d = true →
    level c l < level d g ∨ (level c l = level d g ∧ m < n ∧ tget (partAt s p).turns (level c l) = none) →
    exec (.bindDispatch p [w]) s = exec (.bindDispatch p []) s)

/-- R84: a node whose queue has waited for its flush time launches a block for all of it. -/
def Sys2Proof.Claims.NodesFlush : Prop :=
  ∀ (s : State) (p k : Nat) (c : Ctx) (n : Node) (l : Launch),
    s.findCtx p (k / 256) = some c → tget c.nodes (k % 256) = some n → tget c.launches n.launch = some l →
    n.queue ≠ [] → n.since + l.flush ≤ s.cyc →
    ∃ t d m, exec (.graphFlushTimeout p k) s = .next t ∧ t.findCtx p (k / 256) = some d ∧ tget d.nodes (k % 256) = some m ∧
      m.queue = [] ∧ m.batch = n.batch + 1 ∧ m.ready = n.ready ++ [(n.batch, n.queue)] ∧
      (∀ j, j ≠ k % 256 → tget d.nodes j = tget c.nodes j) ∧ t = { s with parts := t.parts }

/-- R259, R260, R282: a scrub that completes leaves its cores' tile stores and accumulator slots zero, a receipt with the next SEQ and a
SCRUB_DONE event, and an admin command that waited for it completes OK. Memory reads as before. -/
def Sys2Proof.Claims.ScrubsComplete : Prop :=
  ∀ (s : State) (p : Nat) (x : Scrub), (partAt s p).scrubs.find? (·.running) = some x →
    ∃ t, exec (.scrubComplete p) s = .next t ∧ (∀ y ∈ (partAt t p).scrubs, y.order ≠ x.order) ∧
      (∀ n c, tget t.cores n = some c → x.cbase ≤ n / 4 → n / 4 ≤ x.climit →
        c.tile = [] ∧ c.scales = [] ∧ c.tags = [] ∧ c.acc = [] ∧ c.accown = []) ∧
      (∀ n, ¬(x.cbase ≤ n / 4 ∧ n / 4 ≤ x.climit) → tget t.cores n = tget s.cores n) ∧
      t.receiptN = (s.receiptN + 1) % 2 ^ 32 ∧ (∃ r ∈ t.receipts, r.seq = s.receiptN) ∧
      (∃ r ∈ (partAt t p).delivered ++ (partAt t p).held ++ (partAt t p).ring, r.event = true ∧ r.code = 5) ∧
      (x.admin = true → x.mute = false → t.admin = s.admin ++ [(x.port, ⟨false, 0, 0, x.tag, s.cyc, [], x.port⟩)]) ∧
      t.mem = s.mem ∧ t.wave = s.wave ∧ t.waves = s.waves ∧ t.blocks = s.blocks ∧ t.spans = s.spans

/-- R79, R84, R156, R251, R253 to R257, R259, R260, R282: the events of the scheduler: `FaultsTimeOut`, `SlicesAndAging`,
`SpansDispatch`, `BarrierGridsStartWhole`, `PolicyHoldsRecords`, `NodesFlush` and `ScrubsComplete`. -/
def Obligations.SchedulerEventsTakeEffect : Prop :=
  Claims.FaultsTimeOut ∧ Claims.SlicesAndAging ∧ Claims.SpansDispatch ∧ Claims.BarrierGridsStartWhole ∧
    Claims.PolicyHoldsRecords ∧ Claims.NodesFlush ∧ Claims.ScrubsComplete

/-! ### Events: the commands of a virtual function -/

/-- A command can act: the front ends are live, the partition has an owner, no command waits on queue 0, the front end can hold its
record, and its context is open with no earlier command of it waiting and neither closing nor closed (R33, R244, R246, R249,
R250). -/
def Sys2Proof.Claims.commandActs (s : State) (p n : Nat) (c : Ctx) : Prop :=
  frontLive s = true ∧ p < 32 ∧ n < 16 ∧ (partAt s p).owner.isSome = true ∧ (partAt s p).queue0 = [] ∧
  (partAt s p).held.length < 256 ∧ s.findCtx p n = some c ∧ c.waiting = [] ∧ c.closing = none ∧ c.leaving ≠ some .close

/-- The completion record of a command, which came through the port of its virtual function (R31), stands on queue 1, or waits for a
buffer there, and beyond it and the interrupts that tell of it nothing differs from a state (R247 to R249). -/
def Sys2Proof.Claims.answered (p tag n status : Nat) (detail : List Nat) (u t : State) : Prop :=
  (⟨false, status, n, tag, u.cyc, detail, (partAt u p).virtio.port⟩ : Record) ∈ (partAt t p).delivered ++ (partAt t p).held ++ (partAt t p).ring ∧
  t = { u with parts := t.parts } ∧ (∀ q, q ≠ p → tget t.parts q = tget u.parts q) ∧
  { partAt t p with
    delivered := (partAt u p).delivered, held := (partAt u p).held, ring := (partAt u p).ring, late := (partAt u p).late,
    buffers := (partAt u p).buffers,
    virtio := { (partAt t p).virtio with msix := (partAt u p).virtio.msix } } = partAt u p

/-- A state in which one context of a partition has changed. -/
def Sys2Proof.Claims.withCtx (s : State) (p n : Nat) (c : Ctx) : State := s.changeCtx p n (fun _ => c)

/-- A state in which a partition has changed. -/
def Sys2Proof.Claims.withPart (s : State) (p : Nat) (q : Partition) : State := { s with parts := tset s.parts p q }

/-- R84, R252: the launch that a LAUNCH or NODE command reads: its header at an aligned address keeps the limits and names a code page,
its widths hold its counts, and its argument block, of whatever length it is (log 19), and node descriptor can be read. -/
def Sys2Proof.Claims.launchRead (s : State) (p n header : Nat) (node : Option Nat) (l : Launch) : Prop :=
  ∃ bs args, header % 64 = 0 ∧ frontRead s p n header 64 = .got bs ∧
    let h := headerLaunch bs node
    headerOk bs h = true ∧ onCodePage s p n h.entry.toNat = .ok true ∧ widthsOk h = true ∧
    frontRead s p n h.args.toNat (if h.args = 0 then 0 else Config.argumentLength h.args) = .got args ∧
    (h.graph = false → l = { h with argBytes := args }) ∧
    (h.graph = true → ∃ d, frontRead s p n (fieldBytes bs 40 8) 64 = .got d ∧ descriptorOk d = true ∧
      l = ({ h with argBytes := args } : Launch).described d)

/-- R250, R257, R258: CTX_OPEN opens a context whose GTIME starts at 0 and answers SAVE_SIZE, or BUSY where it is open; TIME_MODE sets
its mode; PAUSE and CTX_CLOSE begin to take it off its cores and wait; RESUME sets GTIME on as its mode says. That CTX_CLOSE halts
its waves first, as PAUSE does, and completes when it has ended (log 59, DEDUCED), and that PAUSE of a paused context answers OK and
changes nothing (log 60, DEDUCED), are the model's choices. -/
def Sys2Proof.Claims.ContextCommands : Prop :=
  ∀ (s : State) (p tag n root save weight : Nat) (wall : Bool),
    (frontLive s = true → p < 32 → n < 16 → (partAt s p).owner.isSome = true → (partAt s p).queue0 = [] →
      (partAt s p).held.length < 256 → s.findCtx p n = none → root % 2 ^ 15 = 0 → root < 2 ^ 52 → save < 2 ^ 64 → 1 ≤ weight → weight ≤ 255 →
      ∃ t c, exec (.ctxOpen p tag n root save weight wall) s = .next t ∧ t.findCtx p n = some c ∧
        c.root = root ∧ c.save = save ∧ c.weight = weight ∧ c.wall = wall ∧ gtimeOf s.cyc c = 0 ∧ c.paused = none ∧
        c.launches = [] ∧ c.nodes = [] ∧ c.waiting = [] ∧
        Claims.answered p tag n 0 [3823616 * 4 * ((partAt s p).climit - (partAt s p).cbase + 1)]
          (Claims.withPart s p { partAt s p with ctxs := tset (partAt s p).ctxs n c }) t) ∧
    (∀ c, Claims.commandActs s p n c →
      (∃ t, exec (.ctxOpen p tag n root save weight wall) s = .next t ∧ Claims.answered p tag n 2 [] s t) ∧
      (∃ t, exec (.timeMode p tag n wall) s = .next t ∧
        Claims.answered p tag n 0 [] (Claims.withCtx s p n { c with wall := wall }) t) ∧
      (c.paused = none →
        ∃ t, exec (.pause p tag n) s = .next t ∧
          t.findCtx p n = some { c with leaving := some .pause, waiting := [⟨false, ⟨tag, n, .pause, (partAt s p).virtio.port⟩, .save, none⟩] } ∧
          (∀ w ∈ t.allWaves, w.span.part = p → w.span.ctx = n → w.resident = true → w.halting.isSome = true) ∧
          t = { s with wave := t.wave, waves := t.waves, parts := t.parts }) ∧
      (c.paused.isSome = true → ∃ t, exec (.pause p tag n) s = .next t ∧ Claims.answered p tag n 0 [] s t) ∧
      (scrubCovers s (partAt s p) = false →
        ∃ t, exec (.ctxClose p tag n) s = .next t ∧
          t.findCtx p n = some { c with leaving := some .close, waiting := [⟨false, ⟨tag, n, .ctxClose, (partAt s p).virtio.port⟩, .close, none⟩] } ∧
          (∀ w ∈ t.allWaves, w.span.part = p → w.span.ctx = n → w.resident = true → w.halting.isSome = true) ∧
          t = { s with wave := t.wave, waves := t.waves, parts := t.parts }) ∧
      (∀ (g since elapsed : Nat), c.paused = some (g, since) →
        let step := if c.wall then (if elapsed = 0 then s.cyc - since else elapsed) else 0
        ∃ t d, exec (.resume p tag n elapsed) s = .next t ∧ t.findCtx p n = some d ∧ d.paused = none ∧
          gtimeOf s.cyc d = BitVec.ofNat 64 (g + step) ∧ d.launches = c.launches ∧ d.nodes = c.nodes ∧ d.waiting = [] ∧
          (⟨false, 0, n, tag, s.cyc, [], (partAt s p).virtio.port⟩ : Record) ∈
            (partAt t p).delivered ++ (partAt t p).held ++ (partAt t p).ring ∧
          t = { s with parts := t.parts }))

/-- R84, R252, R256: LAUNCH and NODE retain the launch that they read under a number that was free, which the completion names; RECORDS
charges its records and appends them at the node, in order. Of memory nothing changes but what the bank array holds of it (R143). -/
def Sys2Proof.Claims.WorkCommands : Prop :=
  ∀ (s : State) (p tag n header node va count : Nat) (c : Ctx), Claims.commandActs s p n c →
    (∀ l, Claims.launchRead s p n header none l → (l.gbar = true → coResident s (partAt s p) l = true) →
      ∃ t k d, exec (.launch p tag n header) s = .next t ∧ tget c.launches k = none ∧
        Claims.answered p tag n 0 [k] (Claims.withCtx { s with array := t.array } p n d) t ∧ d.launches = tset c.launches k l ∧
        d.nodes = c.nodes ∧
        d = { c with launches := d.launches, agedAt := d.agedAt }) ∧
    (∀ l, node < 256 → tget c.nodes node = none → Claims.launchRead s p n header (some node) l → l.graph = true →
      ∃ t k d, exec (.node p tag n node header) s = .next t ∧ tget c.launches k = none ∧
        Claims.answered p tag n 0 [k] (Claims.withCtx { s with array := t.array } p n d) t ∧ d.launches = tset c.launches k l ∧
        d.nodes = tset c.nodes node ⟨k, s.cyc, [], 0, []⟩ ∧
        d = { c with launches := d.launches, nodes := d.nodes, agedAt := d.agedAt }) ∧
    (∀ (m : Node) (bs : List Byte), tget c.nodes node = some m → frontRead s p n va (16 * count) = .got bs →
      (partAt s p).charged + count ≤ (partAt s p).quota →
      ∃ t d k, exec (.records p tag n node va count) s = .next t ∧ t.findCtx p n = some d ∧ tget d.nodes node = some k ∧
        (partAt t p).charged = (partAt s p).charged + count ∧
        (k.ready.flatMap (·.2)) ++ k.queue = (m.ready.flatMap (·.2)) ++ m.queue ++ cutRecords bs count ∧
        (∀ j, j ≠ node → tget d.nodes j = tget c.nodes j) ∧
        (⟨false, 0, n, tag, s.cyc, [], (partAt s p).virtio.port⟩ : Record) ∈
          (partAt t p).delivered ++ (partAt t p).held ++ (partAt t p).ring ∧
        t = { s with parts := t.parts, array := t.array })

/-- R153, R222, R229 to R231, R240, R250: INVALIDATE sets LIMIT to 0 in every translation register of the context whose page meets the
range; TXWIN, RAT and FLOW write their tables, and a change of a valid entry of the first two completes once nothing that left by it is
on its way; DOMAIN_RELEASE frees a domain that nothing holds, with the marks of its cells;
a FAULT_REPLY closes the request that it names, and one that names none answers BADCMD. -/
def Sys2Proof.Claims.TableCommands : Prop :=
  ∀ (s : State) (p tag n va length entry domid fault : Nat) (c : Ctx) (words : EntryWords) (f : FlowFields),
    Claims.commandActs s p n c →
    (∃ t, exec (.invalidate p tag n va length) s = .next t ∧
      (∀ w ∈ s.allWaves, w.span.part = p → w.span.ctx = n → ∃ x ∈ t.allWaves, x.id = w.id ∧
        ∀ r a, tget w.a r = some a → tget x.a r = some (if a.overlaps va length = true then { a with limit := 0 } else a)) ∧
      Claims.answered p tag n 0 [] { s with wave := t.wave, waves := t.waves } t) ∧
    (entry < 256 → words.w0.getLsbD 0 = false ∨ windowOk (partAt s p) entry words = true →
      ∃ t, exec (.txwin p tag n entry words) s = .next t ∧ tget (partAt t p).txwin entry = some words ∧
        (∀ j, j ≠ entry → tget (partAt t p).txwin j = tget (partAt s p).txwin j) ∧ t = { s with parts := t.parts } ∧
        ((∀ old, tget (partAt s p).txwin entry = some old → old.w0.getLsbD 0 = false) →
          Claims.answered p tag n 0 []
            (Claims.withPart s p { partAt s p with txwin := tset (partAt s p).txwin entry words }) t)) ∧
    (entry < 64 → words.w0.getLsbD 0 = false ∨ ratOk words = true →
      ∃ t, exec (.rat p tag n entry words) s = .next t ∧ tget (partAt t p).rat entry = some words ∧
        (∀ j, j ≠ entry → tget (partAt t p).rat j = tget (partAt s p).rat j) ∧ t = { s with parts := t.parts } ∧
        ((∀ old, tget (partAt s p).rat entry = some old → old.w0.getLsbD 0 = false) ∨
            (∀ o ∈ s.fabric.outs, o.key.part = p → o.key.number = 256 + entry → o.unacked = []) →
          Claims.answered p tag n 0 [] (Claims.withPart s p { partAt s p with rat := tset (partAt s p).rat entry words }) t) ∧
        (∀ old o k, tget (partAt s p).rat entry = some old → old.w0.getLsbD 0 = true → o ∈ s.fabric.outs → o.key.part = p →
          o.key.number = 256 + entry → o.key.reverse = false → k ∈ o.unacked →
          (∃ asid lanes from_, k.packet.payload = .remoteStore asid lanes from_) →
          ∃ d, t.findCtx p n = some d ∧
            d.waiting = [⟨false, ⟨tag, n, .rat entry words, (partAt s p).virtio.port⟩, .entry entry, some (0, [])⟩])) ∧
    (entry < 4096 → flowOk f = true →
      (∃ t, exec (.flow p tag n entry (some f)) s = .next t ∧
        Claims.answered p tag n 0 [] (Claims.withPart s p { partAt s p with
          flows := tset (partAt s p).flows entry
            ⟨f, s.fw.flowTimeout, [], f.psn, [], 0, s.cyc, [], [], s.cyc, [], 0, 0, none⟩ }) t) ∧
      (∃ t, exec (.flow p tag n entry none) s = .next t ∧
        Claims.answered p tag n 0 [] (Claims.withPart s p { partAt s p with flows := terase (partAt s p).flows entry }) t)) ∧
    (∀ d, findDomain s p domid = some d → domainBound s p domid = false →
      (∀ l ∈ d.links, l.sent = l.acked + l.refunded) → recordComing s p domid = false →
      ∃ t, exec (.domainRelease p tag n domid) s = .next t ∧ findDomain t p domid = none ∧
        (∀ e ∈ t.marks, e.2 ≠ (p, domid)) ∧ (∀ e ∈ s.marks, e.2 ≠ (p, domid) → e ∈ t.marks) ∧ t.mem = s.mem ∧
        Claims.answered p tag n 0 []
          { (Claims.withPart s p { partAt s p with domains := terase (partAt s p).domains domid }) with marks := t.marks } t) ∧
    (∀ (id raised : Nat), findFault s p fault = some ⟨fault, .wave id, raised⟩ →
      ∃ t, exec (.faultReply p tag n fault true) s = .next t ∧ findFault t p fault = none ∧ t.waves = s.waves ∧
        Claims.answered p tag n 0 [] (Claims.withPart s p { partAt s p with
          faults := (partAt s p).faults.filter (fun x => x.id != fault) }) t) ∧
    (findFault s p fault = none →
      ∃ t, exec (.faultReply p tag n fault true) s = .next t ∧ Claims.answered p tag n 1 [] s t)

/-- R281, R283, R284, R286: CELL_REPAIR gives the one lost cell of a domain what the books say it held; MONITOR enables a monitor with
its counts clear, or disables it with a last entry in the log; LOG_READ puts the entries asked for at a host address; KEY_LOAD
and KEY_CLEAR fill and zero a granted slot. -/
def Sys2Proof.Claims.UpkeepCommands : Prop :=
  ∀ (s : State) (p tag n domid cell m first count address key : Nat) (c : Ctx) (f : MonitorFields) (material : List Byte),
    Claims.commandActs s p n c →
    (∀ (d : Domain) (home : Nat → Leaf), findDomain s p domid = some d → d.lost = [cell] → cell < d.ncell →
      (∀ c < d.ncell, d.homes.find? (fun h => h.1 == (d.base + 4 * c) / 2 ^ 15) =
        some ((d.base + 4 * c) / 2 ^ 15, home c)) →
      let others := (((List.range d.ncell).filter (· != cell)).map (fun c =>
        Claims.content s (home c) (d.base + 4 * c))).sum
      let va := d.base + 4 * cell
      ∃ t, exec (.cellRepair p tag n domid cell) s = .next t ∧
        Claims.content t (home cell) va = (BitVec.ofInt 32 (d.interior - others)).toInt ∧
        sget t.poison ((home cell).pa va / 32) = 0 ∧
        Claims.answered p tag n 0 []
          { (Claims.withPart s p { partAt s p with domains := tset (partAt s p).domains domid { d with lost := [] } }) with
            mem := t.mem, lineKey := t.lineKey, array := t.array, poison := t.poison } t) ∧
    (f ≠ .disable → monitorOk m f = true →
      ∃ t, exec (.monitor p tag n m f) s = .next t ∧ Claims.answered p tag n 0 []
        (Claims.withPart s p { partAt s p with monitors := tset (partAt s p).monitors m ⟨f, [], 0, 0, false⟩ }) t) ∧
    (∀ d, m < 80 → tget (partAt s p).monitors m = some d →
      ∃ t, exec (.monitor p tag n m .disable) s = .next t ∧ tget (partAt t p).monitors m = none ∧
        (∃ e, (partAt t p).log.getLast? = some e ∧ e.take 96 = (logBytes (partAt s p).logSeq m 1 s.cyc d).take 96) ∧
        (partAt t p).logSeq = ((partAt s p).logSeq + 1) % 2 ^ 32 ∧ t = { s with parts := t.parts }) ∧
    (let es := (partAt s p).log.filter (fun e =>
        decide ((fieldBytes e 0 4 + 2 ^ 32 - first % 2 ^ 32) % 2 ^ 32 < count))
      ∃ t, exec (.logRead p tag n first count address) s = .next t ∧
        Claims.answered p tag n 0 [es.length] { s with hostMem := s.hostMem ++ [(address, es.flatten)] } t) ∧
    (key ≠ 0 → (partAt s p).grants.contains key = true →
      (tget s.keys key = none → material.length = 64 →
        ∃ t, exec (.keyLoad p tag n key material) s = .next t ∧
          Claims.answered p tag n 0 [] { s with keys := tset s.keys key material } t) ∧
      ∃ t, exec (.keyClear p tag n key) s = .next t ∧ tget t.keys key = none ∧
        (∀ k, k ≠ key → tget t.keys k = tget s.keys k) ∧ (∀ line, (sget t.lineKey line).toNat ≠ key) ∧
        ((s.lineKey.map (·.1)).Nodup → ∀ line, (sget s.lineKey line).toNat ≠ key →
          (∀ e ∈ s.array, e.1 = line → e.2.key ≠ key) → sget t.lineKey line = sget s.lineKey line) ∧
        t = { s with
          parts := t.parts, keys := t.keys, mem := t.mem, lineKey := t.lineKey, array := t.array, fresh := t.fresh })

/-- R246, R248: queue 0 is consumed in order of arrival, and buffers posted to queue 1 take held records, oldest first, and behind them
those of the ring. -/
def Sys2Proof.Claims.QueuesNotified : Prop :=
  ∀ (s : State) (p tag n port buffers : Nat) (c : Ctx) (wall : Bool),
    (Claims.commandActs s p n c →
      ∃ t, exec (.queue0Notify p [⟨tag, n, .timeMode wall, port⟩]) s = .next t ∧ (partAt t p).queue0 = [] ∧
        t.findCtx p n = some { c with wall := wall } ∧
        (⟨false, 0, n, tag, s.cyc, [], port⟩ : Record) ∈ (partAt t p).delivered ++ (partAt t p).held ++ (partAt t p).ring) ∧
    (frontLive s = true → p < 32 → 256 ≤ (partAt s p).held.length →
      ∃ t, exec (.queue0Notify p [⟨tag, n, .timeMode wall, port⟩]) s = .next t ∧ t.findCtx p n = s.findCtx p n ∧
        (partAt t p).queue0 = (partAt s p).queue0 ++ [⟨tag, n, .timeMode wall, port⟩]) ∧
    (let q := partAt s p
     frontLive s = true → p < 32 → q.queue0 = [] → q.ring = [] ∨ (q.declined = 0 ∧ q.unlogged = 0) →
      (q.held ++ q.ring).length ≤ q.buffers + buffers →
      ∃ t, exec (.queue1Notify p buffers) s = .next t ∧ (partAt t p).held = [] ∧ (partAt t p).ring = [] ∧
        (partAt t p).delivered = q.delivered ++ q.held ++ q.ring ∧
        (partAt t p).buffers + (q.held ++ q.ring).length = q.buffers + buffers ∧ t = { s with parts := t.parts })

/-! ### Events: admin commands and monitors -/

/-- An admin command acts at once: its port's link is up, none is in progress and none queued (R18, R245). -/
def Sys2Proof.Claims.adminActs (s : State) (port : Nat) : Prop :=
  frontLive s = true ∧ s.host.portUp.getD port false = true ∧ s.adminBusy = false ∧ s.adminQueue = []

/-- The completion record of an admin command (R245, R249). -/
def Sys2Proof.Claims.adminAnswered (port tag status : Nat) (u t : State) : Prop :=
  t = { u with admin := u.admin ++ [(port, ⟨false, status, 0, tag, u.cyc, [], port⟩)] }

/-- R223, R244, R245, R250, R259, R260, R277: PART_ASSIGN gives a free partition its clusters, colours, keys, quota and owner and starts
their scrub, with which it completes; PART_RELEASE takes the owner back, zeroes its key slots and starts one; DOMAIN_FORM gives
the device its number and its domain's members; RETIRE names a core, a bank, or an HBM row that a spare stands for (a free
predicate, log 17). That the members always include the device's own number, and that RETIRE of a unit that is retired answers OK,
are the model's choices (log 61, DEDUCED). -/
def Obligations.AdminCommandsTakeEffect : Prop :=
  ∀ (s : State) (port tag p cbase climit number unit owner quota : Nat) (cset : BitVec 32) (grants members : List Nat),
    Claims.adminActs s port →
    (p < 32 → (partAt s p).owner = none → cset ≠ 0 → cbase ≤ climit → climit < 128 → (∀ k ∈ grants, k < 4096) →
      (∀ e ∈ s.parts, e.2.meets cbase climit cset = false) →
      (∀ b ∈ s.blocks, b.ended = false → ¬(cbase ≤ b.core / 4 ∧ b.core / 4 ≤ climit)) →
      ∃ t, exec (.partAssign port tag p cbase climit cset grants quota owner) s = .next t ∧
        (let q := partAt t p
         q.owner = some owner ∧ q.cbase = cbase ∧ q.climit = climit ∧ q.cset = cset ∧ q.grants = grants ∧ q.quota = quota ∧
         q.charged = 0 ∧ ∃ x ∈ q.scrubs, x.reason = 0 ∧ x.admin = true ∧ x.tag = tag ∧ x.cbase = cbase ∧ x.climit = climit ∧
           x.cset = cset) ∧
        t.adminBusy = true ∧ t.admin = s.admin ∧ t.mem = s.mem) ∧
    (∀ o, (partAt s p).owner = some o → (partAt s p).ctxs = [] → scrubCovers s (partAt s p) = false →
      ∃ t, exec (.partRelease port tag p) s = .next t ∧ (partAt t p).owner = none ∧ (partAt t p).cset = 0 ∧
        (partAt t p).quota = 0 ∧ (∃ x ∈ (partAt t p).scrubs, x.reason = 1 ∧ x.cset = (partAt s p).cset ∧ x.owner = o) ∧
        t.admin = s.admin ++ [(port, ⟨false, 0, 0, tag, s.cyc, [], port⟩)] ∧ (∀ k ∈ (partAt s p).grants, tget t.keys k = none) ∧
        ((partAt s p).grants = [] → t.mem = s.mem)) ∧
    (number < 256 → (∀ m ∈ members, m < 256) →
      ∃ t, exec (.domainForm port tag number members) s = .next t ∧ t.fabric.number = some number ∧
        (∀ m, m ∈ t.fabric.members ↔ m = number ∨ m ∈ members) ∧
        (∀ k, { partAt t k with virtio := (partAt s k).virtio } = partAt s k ∧
          { (partAt t k).virtio with isr := (partAt s k).virtio.isr, msix := (partAt s k).virtio.msix } = (partAt s k).virtio) ∧
        Claims.adminAnswered port tag 0
          { s with fabric := { s.fabric with number := t.fabric.number, members := t.fabric.members }, parts := t.parts } t) ∧
    (unit < 512 → ∃ t, exec (.retire port tag .core unit) s = .next t ∧
      (∀ k, k ∈ t.retCores ↔ k = unit ∨ k ∈ s.retCores) ∧ Claims.adminAnswered port tag 0 { s with retCores := t.retCores } t) ∧
    (∃ t, exec (.retire port tag .hbmRow unit) s = .next t ∧ t.mem = s.mem ∧
      (unit ∈ t.retRows ↔ unit ∈ s.retRows ∨ Config.spareRow s.retRows unit = true)) ∧
    (unit < 1024 → ∃ t, exec (.retire port tag .bank unit) s = .next t ∧
      (∀ k, k ∈ t.retBanks ↔ k = unit ∨ k ∈ s.retBanks) ∧ Claims.adminAnswered port tag 0 { s with retBanks := t.retBanks, array := t.array } t ∧
      ∀ e ∈ t.array, e.2.bank ≠ unit)

/-- R285, R286: a monitor whose counts have changed appends an entry to the log, chained to the one before, one without a change none, and
so does a bin that a sample saturates; a level monitor of source 4 counts the entries of the partition's notification queues,
of source 5 the operating point of each of its islands, and of source 6 the die temperature, in its
bin, with the smallest and the largest. What the first two read of the partition is the model's choice (log 85). -/
def Sys2Proof.Claims.MonitorsSample : Prop :=
  ∀ (s : State) (p m x : Nat) (q : Partition) (d : MonitorState), tget s.parts p = some q → tget q.monitors m = some d →
    (d.changed = true →
      ∃ t, exec (.monitorPeriodic p m) s = .next t ∧ (partAt t p).logSeq = (q.logSeq + 1) % 2 ^ 32 ∧
        (let body := logBytes q.logSeq m 0 s.cyc d
         (partAt t p).log.getLast? =
           some (body ++ fitBytes 16 (Config.sha384 (q.chain ++ body)) ++ List.replicate 16 0)) ∧
        tget (partAt t p).monitors m = some { d with changed := false } ∧ t = { s with parts := t.parts }) ∧
    (d.changed = false → ∃ t, exec (.monitorPeriodic p m) s = .next t ∧ (partAt t p).log = q.log) ∧
    (∀ (source base shift y : Nat), d.fields = .level source base shift →
      (source = 4 ∧ y = (q.notif.map (fun e => e.2.length)).sum) ∨
        (source = 5 ∧ q.cbase / 2 = q.climit / 2 ∧ q.cbase / 2 < 64 ∧ y = (islandAt s (q.cbase / 2)).point) ∨
        (source = 6 ∧ y = x) →
      let bin := min 15 ((y - base) / 2 ^ shift)
      tgetD d.counts 0 0 + 1 < 2 ^ 64 - 1 → tgetD d.counts (bin + 1) 0 < 2 ^ 16 - 1 →
      ∃ t e, exec (.levelSample p m x) s = .next t ∧ tget (partAt t p).monitors m = some e ∧ e.fields = d.fields ∧
        tgetD e.counts 0 0 = tgetD d.counts 0 0 + 1 ∧ tgetD e.counts (bin + 1) 0 = tgetD d.counts (bin + 1) 0 + 1 ∧
        (∀ k, k ≠ 0 → k ≠ bin + 1 → tgetD e.counts k 0 = tgetD d.counts k 0) ∧
        e.first ≤ y ∧ y ≤ e.last ∧ (tgetD d.counts 0 0 ≠ 0 → e.first = min d.first y ∧ e.last = max d.last y) ∧
        (tgetD d.counts (bin + 1) 0 + 1 < 2 ^ 16 - 1 → e.changed = true ∧ (partAt t p).log = q.log) ∧
        (tgetD d.counts (bin + 1) 0 + 1 = 2 ^ 16 - 1 → e.changed = false ∧ (partAt t p).logSeq = (q.logSeq + 1) % 2 ^ 32 ∧
          (partAt t p).log.getLast?.map (fun x => x.take 96) = some (logBytes q.logSeq m 2 s.cyc { e with changed := true })) ∧
        t = { s with parts := t.parts })

/-- R84, R153, R222, R229 to R231, R240, R246, R248 to R252, R256 to R258, R281, R283 to R286: what the commands of a virtual function
and its monitors do: `ContextCommands`, `WorkCommands`, `TableCommands`, `UpkeepCommands`, `QueuesNotified` and
`MonitorsSample`. -/
def Obligations.FrontEndCommands : Prop :=
  Claims.ContextCommands ∧ Claims.WorkCommands ∧ Claims.TableCommands ∧ Claims.UpkeepCommands ∧ Claims.QueuesNotified ∧
    Claims.MonitorsSample


/-! ### Events: the fabric -/

/-- R224, R225: a direct link is down after 16 flits in succession whose CRC failed, or 10 us without one, and used again after 1 ms up;
uplinks go down and come back. -/
def Sys2Proof.Claims.LinksChange : Prop :=
  ∀ (s : State) (k : Nat),
    let x := tgetD s.fabric.links k ⟨0, 0, none⟩
    let failed := 16 ≤ x.fails ∨ x.flit + 10000 ≤ s.cyc
    (k < 16 → failed →
      ∃ t, exec (.fabricLinkDown k) s = .next t ∧ (∀ j, j ∈ t.fabric.down ↔ j = k ∨ j ∈ s.fabric.down) ∧
        t = { s with fabric := { s.fabric with down := t.fabric.down } }) ∧
    (¬failed → exec (.fabricLinkDown k) s = .next s) ∧
    (∀ since, x.since = some since → ¬failed →
      (since + 1000000 ≤ s.cyc →
        ∃ t, exec (.fabricLinkRestore k) s = .next t ∧ (∀ j, j ∈ t.fabric.down ↔ j ≠ k ∧ j ∈ s.fabric.down) ∧
          t = { s with fabric := { s.fabric with down := t.fabric.down } }) ∧
      (s.cyc < since + 1000000 → exec (.fabricLinkRestore k) s = .next s)) ∧
    (failed ∨ x.since = none → exec (.fabricLinkRestore k) s = .next s) ∧
    (k < 16 →
      ∃ t, exec (.uplinkDown k) s = .next t ∧ (∀ j, j ∈ t.fabric.upDown ↔ j = k ∨ j ∈ s.fabric.upDown) ∧
        t = { s with fabric := { s.fabric with upDown := t.fabric.upDown } }) ∧
    (∃ t, exec (.uplinkUp k) s = .next t ∧ (∀ j, j ∈ t.fabric.upDown ↔ j ≠ k ∧ j ∈ s.fabric.upDown) ∧
      t = { s with fabric := { s.fabric with upDown := t.fabric.upDown } })

/-- R224, R225, R228: the link on which a path's packet leaves: the device itself (32), the direct link to the seat of its peer, that to
the first seat after it that can relay, or the next good uplink from the path's number on (16 and above); none while there is
no such link. Links between two other devices are taken to be good, which is the model's choice (log 15). -/
def Sys2Proof.Claims.leavesOn (s : State) (key : PathKey) (via : Option Nat) : Prop :=
  ∀ own, s.fabric.number = some own → key.peer ∈ s.fabric.members →
    let seat (j : Nat) := (key.peer % 16 + 1 + j) % 16
    let relays (j : Nat) := seat j ≠ own % 16 ∧ 16 * (own / 16) + seat j ∈ s.fabric.members ∧ seat j ∉ s.fabric.down
    let uplink (j : Nat) := (key.number + j) % 16
    let first (n : Nat) (good : Nat → Prop) (link : Nat → Nat) :=
      (∀ j < n, good j → (∀ i < j, ¬good i) → via = some (link j)) ∧ ((∀ j < n, ¬good j) → via = none)
    (key.peer = own → via = some 32) ∧
    (key.peer ≠ own → key.peer / 16 = own / 16 →
      (key.peer % 16 ∉ s.fabric.down → via = some (key.peer % 16)) ∧
      (key.peer % 16 ∈ s.fabric.down → first 15 relays seat)) ∧
    (key.peer / 16 ≠ own / 16 → first 16 (fun j => uplink j ∉ s.fabric.upDown) (fun j => 16 + uplink j))

/-- R225: what a device knows of its direct links after a flit on one of them. -/
def Sys2Proof.Claims.heardFlit (s t : State) (link : Nat) (crcOk : Bool) : Prop :=
  let at_ (u : State) (j : Nat) := tgetD u.fabric.links j ⟨0, 0, none⟩
  (∀ j, j ≠ link ∨ 16 ≤ link → at_ t j = at_ s j) ∧
  (link < 16 →
    (crcOk = false → at_ t link = ⟨(at_ s link).fails + 1, s.cyc, none⟩) ∧
    (crcOk = true → (at_ t link).fails = 0 ∧ (at_ t link).flit = s.cyc ∧
      ((at_ s link).since.isSome = true → s.cyc < (at_ s link).flit + 10000 → (at_ t link).since = (at_ s link).since) ∧
      ((at_ s link).since = none ∨ (at_ s link).flit + 10000 ≤ s.cyc → (at_ t link).since = some s.cyc)))

/-- R227: a path's acknowledgement: the next number that it expects, and the packets held beyond it. A packet received in sequence and
not yet performed counts as held, which is the model's choice (log 88). -/
def Sys2Proof.Claims.acknowledges (o : InPath) (next : BitVec 32) (bits : Word64) : Prop :=
  next = o.expected - BitVec.ofNat 32 o.ready.length ∧
  ∀ i < 64, bits.getLsbD i = true ↔ ∃ k ∈ o.ready.drop 1 ++ o.held, k.seq = next + 1 + BitVec.ofNat 32 i

/-- R224 to R228: a whole flit's packet is taken in sequence, held beyond a gap, or discarded, and acknowledged each time; one of a
reserved path or with a bad CRC is discarded, and one for another device is forwarded. -/
def Sys2Proof.Claims.FlitsAreReceived : Prop :=
  ∀ (s : State) (link dest : Nat) (path : PathKey) (packet : Packet), packet.path = path →
    let reserved := (320 ≤ path.number ∧ path.number < 512) ∨ 1536 ≤ path.number
    let only (t : State) : Prop := t = { s with fabric := { s.fabric with links := t.fabric.links } }
    (∃ t, exec (.fabricFlitReceive link dest false packet) s = .next t ∧ Claims.heardFlit s t link false ∧ only t) ∧
    (reserved →
      ∃ t, exec (.fabricFlitReceive link dest true packet) s = .next t ∧ Claims.heardFlit s t link true ∧ only t) ∧
    (¬reserved → s.fabric.number = some dest →
      let o := inPath s path
      ∃ t via next bits, exec (.fabricFlitReceive link dest true packet) s = .next t ∧ Claims.heardFlit s t link true ∧
        (∀ key, key ≠ path → inPath t key = inPath s key) ∧
        t.fabric.acks = s.fabric.acks ++ [⟨via, path.peer, path, next, bits, none⟩] ∧ Claims.leavesOn s path via ∧
        Claims.acknowledges (inPath t path) next bits ∧
        t = { s with fabric := { s.fabric with ins := t.fabric.ins, links := t.fabric.links, acks := t.fabric.acks } } ∧
        (packet.seq = o.expected → o.held = [] →
          inPath t path = { o with key := path, expected := o.expected + 1, ready := o.ready ++ [packet] }) ∧
        (∀ h, packet.seq = o.expected → o.held = [h] → h.seq = o.expected + 1 →
          inPath t path = { o with key := path, expected := o.expected + 2, ready := o.ready ++ [packet, h], held := [] }) ∧
        (packet.seq ≠ o.expected → (packet.seq - o.expected).toNat < 2 ^ 31 → o.held.length < 512 →
          (∀ x ∈ o.held, x.seq ≠ packet.seq) → inPath t path = { o with key := path, held := o.held ++ [packet] }) ∧
        (2 ^ 31 ≤ (packet.seq - o.expected).toNat → inPath t path = { o with key := path })) ∧
    (∀ own, ¬reserved → s.fabric.number = some own → own ≠ dest → own / 16 = dest / 16 → dest % 16 ∉ s.fabric.down →
      ∃ t, exec (.fabricFlitReceive link dest true packet) s = .next t ∧ Claims.heardFlit s t link true ∧
        t.fabric.relayed = s.fabric.relayed ++ [(dest % 16, dest, packet)] ∧
        t = { s with fabric := { s.fabric with links := t.fabric.links, relayed := t.fabric.relayed } })

/-- R224 to R228, R233: an acknowledgement takes the packets before its number off the path and sends again those that its bitmap shows
missing, as a packet that has waited 4 us is; its report of discarded stores raises REFLECT_LOST in the path's partition (that it
travels so is the model's choice, log 98); one for another device is forwarded as it came. A path whose oldest packet has waited 100 ms
loses its packets; a buffered store leaves in order. What leaves takes the link that `leavesOn` gives. -/
def Sys2Proof.Claims.PacketsTravel : Prop :=
  ∀ (s : State) (path : PathKey) (next seq : Nat) (held : Word64),
    (∀ (link dest : Nat) (lost : Option (Nat × Nat × Nat)), s.fabric.number = some dest →
      ∃ t, exec (.fabricAckReceive ⟨link, dest, path⟩ next held lost) s = .next t ∧ Claims.heardFlit s t link true ∧
      (lost = none → ∀ k, (tget t.parts k).map Claims.unwatched = (tget s.parts k).map Claims.unwatched) ∧
      (∀ va image count q, lost = some (va, image, count) → tget s.parts path.part = some q → q.held = [] → q.ring = [] →
        0 < q.buffers → (partAt t path.part).delivered =
          q.delivered ++ [⟨true, 3, 0, 0, s.cyc, [path.peer, path.number, 0, va, image, count], 0⟩]) ∧
      (∀ k, k ≠ path.part → tget t.parts k = tget s.parts k) ∧
      (unackedOn t path).map (·.packet) =
        ((unackedOn s path).map (·.packet)).filter (fun k => decide ((k.seq - BitVec.ofNat 32 next).toNat < 2 ^ 31)) ∧
      (∀ y ∈ unackedOn t path,
        let d := (y.packet.seq - BitVec.ofNat 32 next).toNat
        let missing := (d = 0 ∧ held ≠ 0) ∨
          (1 ≤ d ∧ d ≤ 64 ∧ held.getLsbD (d - 1) = false ∧ ∃ i, d ≤ i ∧ i < 64 ∧ held.getLsbD i = true)
        (missing → y.last = s.cyc ∧ Claims.leavesOn s path y.via) ∧ (¬missing → y ∈ unackedOn s path)) ∧
      (∀ key, key ≠ path → unackedOn t key = unackedOn s key) ∧
      t = { s with parts := t.parts, fabric := { s.fabric with links := t.fabric.links, outs := t.fabric.outs } }) ∧
    (∀ (link dest own : Nat) (lost : Option (Nat × Nat × Nat)), s.fabric.number = some own → own ≠ dest → own / 16 = dest / 16 →
      dest % 16 ∉ s.fabric.down →
      ∃ t, exec (.fabricAckReceive ⟨link, dest, path⟩ next held lost) s = .next t ∧ Claims.heardFlit s t link true ∧
        t.fabric.acks = s.fabric.acks ++ [⟨some (dest % 16), dest, path, BitVec.ofNat 32 next, held, lost⟩] ∧
        t = { s with fabric := { s.fabric with links := t.fabric.links, acks := t.fabric.acks } }) ∧
    (∃ t via, exec (.fabricRetransmitTimeout path seq) s = .next t ∧ Claims.leavesOn s path via ∧
      unackedOn t path = (unackedOn s path).map (fun k =>
        if k.packet.seq = BitVec.ofNat 32 seq ∧ k.last + 4000 ≤ s.cyc then { k with last := s.cyc, via := via } else k) ∧
      (∀ key, key ≠ path → unackedOn t key = unackedOn s key) ∧ t = { s with fabric := t.fabric }) ∧
    (∀ x xs, unackedOn s path = x :: xs → path.number ≤ 319 → x.first + 100000000 ≤ s.cyc →
      ∃ t, exec (.fabricPathFailed path) s = .next t ∧ unackedOn t path = [] ∧
        (∀ key, key ≠ path → unackedOn t key = unackedOn s key) ∧ t.mem = s.mem ∧
        (256 ≤ path.number → path.reverse = false → ∀ w ∈ t.allWaves, w.span.part = path.part → ∀ e ∈ w.tokens, ∀ g ∈ e.2,
          g.device = path.peer → g.group / 2 ^ 8 % 64 + 256 = path.number → g.status.isSome = true)) ∧
    (∀ (p entry : Nat) (q : Partition) (before after : List (PathKey × Payload)) (e : PathKey × Payload),
      tget s.parts p = some q → q.combining = before ++ e :: after → (∀ x ∈ before, x.1.number ≠ entry) →
      e.1.number = entry → reachable s e.1.peer = true →
      ∃ t y, exec (.combiningBufferDrain p entry) s = .next t ∧ (partAt t p).combining = before ++ after ∧
        unackedOn t e.1 = unackedOn s e.1 ++ [y] ∧ y.packet.path = e.1 ∧ y.packet.payload = e.2 ∧ y.first = s.cyc ∧
        y.last = s.cyc ∧ Claims.leavesOn s e.1 y.via ∧
        (∀ key, key ≠ e.1 → unackedOn t key = unackedOn s key) ∧ t = { s with parts := t.parts, fabric := t.fabric })

/-- The bytes of a list as a store of them at an address puts them, each with its key and physical address, lowest first. -/
def Sys2Proof.Claims.putAt (l : Leaf) (va : Nat) (bs : List Byte) : List (Nat × Nat × Byte) :=
  bs.zipIdx.map (fun e => (l.key, l.pa (va + e.2), e.1))

/-- A store from outside is performed: its bytes stand in memory and every other byte is as before, poison ends in the sectors that it
covers, and of the rest of the device only the bank array, the monitors and what `rest` names change (R143, R157, R271). -/
def Sys2Proof.Claims.arrived (bs : List (Nat × Nat × Byte)) (s t : State) : Prop :=
  Claims.bytesStored bs s t ∧ Claims.poisonCovered bs s t ∧
    t = { s with mem := t.mem, lineKey := t.lineKey, array := t.array, poison := t.poison, parts := t.parts, fabric := t.fabric }

/-- Whether a packet carries a store (R233). -/
def Sys2Proof.Claims.carriesStore (k : Packet) : Bool :=
  match k.payload with
  | .store _ _ _ _ _ => true
  | .remoteStore _ _ _ => true
  | _ => false

/-- R157, R232, R233, R271: the store at the head of a path is performed where the checks of R232 pass: its bytes, or each lane's word,
stand in memory, the highest lane's where several write one byte, every other byte is as it was, and the path goes on. The service that
answers a held path's fault lets it go on, or its store and all behind it are lost: the partition of the store's ASID, where owned, has
REFLECT_LOST, and the acknowledgement to another device reports it (log 98). Lanes ascend (R235). -/
def Sys2Proof.Claims.StoresArrive : Prop :=
  ∀ (s : State) (path : PathKey) (asid : Nat),
    let took (t : State) : Prop := inPath t path = { inPath s path with key := path, ready := (inPath s path).ready.drop 1 } ∧
      ∀ k, (tget t.parts k).map Claims.unwatched = (tget s.parts k).map Claims.unwatched
    (∀ (va localVa wave : Nat) (bytes : List Byte) (l : Leaf), nextPayload s path = some (.store asid va localVa bytes wave) →
      asidOpen s asid = true → arriveOne s asid va = .ok l → bytes.length ≤ 128 →
      ∃ t, exec (.reflectedStoreArrive path) s = .next t ∧ took t ∧ Claims.arrived (Claims.putAt l va bytes) s t) ∧
    (∀ (lanes : List RemoteLane) (wave : Nat) (leaf : RemoteLane → Leaf),
      nextPayload s path = some (.remoteStore asid lanes wave) →
      asidOpen s asid = true → (∀ r ∈ lanes, arriveOne s asid r.va = .ok (leaf r)) →
      ∃ t, exec (.reflectedStoreArrive path) s = .next t ∧ took t ∧
        Claims.arrived (lanes.flatMap (fun r => Claims.storedAt (leaf r) r.va 4 r.value.toNat)) s t) ∧
    (∀ (id : Nat) (k : Packet) (ks : List Packet), (inPath s path).fault = some id → (inPath s path).ready = k :: ks →
      (∃ t, exec (.pathFaultServiced path true) s = .next t ∧
        inPath t path = { inPath s path with key := path, fault := none } ∧ t.mem = s.mem) ∧
      (∀ va localVa bytes wave, k.payload = .store asid va localVa bytes wave →
        let count := ((inPath s path).ready.filter Claims.carriesStore).length
        ∃ t, exec (.pathFaultServiced path false) s = .next t ∧ (inPath t path).ready = [] ∧ (inPath t path).fault = none ∧
          t.mem = s.mem ∧
          (s.fabric.number ≠ some path.peer →
            ∃ a ∈ t.fabric.acks, a.path = path ∧ a.dest = path.peer ∧ a.lost = some (va, localVa, count)) ∧
          (∀ q, tget s.parts (asid / 16) = some q → q.owner.isSome = true → q.held = [] → q.ring = [] → 0 < q.buffers →
            ∃ r ∈ (partAt t (asid / 16)).delivered, r.event = true ∧ r.code = 3 ∧ r.ctx = 0 ∧
              r.detail = [path.peer, path.number, 0, va, localVa, count])))

/-- The operation of a RATOM on the word found and its operand (R236). -/
def Sys2Proof.Claims.remoteResult (rop : Nat) (old x : Word32) : Word32 :=
  match rop with
  | 0 => BitVec.ofNat 32 (old.toNat + x.toNat)
  | 1 => if old.toNat ≤ x.toNat then old else x
  | 2 => if old.toNat ≤ x.toNat then x else old
  | _ => old ||| x

/-- The words that the lanes of a RATOM find, one after another, and all words afterwards, from the words before: `word` is the
physical address of a lane's word (R159, R236). -/
def Sys2Proof.Claims.remoteWords (rop : Nat) (word : RemoteLane → Nat) : List RemoteLane → (Nat → Word32) → List Word32 × (Nat → Word32)
  | [], f => ([], f)
  | r :: rs, f =>
    let x := remoteWords rop word rs (fun k => if k = word r then Claims.remoteResult rop (f k) r.value else f k)
    (f (word r) :: x.1, x.2)

/-- The words of a reply are written one after another, each where its address, given by `at_`, takes a store of its context then; a word
that does not is passed over, and no other byte changes (R236). -/
def Sys2Proof.Claims.repliesWritten (part ctx : Nat) (at_ : RemoteLane → Nat) : List RemoteLane → State → State → Prop
  | [], s, t => ∀ key pa, memByte t key pa = memByte s key pa
  | r :: rs, s, t => ∃ u, u = { s with mem := u.mem, lineKey := u.lineKey, array := u.array, poison := u.poison } ∧
      (match access s part ctx .store (at_ r) 4 with
       | .ok l => Claims.bytesStored (Claims.storedAt l (at_ r) 4 r.value.toNat) s u ∧
          Claims.poisonCovered (Claims.storedAt l (at_ r) 4 r.value.toNat) s u
       | .error _ => (∀ key pa, memByte u key pa = memByte s key pa) ∧ u.poison = s.poison) ∧
      repliesWritten part ctx at_ rs u t

/-- R159, R232, R236, R238: an arriving RATOM whose lanes pass the checks performs each, one after another, and replies with the words
found; no other byte changes. An error that repeats writes nothing and replies POISON. The reply writes the old word of every lane where
its page takes a store, and answers its group; a refusal, or one whose entry is not valid, writes nothing. -/
def Sys2Proof.Claims.RemoteAtomicsServed : Prop :=
  ∀ (s : State) (path : PathKey) (asid rop wave token group n : Nat) (lanes : List RemoteLane) (leaf : RemoteLane → Leaf),
    let back : PathKey := { path with reverse := true }
    (nextPayload s path = some (.remoteAtomic asid rop lanes wave token group n) →
      asidOpen s asid = true → (∀ r ∈ lanes, arriveOne s asid r.va = .ok (leaf r) ∧ Claims.unpoisoned s (leaf r) r.va 4) →
      (∀ (bad : Bool) (before : Nat → Word32),
        let word (r : RemoteLane) := (leaf r).pa r.va
        (∀ r ∈ lanes, word r % 4 = 0 ∧ (∀ j < 4, (leaf r).pa (r.va + j) = word r + j) ∧
          (before (word r)).toNat = loadLe s (leaf r) r.va 4 ∧
          ∀ q ∈ lanes, word q / 128 = word r / 128 → (leaf q).key = (leaf r).key) →
        ∃ t, exec (.remoteAtomic path bad false) s = .next t ∧
          (let x := Claims.remoteWords rop word lanes before
           Claims.onPath t back = Claims.onPath s back ++
              [.atomicReply 0 ((lanes.zip x.1).map (fun e => { e.1 with value := e.2 })) wave token group n] ∧
           (∀ r ∈ lanes, loadLe t (leaf r) r.va 4 = (x.2 (word r)).toNat)) ∧
          (∀ key pa, (∀ r ∈ lanes, word r / 128 = pa / 128 → (leaf r).key = key) → (∀ r ∈ lanes, word r / 4 ≠ pa / 4) →
            memByte t key pa = memByte s key pa) ∧
          (∀ k, (tget t.parts k).map Claims.unwatched = (tget s.parts k).map Claims.unwatched) ∧
          t = { s with mem := t.mem, lineKey := t.lineKey, array := t.array, parts := t.parts, fabric := t.fabric }) ∧
      (∃ t, exec (.remoteAtomic path true true) s = .next t ∧
        Claims.onPath t back = Claims.onPath s back ++ [.atomicReply 3 [] wave token group n] ∧ t.mem = s.mem)) ∧
    (∀ (status : Nat) (olds : List RemoteLane) (w : Wave) (gs : List RatomGroup),
      nextPayload s path = some (.atomicReply status olds wave token group n) →
      s.findWave (wave / 2) = some w → tget w.tokens token = some gs →
      ∃ t, exec (.ratomReply path) s = .next t ∧
        t.findWave (wave / 2) = some { w with tokens := tset w.tokens token (gs.map (fun g =>
          if g.group = group ∧ g.status = none then { g with status := some status, heard := w.ratoms } else g)) } ∧
        (∀ j, j ≠ wave / 2 → t.findWave j = s.findWave j) ∧
        (∀ (e : EntryWords), status = 0 → ratEntry s path.part (group / 2 ^ 8 % 64) = some e →
          Claims.repliesWritten path.part n
            (fun r => (e.w3.toNat + 256 * (group / 2 ^ 16 % 64) + 4 * r.lane) % 2 ^ 64) olds s t) ∧
        (status ≠ 0 ∨ ratEntry s path.part (group / 2 ^ 8 % 64) = none → ∀ key pa, memByte t key pa = memByte s key pa))

/-- R216, R217: an arriving record that names no domain is refused with LINK; one for an account or a cell of a domain with a link that
names its source adds its amount there and is acknowledged. An acknowledgement counts on its link; a refusal refunds the amount. That
the domain named is one of the path's partition is the model's choice (log 42). -/
def Sys2Proof.Claims.RecordsApply : Prop :=
  ∀ (s : State) (path : PathKey) (device domid link peer source dest wave : Nat) (amount : Int),
    let back : PathKey := { path with reverse := true }
    let answer (x : Payload) (t : State) : Prop := Claims.onPath t back = Claims.onPath s back ++ [x]
    (nextPayload s path = some (.record device domid link peer source dest amount wave) →
      (findDomain s path.part peer = none →
        ∃ t, exec (.xferRecordApply path) s = .next t ∧ answer (.recordRefusal domid link source dest amount 1 wave) t ∧
          t.parts = s.parts ∧ t.mem = s.mem) ∧
      (∀ (d : Domain) (k : Nat), findDomain s path.part peer = some d → linkNaming d device domid = some k →
        (2 ^ 31 ≤ dest → dest / 2 ^ 4 % 2 ^ 23 = 0 → dest % 16 < d.bal.length →
          -(2 ^ 63) ≤ d.bal.getD (dest % 16) 0 + amount → d.bal.getD (dest % 16) 0 + amount < 2 ^ 63 →
          ∃ t e, exec (.xferRecordApply path) s = .next t ∧ findDomain t path.part peer = some e ∧
            answer (.recordAck domid link amount wave) t ∧ t.mem = s.mem ∧
            (∀ j < d.bal.length, e.bal.getD j 0 = d.bal.getD j 0 + (if j = dest % 16 then amount else 0)) ∧
            (e.links.map (·.applied)).sum = (d.links.map (·.applied)).sum + amount ∧
            { e with bal := d.bal, links := d.links } = d) ∧
        (∀ l : Leaf, dest < 2 ^ 31 → dest % 2 ^ 27 < d.ncell →
          (let va := d.base + 4 * (dest % 2 ^ 27)
           cellLeaf s path.part d.ctx peer va = .ok l → Claims.unpoisoned s l va 4 →
           -(2 ^ 31) ≤ cellValue s l va + amount → cellValue s l va + amount < 2 ^ 31 →
           ∃ t e, exec (.xferRecordApply path) s = .next t ∧ findDomain t path.part peer = some e ∧
            answer (.recordAck domid link amount wave) t ∧ cellValue t l va = cellValue s l va + amount ∧
            e.interior = d.interior + amount ∧
            (e.links.map (·.applied)).sum = (d.links.map (·.applied)).sum + amount ∧
            { e with interior := d.interior, links := d.links } = d)))) ∧
    (∀ (d : Domain), findDomain s path.part domid = some d → link < d.links.length →
      (nextPayload s path = some (.recordAck domid link amount wave) →
        ∃ t e, exec (.xferRecordAck path) s = .next t ∧ findDomain t path.part domid = some e ∧
          (∀ j, (e.links.map (·.acked)).getD j 0 = (d.links.map (·.acked)).getD j 0 + (if j = link then amount else 0)) ∧
          { e with links := d.links } = d ∧ tgetD t.unanswered wave 0 = tgetD s.unanswered wave 0 - 1 ∧ t.mem = s.mem) ∧
      (∀ (reason : Nat) (w : Wave), nextPayload s path = some (.recordRefusal domid link source dest amount reason wave) →
        2 ^ 31 ≤ source → source % 16 < d.bal.length → s.findWave wave = some w →
        ∃ t e, exec (.xferRecordRefusal path) s = .next t ∧ findDomain t path.part domid = some e ∧
          (∀ j, (e.links.map (·.refunded)).getD j 0 = (d.links.map (·.refunded)).getD j 0 + (if j = link then amount else 0)) ∧
          (∀ j < d.bal.length, e.bal.getD j 0 = d.bal.getD j 0 + (if j = source % 16 then amount else 0)) ∧
          { e with links := d.links, bal := d.bal } = d ∧
          t.findWave wave = some { w with refused := w.refused ++ [⟨source, dest, link, amount, reason⟩] } ∧
          tgetD t.unanswered wave 0 = tgetD s.unanswered wave 0 - 1 ∧ t.mem = s.mem))

/-- R157, R216, R217, R224 to R228, R232, R233, R236, R238: the events of the scale-up fabric: `LinksChange`, `FlitsAreReceived`,
`PacketsTravel`, `StoresArrive`, `RemoteAtomicsServed` and `RecordsApply`. -/
def Obligations.FabricEventsTakeEffect : Prop :=
  Claims.LinksChange ∧ Claims.FlitsAreReceived ∧ Claims.PacketsTravel ∧ Claims.StoresArrive ∧ Claims.RemoteAtomicsServed ∧
    Claims.RecordsApply

/-! ### Events: the scale-out network -/

/-- R239: the UDP checksum of a datagram is right: with it, the one's complement sum of all that it covers is zero (RFC 768, with the
pseudo-header of RFC 8200). -/
def Sys2Proof.Claims.checksumRight (h : NetHeader) (data : List Byte) : Prop :=
  let length := 8 + data.length
  let halves (a : BitVec 128) : Nat := ((List.range 8).map (fun k => a.toNat / 2 ^ (16 * k) % 2 ^ 16)).sum
  let sum := halves h.source + halves h.dest + length / 2 ^ 16 + length % 2 ^ 16 + 17 + h.srcPort + h.dstPort +
    length % 2 ^ 16 + (data.zipIdx.map (fun e => if e.2 % 2 = 0 then 256 * e.1.toNat else e.1.toNat)).sum
  1 ≤ h.checksum ∧ h.checksum < 2 ^ 16 ∧ (sum + h.checksum) % 65535 = 0

/-- R239, R240: a frame that the device accepts: its size, at most one tag, no pause frame, IPv6 without an extension header, and a UDP
datagram to the transport's port with its checksum right. -/
def Sys2Proof.Claims.goodFrame (h : NetHeader) (data : List Byte) : Prop :=
  h.size ≤ 9216 ∧ h.tags ≤ 1 ∧ h.pause = false ∧ h.ipv6 = true ∧ h.extension = false ∧ h.dstPort = 45170 ∧ Claims.checksumRight h data

/-- R241: the 16 bytes of a transport header: version and kind, zero, PSN, receiving flow, payload length, and the target VA or what an
acknowledgement has in its place, all little-endian. -/
def Sys2Proof.Claims.transport (h : NetHeader) (psn flow target : Nat) : List Byte :=
  (List.range 16).map (fun j => BitVec.ofNat 8 (
    if j = 0 then 16 * h.version + h.kind
    else if j = 1 then h.reserved
    else if j < 4 then psn / 256 ^ (j - 2)
    else if j < 6 then flow / 256 ^ (j - 4)
    else if j < 8 then h.length / 256 ^ (j - 6)
    else target / 256 ^ (j - 8)))

/-- R241: the datagram of a data packet: its header, its payload, and a kind-1 packet's immediate. -/
def Sys2Proof.Claims.dataDatagram (x : NetPacket) : List Byte :=
  Claims.transport x.header x.psn.toNat x.flow x.va ++ x.payload ++
    (match x.immediate with
     | some e => (List.range 4).map (fun j => BitVec.ofNat 8 (e.1.toNat / 256 ^ j))
     | none => [])

/-- R241: the datagram of an acknowledgement: its header with the next expected PSN in bytes 8 to 9, and the bitmap. That PSN and length
are 0, that the bitmap follows the header, and that the status of R242 stands in byte 10 is the model's choice (log 97). -/
def Sys2Proof.Claims.ackDatagram (x : NetAck) : List Byte :=
  Claims.transport x.head.header 0 x.head.flow (x.next.toNat + 2 ^ 16 * (x.status % 256)) ++
    (List.range 16).map (fun j => BitVec.ofNat 8 (x.held.toNat / 256 ^ j))

/-- R241: the transport header of a data packet. -/
def Sys2Proof.Claims.goodHeader (x : NetPacket) : Prop :=
  x.header.version = 1 ∧ (x.header.kind = 0 ∧ x.immediate = none ∨ x.header.kind = 1 ∧ x.immediate.isSome = true) ∧
    x.header.reserved = 0 ∧ x.header.length = x.payload.length ∧ x.payload.length ≤ 8192

/-- R241: the transport header of an acknowledgement. -/
def Sys2Proof.Claims.goodAck (h : NetHeader) : Prop := h.version = 1 ∧ h.kind = 2 ∧ h.reserved = 0 ∧ h.length = 0

/-- R239 to R242: an acknowledgement that a flow sends: the next expected PSN, and those received beyond it, to the flow of the peer, in a
frame that its own rules accept but for the port: no tag and no extension header, hop limit 64, the flow's addresses, ports and
traffic class, and the checksum. -/
def Sys2Proof.Claims.netAcknowledges (f : FlowFields) (expected : BitVec 16) (beyond : List (BitVec 16)) (status : Nat) (a : NetAck) :
    Prop :=
  let h := a.head.header
  a.next = expected ∧ a.status = status ∧ (∀ i < 128, a.held.getLsbD i = true ↔ expected + 1 + BitVec.ofNat 16 i ∈ beyond) ∧
    a.head.flow = f.remoteFlow ∧ Claims.goodAck h ∧ h.tags = 0 ∧ h.pause = false ∧ h.ipv6 = true ∧ h.extension = false ∧ h.hops = 64 ∧
    h.tclass = f.tclass ∧ h.source = f.localAddr ∧ h.dest = f.remoteAddr ∧ h.srcPort = f.localPort ∧ h.dstPort = f.remotePort ∧
    Claims.checksumRight h (Claims.ackDatagram a)

/-- The bytes of a packet's payload, each with its key and physical address, in the pieces that `payloadParts` cuts, each under the leaf of
its address. -/
def Sys2Proof.Claims.payloadAt (x : NetPacket) (leaf : Nat → Leaf) : List (Nat × Nat × Byte) :=
  (payloadParts x.va x.payload).flatMap (fun e => Claims.putAt (leaf e.1) e.1 e.2)

/-- The pieces of a payload are the whole payload: joined they give it, and each stands at the target VA plus the bytes before it, modulo
2^64, inside 64 bytes. -/
def Sys2Proof.Claims.PayloadsAreWhole : Prop :=
  ∀ (va : Nat) (bs : List Byte),
    ((payloadParts va bs).flatMap (·.2)) = bs ∧
    ∀ (before after : List (Nat × List Byte)) (e : Nat × List Byte), payloadParts va bs = before ++ e :: after →
      e.1 = (va + (before.flatMap (·.2)).length) % 2 ^ 64 ∧ e.1 % 64 + e.2.length ≤ 64

/-- R175, R239 to R243: a good packet that is the next of its flow is taken: its whole payload stands in memory, every other byte is as it
was, the next PSN is expected, and an immediate whose message is whole enters its notification queue where no wave waits on it. Every
sixteenth packet is acknowledged, and every whole message; one ahead of its turn is kept in mind, one received before is acknowledged
again, and a refused payload leaves memory as it was and its message without its immediate. A frame or header that is not good, and a
packet of no flow or beyond the window, is dropped. That a refused message is acknowledged with the status of its first refused payload
is the model's choice (log 63). -/
def Sys2Proof.Claims.PacketsTaken : Prop :=
  ∀ (s : State) (p : Nat) (x : NetPacket),
    let framed := Claims.goodFrame x.header (Claims.dataDatagram x)
    (¬(framed ∧ Claims.goodHeader x) → exec (.networkPacketReceive p x) s = .next s) ∧
    (findFlow s p x.flow = none → exec (.networkPacketReceive p x) s = .next s) ∧
    (∀ (f : Flow), findFlow s p x.flow = some f → framed → Claims.goodHeader x →
      let ahead := (x.psn - f.expected).toNat
      let due := 16 ≤ f.sinceAck + 1
      (2 ^ 15 ≤ ahead ∨ x.psn ∈ f.beyond →
        ∃ t a, exec (.networkPacketReceive p x) s = .next t ∧
          findFlow t p x.flow = some { f with acks := f.acks ++ [a], sinceAck := 0, ackedAt := s.cyc } ∧
          Claims.netAcknowledges f.fields f.expected f.beyond f.ended a ∧ t = { s with parts := t.parts }) ∧
      (ahead < 2 ^ 15 → x.psn ∉ f.beyond →
        (8192 ≤ ahead ∨ f.fault.isSome = true → exec (.networkPacketReceive p x) s = .next s) ∧
        (ahead < 8192 → f.fault = none → (∀ e ∈ f.bad, e.1 ≠ x.psn) → f.expected ∉ f.beyond →
          (∀ e, x.immediate = some e → queueLoad s p (e.2 % 64) < 1024) →
          (∀ (leaf : Nat → Leaf), x.asid / 16 = p → asidOpen s x.asid = true →
            (∀ e ∈ payloadParts x.va x.payload, arriveOne s x.asid e.1 = .ok (leaf e.1)) →
            ∃ t g, exec (.networkPacketReceive p x) s = .next t ∧ findFlow t p x.flow = some g ∧ g.heard = s.cyc ∧
              g.fields = f.fields ∧ g.unacked = f.unacked ∧
              Claims.bytesStored (Claims.payloadAt x leaf) s t ∧ Claims.poisonCovered (Claims.payloadAt x leaf) s t ∧
              (∀ k, k ≠ p → tget t.parts k = tget s.parts k) ∧
              (ahead ≠ 0 ∨ (x.immediate = none ∧ f.holding = []) →
                t = { s with mem := t.mem, lineKey := t.lineKey, array := t.array, poison := t.poison, parts := t.parts }) ∧
              (ahead ≠ 0 → g.expected = f.expected ∧ g.beyond = f.beyond ++ [x.psn] ∧
                (partAt t p).notif = (partAt s p).notif) ∧
              (ahead = 0 → f.beyond = [] → f.holding = [] → g.expected = f.expected + 1 ∧
                (x.immediate = none → (partAt t p).notif = (partAt s p).notif ∧
                  g.sinceAck = (if due then 0 else f.sinceAck + 1) ∧
                  (¬due → g.acks = f.acks) ∧
                  (due → g.ackedAt = s.cyc ∧
                    ∃ a, g.acks = f.acks ++ [a] ∧ Claims.netAcknowledges f.fields (f.expected + 1) [] f.ended a)) ∧
                (∀ word queue, x.immediate = some (word, queue) → f.spoiled = 0 → firstListener s p queue = none →
                  tgetD (partAt t p).notif queue [] = tgetD (partAt s p).notif queue [] ++ [(word, x.flow)] ∧
                  g.sinceAck = 0 ∧
                  ∃ a, g.acks = f.acks ++ [a] ∧ Claims.netAcknowledges f.fields (f.expected + 1) [] 0 a))) ∧
          (x.asid / 16 ≠ p ∨ asidOpen s x.asid = false → ahead = 0 → f.beyond = [] → f.holding = [] → f.spoiled = 0 →
            ∃ t g, exec (.networkPacketReceive p x) s = .next t ∧ findFlow t p x.flow = some g ∧
              g.expected = f.expected + 1 ∧ t = { s with parts := t.parts } ∧
              (partAt t p).notif = (partAt s p).notif ∧
              (x.immediate = none → g.spoiled = 1) ∧
              (x.immediate.isSome = true → g.spoiled = 0 ∧
                ∃ a, g.acks = f.acks ++ [a] ∧ Claims.netAcknowledges f.fields (f.expected + 1) [] 1 a)))))

/-- R239, R241, R242: an acknowledgement in a good frame, with a good header, takes the packets before its PSN off the flow and ends the
NWRIs that have sent all of theirs, and any other is dropped; a packet that has waited for the flow's timeout is sent again; a flow that
owes an acknowledgement and has been silent for 100 ms, or has been cleared, ends its NWRIs; the receiver's timer acknowledges what it
has received, 2 us after its last acknowledgement. That the flow's being cleared ends them at this event, and that the status of a
refused payload comes with the last acknowledgement, is the model's choice (log 63). -/
def Sys2Proof.Claims.FlowsGoOn : Prop :=
  ∀ (s : State) (p flow next psn status : Nat) (held : BitVec 128),
    let ended (status : Nat) (test : Cmd → Prop) (t : State) : Prop := ∀ core c, headCmd s core 4 = some c →
      c.span.part = p → c.phase = .running → test c →
      headCmd t core 4 = some { c with phase := .finished status c.step none }
    exec .neighbourDiscovery s = .next s ∧
    (findFlow s p flow = none → ∃ t, exec (.networkFlowSilent p flow) s = .next t ∧
      ended 5 (fun c => c.flow.map (·.1) = some flow) t ∧ t = { s with cores := t.cores }) ∧
    (∀ h, ¬(Claims.goodFrame h (Claims.ackDatagram ⟨⟨h, flow⟩, BitVec.ofNat 16 next, held, status⟩) ∧ Claims.goodAck h) ∨
        findFlow s p flow = none → exec (.networkAckReceive p ⟨h, flow⟩ next held status) s = .next s) ∧
    (∀ f, findFlow s p flow = some f →
      (∀ h, Claims.goodFrame h (Claims.ackDatagram ⟨⟨h, flow⟩, BitVec.ofNat 16 next, held, status⟩) → Claims.goodAck h →
        ∃ t g, exec (.networkAckReceive p ⟨h, flow⟩ next held status) s = .next t ∧ findFlow t p flow = some g ∧
        g.unacked.map (·.packet) =
          (f.unacked.map (·.packet)).filter (fun k => decide ((k.psn - BitVec.ofNat 16 next).toNat < 2 ^ 15)) ∧
        (∀ y ∈ g.unacked,
          let d := (y.packet.psn - BitVec.ofNat 16 next).toNat
          let missing := (d = 0 ∧ held ≠ 0) ∨
            (1 ≤ d ∧ d ≤ 128 ∧ held.getLsbD (d - 1) = false ∧ ∃ i, d ≤ i ∧ i < 128 ∧ held.getLsbD i = true)
          (missing → y.last = s.cyc) ∧ (¬missing → y ∈ f.unacked)) ∧
        g.heard = s.cyc ∧ { g with unacked := f.unacked, heard := f.heard } = f ∧
        ended status (fun c => c.sentBefore flow (BitVec.ofNat 16 next) = true) t ∧
        t = { s with parts := t.parts, cores := t.cores }) ∧
      (∃ t g, exec (.networkRetransmitTimeout p flow psn) s = .next t ∧ findFlow t p flow = some g ∧
        g = { f with unacked := f.unacked.map (fun k =>
          if k.packet.psn = BitVec.ofNat 16 psn ∧ k.last + f.timeout ≤ s.cyc then { k with last := s.cyc } else k) } ∧
        t = { s with parts := t.parts }) ∧
      (∀ k ks, f.unacked = k :: ks → k.first + 100000000 ≤ s.cyc → f.heard + 100000000 ≤ s.cyc →
        ∃ t, exec (.networkFlowSilent p flow) s = .next t ∧ findFlow t p flow = some { f with unacked := [] } ∧
          ended 1 (fun c => c.flow.map (·.1) = some flow) t) ∧
      (f.sinceAck = 0 ∨ s.cyc < f.ackedAt + 2000 → ∃ t, exec (.networkAckTimer p flow) s = .next t ∧ findFlow t p flow = some f ∧
        t = { s with parts := t.parts }) ∧
      (f.sinceAck ≠ 0 → f.ackedAt + 2000 ≤ s.cyc → ∃ t a, exec (.networkAckTimer p flow) s = .next t ∧
        findFlow t p flow = some { f with acks := f.acks ++ [a], sinceAck := 0, ackedAt := s.cyc } ∧
        Claims.netAcknowledges f.fields f.expected f.beyond f.ended a ∧ t = { s with parts := t.parts }))

/-- R175, R239 to R243: the events of the scale-out network: `PayloadsAreWhole`, `PacketsTaken` and `FlowsGoOn`. -/
def Obligations.NetworkEventsTakeEffect : Prop :=
  Claims.PayloadsAreWhole ∧ Claims.PacketsTaken ∧ Claims.FlowsGoOn

/-! ### Events: the engines -/

/-- A command at the head of its queue, on a core whose island runs, that its own HOLD, the fences before it and a page request do not
keep back (R169, R190, R191, R197). -/
def Sys2Proof.Claims.mayRun (s : State) (core q : Nat) (c : Cmd) : Prop :=
  headCmd s core q = some c ∧ c.phase = .waiting ∧ coreRuns s core = true ∧ c.held = false ∧ c.stall = none ∧
    (∀ n ∈ c.behind, ∀ f ∈ (s.coreOf core).fences, f.seq ≠ n)

/-- The head of a queue is the command that it was, and has ended. -/
def Sys2Proof.Claims.ends (core q : Nat) (c : Cmd) (status count : Nat) (t : State) : Prop :=
  ∃ d, headCmd t core q = some d ∧ d.seq = c.seq ∧ d.phase = .finished status count none

/-- R169, R181, R191, R192, R197: a queue starts its next command: a claimed chain that broke ends with CHAIN, a reserved field with RANGE,
and an MXLOOP runs once no K-step of a wave on its tile is left; one that is held, or behind a fence, does not start. -/
def Sys2Proof.Claims.CommandsStart : Prop :=
  ∀ (s : State) (core q : Nat) (c : Cmd),
    (headCmd s core q = some c → (c.held = true ∨ ∃ n ∈ c.behind, ∃ f ∈ (s.coreOf core).fences, f.seq = n) →
      exec (.engineCommandStart core q) s = .next s) ∧
    (Claims.mayRun s core q c →
      (c.chain = true → ∃ t, exec (.engineCommandStart core q) s = .next t ∧ Claims.ends core q c 8 0 t ∧
        t = { s with cores := t.cores }) ∧
      (c.chain = false → c.reservedOk = false →
        ∃ t, exec (.engineCommandStart core q) s = .next t ∧ Claims.ends core q c 5 0 t ∧ t = { s with cores := t.cores }) ∧
      (c.chain = false → c.reservedOk = true → c.fn = 0 → c.loopOk = true → tileInService s core c.tile = false →
        (∀ x ∈ (s.coreOf core).steps, x.slot ≠ c.tile) →
        (∀ f ∈ (s.coreOf core).flight, f.loop = false → f.input.slot ≠ c.tile) →
        ∃ t, exec (.engineCommandStart core q) s = .next t ∧ headCmd t core q = some { c with phase := .running } ∧
          t = { s with cores := t.cores }))

/-- The address of element `n` of a copy, at its source or its destination, i0 fastest (R194). -/
def Sys2Proof.Claims.copyAt (c : Cmd) (dest : Bool) (n : Nat) : Nat :=
  let count (d : Nat) : Nat := c.dword (4 + 3 * d) % 2 ^ 32
  let stride (d : Nat) : Int := (BitVec.ofNat 64 (c.dword ((if dest then 6 else 5) + 3 * d))).toInt
  let index (d : Nat) : Nat := n / ((List.range d).map count).prod % count d
  let sum := ((List.range (c.dword 0 / 2 ^ 6 % 16)).map (fun d => (index d : Int) * stride d)).sum
  (((c.dword (if dest then 2 else 1) : Nat) + sum) % 2 ^ 64).toNat

/-- The number of elements of a copy (R194). -/
def Sys2Proof.Claims.copyCount (c : Cmd) : Nat :=
  ((List.range (c.dword 0 / 2 ^ 6 % 16)).map (fun d => c.dword (4 + 3 * d) % 2 ^ 32)).prod

/-- A CPY that has not begun, with a destination kind, a source kind and an element size, whose fields are in range (R191, R194). -/
def Sys2Proof.Claims.isCopy (s : State) (core q : Nat) (c : Cmd) (dkind skind esz : Nat) : Prop :=
  let h := c.dword 0
  let nd := h / 2 ^ 6 % 16
  Claims.mayRun s core q c ∧ c.chain = false ∧ c.reservedOk = true ∧ c.step = 0 ∧ c.buffer = [] ∧ c.fn = 1 ∧
    h / 2 ^ 2 % 4 = dkind ∧ h / 2 ^ 13 % 4 = skind ∧ h / 2 ^ 10 % 8 = esz ∧ esz ≤ 6 ∧ 1 ≤ nd ∧ nd ≤ 9 ∧
    ∀ d < nd, 1 ≤ c.dword (4 + 3 * d) % 2 ^ 32

/-- The bytes of a scratchpad after the first `n` elements of a copy to it, where byte `j` of element `m` is read as `from_` says of the
bytes then there: elements are copied one at a time (R194). -/
def Sys2Proof.Claims.copied (size : Nat) (dst : Nat → Nat) (from_ : (Nat → Byte) → Nat → Nat → Byte) (f : Nat → Byte) :
    Nat → Nat → Byte
  | 0, k => f k
  | n + 1, k =>
    if dst n ≤ k ∧ k < dst n + size then from_ (Claims.copied size dst from_ f n) n (k - dst n)
    else Claims.copied size dst from_ f n k

/-- R188, R194: CPY: to the block's scratchpad from itself or from memory, element by element, each seeing what those before it wrote; one
element from the scratchpad to memory; 512 bytes to a metadata queue as one entry; and a first element that is not aligned ends
the command with RANGE. -/
def Sys2Proof.Claims.CopiesRun : Prop :=
  ∀ (s : State) (core q : Nat) (c : Cmd) (b : Block) (esz : Nat),
    let size := 2 ^ esz
    let src := Claims.copyAt c false
    let dst := Claims.copyAt c true
    let count := Claims.copyCount c
    let part := c.span.part
    let aligned (dkind : Nat) := ∀ n < count, src n % size = 0 ∧ (dkind = 2 ∨ dst n % size = 0)
    s.findBlock c.span c.block = some b →
    (Claims.isCopy s core q c 1 1 esz → aligned 1 → (∀ k, sget b.poison k = 0) →
      (∀ n < count, src n + size ≤ b.size ∧ dst n + size ≤ b.size) →
      ∃ t d, exec (.engineCommandStart core q) s = .next t ∧ Claims.ends core q c 0 count t ∧
        t.findBlock c.span c.block = some d ∧ t.mem = s.mem ∧
        ∀ k, sget d.scratch k = Claims.copied size dst (fun f n j => f (src n + j)) (sget b.scratch) count k) ∧
    (∀ leaf : Nat → Leaf, Claims.isCopy s core q c 1 0 esz → aligned 1 →
      (∀ n < count, dst n + size ≤ b.size ∧ access s part c.span.ctx .load (src n) size = .ok (leaf n) ∧
        Claims.unpoisoned s (leaf n) (src n) size) →
      ∃ t d, exec (.engineCommandStart core q) s = .next t ∧ Claims.ends core q c 0 count t ∧
        t.findBlock c.span c.block = some d ∧ t.mem = s.mem ∧
        ∀ k, sget d.scratch k =
          Claims.copied size dst (fun _ n j => memByte s (leaf n).key ((leaf n).pa (src n + j))) (sget b.scratch) count k) ∧
    (∀ l : Leaf, Claims.isCopy s core q c 0 1 esz → aligned 0 → count = 1 → src 0 + size ≤ b.size →
      (∀ j < size, sget b.poison ((src 0 + j) / 32) = 0) → access s part c.span.ctx .store (dst 0) size = .ok l → l.cls ≠ 2 →
      ∃ t, exec (.engineCommandStart core q) s = .next t ∧ Claims.ends core q c 0 1 t ∧
        (∀ j < size, memByte t l.key (l.pa (dst 0 + j)) = sget b.scratch (src 0 + j)) ∧
        (∀ pa, (∀ j < size, l.pa (dst 0 + j) ≠ pa) → memByte t l.key pa = memByte s l.key pa)) ∧
    (let n := c.dword 0 / 2 ^ 4 % 4
     let entries := tgetD (s.coreOf core).mdq n []
     Claims.isCopy s core q c 2 1 esz → aligned 2 → count * size = 512 → entries.length < 64 →
     (∀ m < count, src m + size ≤ b.size ∧ ∀ j < size, sget b.poison ((src m + j) / 32) = 0) →
      ∃ t, exec (.engineCommandStart core q) s = .next t ∧ Claims.ends core q c 0 count t ∧
        tgetD (t.coreOf core).mdq n [] =
          entries ++ [(List.range 512).map (fun k => sget b.scratch (src (k / size) + k % size))] ∧
        t = { s with cores := t.cores }) ∧
    (∀ dkind skind, Claims.isCopy s core q c dkind skind esz → dkind ≤ 2 → skind ≤ 1 → src 0 % size ≠ 0 →
      ∃ t d, exec (.engineCommandStart core q) s = .next t ∧ headCmd t core q = some d ∧
        d.phase = .finished 5 0 (some (src 0)) ∧ t.mem = s.mem)

/-- A slice of a line as BLOAD has written it: its tag, the code of each element, and the scale of each half (R177). -/
def Sys2Proof.Claims.lineHolds (c : Core) (line slice tag k : Nat) (code : Nat → Nat) (scale : Nat → Byte) : Prop :=
  let at_ (b : Nat) : Nat := (sget c.tile (64 * (32 * line + slice) + b)).toNat
  (sget c.tags (32 * line + slice)).toNat = tag ∧
  (∀ e < k, (if k = 32 then at_ (2 * e) + 256 * at_ (2 * e + 1) else at_ e) = code e) ∧
  (∀ h < k / 32, sget c.scales (2 * (32 * line + slice) + h) = scale (32 * h))

/-- R177, R195: BLOAD writes each line of each slice that it names: from an unformatted page the raw elements at their strides, with
scales of 1.0; from a page of the tag's own format the elements that R154 locates, with the scales of their blocks. -/
def Sys2Proof.Claims.BloadRuns : Prop :=
  ∀ (s : State) (core q : Nat) (c : Cmd),
    let h := c.dword 0
    let tag := h / 2 ^ 4 % 16
    let first := h / 2 ^ 8 % 2 ^ 12
    let lines := h / 2 ^ 20 % 2 ^ 12
    let base := c.dword 1
    let stride (lo : Nat) : Int := (BitVec.ofNat 32 (c.dword 2 / 2 ^ lo % 2 ^ 32)).toInt
    let k := if tag = 1 ∨ tag = 2 then 32 else 64
    let element (m n e : Nat) : Int := (n : Int) * stride 32 + ((m * k + e : Nat) : Int) * stride 0
    let elsewhere (t : State) : Prop := t = { s with cores := t.cores, parts := t.parts, array := t.array }
    Claims.mayRun s core q c → c.chain = false → c.reservedOk = true → c.step = 0 → c.fn = 2 → 1 ≤ tag → tag ≤ 6 → 1 ≤ lines →
    first + lines ≤ 3072 →
    (∀ (l : Leaf) (leaf : Nat → Leaf), access s c.span.part c.span.ctx .load base 1 = .ok l → l.efmt = 0 →
      (let size := if k = 32 then 2 else 1
       let at_ (m n e b : Nat) : Nat := ((((base : Nat) + element m n e * size + b : Int)) % 2 ^ 64).toNat
       (∀ m < lines, ∀ n < 32, ∀ e < k, ∀ b < size, let va := at_ m n e b
         access s c.span.part c.span.ctx .load va 1 = .ok (leaf va) ∧ (leaf va).efmt = 0 ∧ Claims.unpoisoned s (leaf va) va 1) →
       ∃ t, exec (.engineCommandStart core q) s = .next t ∧ Claims.ends core q c 0 (lines * 32 * k) t ∧ elsewhere t ∧
        ∀ m < lines, ∀ n < 32, Claims.lineHolds (t.coreOf core) (first + m) n tag k
          (fun e => leValue ((List.range size).map (fun b => let va := at_ m n e b; memByte s (leaf va).key ((leaf va).pa va))))
          (fun _ => 0x7F))) ∧
    (∀ (l : Leaf) (found : Int → Element), access s c.span.part c.span.ctx .load base 1 = .ok l → l.efmt = tag →
      (l.bgeo = 1 → stride 0 = 1 ∧ ∀ n < 32, (n * stride 32) % 32 = 0) →
      (∀ m < lines, ∀ n < 32, ∀ e < k, let i := element m n e
        locate s c.span.part c.span.ctx .load { TReg.unbound with base := BitVec.ofNat 64 base } i = .ok (found i) ∧
        (found i).leaf.efmt = tag ∧ ∀ x ∈ (found i).reads, sget s.poison (x.1.pa x.2 / 32) = 0) →
      ∃ t, exec (.engineCommandStart core q) s = .next t ∧ Claims.ends core q c 0 (lines * 32 * k) t ∧ elsewhere t ∧
        ∀ m < lines, ∀ n < 32, Claims.lineHolds (t.coreOf core) (first + m) n tag k
          (fun e => leValue ((found (element m n e)).bytes.map (fun x => memByte s x.1.key (x.1.pa x.2))))
          (fun e => match (found (element m n e)).scale with | some x => memByte s x.1.key (x.1.pa x.2) | none => 0x7F))

/-- R196: CBLD reads its image and ends OK with it, or with FORMAT where a row has a bit that it must not have; an image that is not
aligned to 4 KiB is RANGE. What it has read takes effect with its completion. -/
def Sys2Proof.Claims.CbldRuns : Prop :=
  ∀ (s : State) (core : Nat) (c : Cmd) (leaf : Nat → Leaf),
    let va := c.dword 1
    let byte (k : Nat) : Byte := memByte s (leaf (k / 64)).key ((leaf (k / 64)).pa (va + k))
    Claims.mayRun s core 3 c → c.chain = false → c.reservedOk = true → c.step = 0 → c.fn = 3 →
    (va % 4096 ≠ 0 →
      ∃ t d, exec (.engineCommandStart core 3) s = .next t ∧ headCmd t core 3 = some d ∧
        d.phase = .finished 5 0 (some va) ∧ t = { s with cores := t.cores }) ∧
    (va % 4096 = 0 →
      (∀ j < 64, access s c.span.part c.span.ctx .load (va + 64 * j) 1 = .ok (leaf j) ∧
        Claims.unpoisoned s (leaf j) (va + 64 * j) 64) →
      ∃ t d, exec (.engineCommandStart core 3) s = .next t ∧ headCmd t core 3 = some d ∧ d.seq = c.seq ∧
        t = { s with cores := t.cores, parts := t.parts, array := t.array } ∧
        (∀ p, (partAt t p).codebooks = (partAt s p).codebooks) ∧
        ((∀ r < 512, byte (8 * r + 4) / 2 = 0 ∧ ∀ j, 5 ≤ j → j < 8 → byte (8 * r + j) = 0) →
          d.phase = .finished 0 512 none ∧ d.buffer = (List.range 4096).map byte) ∧
        ((∃ r < 512, byte (8 * r + 4) / 2 ≠ 0 ∨ ∃ j, 5 ≤ j ∧ j < 8 ∧ byte (8 * r + j) ≠ 0) →
          d.phase = .finished 4 0 none))

/-- R239 to R242: NWRI puts its packets on its flow, the last with the immediate, each with its PSN, address, payload and headers, and
then runs until they are acknowledged; a flow that is not valid, or a length beyond 1 MiB, is RANGE. -/
def Sys2Proof.Claims.NwriRuns : Prop :=
  ∀ (s : State) (core : Nat) (c : Cmd),
    let n := c.dword 0 / 2 ^ 16 % 2 ^ 12
    let queue := c.dword 0 / 2 ^ 32 % 64
    let va := c.dword 1
    let length := c.dword 3 % 2 ^ 32
    let packets := max 1 ((length + 8191) / 8192)
    let part := c.span.part
    Claims.mayRun s core 4 c → c.chain = false → c.reservedOk = true → c.step = 0 → c.fn = 5 →
    (2 ^ 20 < length ∨ findFlow s part n = none →
      ∃ t, exec (.engineCommandStart core 4) s = .next t ∧ Claims.ends core 4 c 5 0 t ∧ t = { s with cores := t.cores }) ∧
    (∀ (f : Flow) (leaf : Nat → Leaf), length ≤ 2 ^ 20 → findFlow s part n = some f → f.unacked.length + packets ≤ 8192 →
      (∀ j < length, let a := (va + j) % 2 ^ 64
        access s part c.span.ctx .load a 1 = .ok (leaf (a / 64)) ∧ Claims.unpoisoned s (leaf (a / 64)) a 1) →
      ∃ t g sent, exec (.engineCommandStart core 4) s = .next t ∧ t.mem = s.mem ∧ findFlow t part n = some g ∧
        headCmd t core 4 = some { c with
          phase := .running, step := packets, flow := some (n, (f.fields.psn + BitVec.ofNat 16 (packets - 1)).toNat) } ∧
        g = { f with fields := { f.fields with psn := f.fields.psn + BitVec.ofNat 16 packets }, unacked := f.unacked ++ sent } ∧
        sent.length = packets ∧
        ∀ (k : Nat) (y : Sent NetPacket), sent[k]? = some y →
          let x := y.packet
          y.first = s.cyc ∧ y.last = s.cyc ∧ x.psn = f.fields.psn + BitVec.ofNat 16 k ∧ x.flow = f.fields.remoteFlow ∧
          x.asid = f.fields.remoteAsid ∧ x.va = (c.dword 2 + 8192 * k) % 2 ^ 64 ∧
          x.payload = (List.range (min 8192 (length - 8192 * k))).map (fun j =>
            let a := (va + 8192 * k + j) % 2 ^ 64
            memByte s (leaf (a / 64)).key ((leaf (a / 64)).pa a)) ∧
          x.immediate = (if k + 1 = packets then some (BitVec.ofNat 32 (c.dword 3 / 2 ^ 32), queue) else none) ∧
          Claims.goodHeader x ∧ Claims.checksumRight x.header (Claims.dataDatagram x) ∧ x.header.hops = 64 ∧ x.header.tclass = f.fields.tclass ∧
          x.header.ipv6 = true ∧ x.header.extension = false ∧ x.header.source = f.fields.localAddr ∧
          x.header.dest = f.fields.remoteAddr ∧ x.header.srcPort = f.fields.localPort ∧ x.header.dstPort = f.fields.remotePort)

/-- R190, R192, R196: the finished command at the head of a queue is reported, once its reflected stores are performed: its record is the
newest of its queue, and it leaves the queue; a CBLD that ended OK replaces its codebook as one act. -/
def Sys2Proof.Claims.CommandsComplete : Prop :=
  ∀ (s : State) (core q : Nat) (c : Cmd) (status count : Nat) (va : Option Nat), headCmd s core q = some c →
    c.phase = .finished status count va → q < 7 → coreRuns s core = true →
    inFlight s c.span.part (commandSender (cmdToken core q c.seq)) = false → firstPoster s core q = none →
    ∃ t, exec (.engineCommandComplete core q) s = .next t ∧
      ((t.coreOf core).done.filter (fun r => r.queue == q)).getLast? = some ⟨q, c.seq, status, count, va⟩ ∧
      ((t.coreOf core).queue q).length + 1 = ((s.coreOf core).queue q).length ∧ t.mem = s.mem ∧
      (∀ p : Partition, tget s.parts c.span.part = some p →
        (c.fn = 3 → status = 0 → c.buffer.length = 4096 →
          let n := c.dword 0 / 2 ^ 2 % 4
          ∀ k, sget (partAt t c.span.part).codebooks k =
            if 4096 * n ≤ k ∧ k < 4096 * n + 4096 then c.buffer.getD (k - 4096 * n) 0 else sget p.codebooks k) ∧
        (c.fn ≠ 3 ∨ status ≠ 0 → (partAt t c.span.part).codebooks = p.codebooks))

/-- The metadata bits of row `i` of an entry from bit `b` up, two of them (R193). -/
def Sys2Proof.Claims.metaBits (entry : List Byte) (i b : Nat) : Nat := (entry.getD (16 * i + b / 8) 0).toNat / 2 ^ (b % 8) % 4

/-- R180, R181, R192, R193: the matrix engine starts the next K-step of the running MXLOOP, on a core whose island runs, no sooner than 8
cycles after the step before, where no wave's step waits or the step before was a wave's: A from the block's scratchpad, dense
or with the positions of the oldest metadata entry, which it takes, and its one or two lines of B. One with no entry waits. -/
def Sys2Proof.Claims.LoopStepsStart : Prop :=
  ∀ (s : State) (core : Nat) (c : Cmd) (b : Block) (off line : Nat),
    let k := s.coreOf core
    let fmt := c.dword 0 / 2 ^ 4 % 16
    let sel := c.dword 0 / 2 ^ 16 % 8
    let size := Claims.stepSize fmt
    let lines := if sel = 0 then [line] else [line, line + 1]
    let code (i e : Nat) : Nat :=
      let at_ (j : Nat) : Nat := (sget b.scratch (off + 64 * i + j)).toNat
      if size = 32 then at_ (2 * e) + 256 * at_ (2 * e + 1) else at_ e
    let entries := tgetD k.mdq (sel - 4) []
    headCmd s core 0 = some c → c.phase = .running → c.stall = none → c.started < c.dword 0 / 2 ^ 32 % 2 ^ 16 →
    coreRuns s core = true → k.stepAt ≤ s.cyc → (k.steps = [] ∨ k.lastLoop = false) → fmt ≤ 5 → sel = 0 ∨ 4 ≤ sel →
    s.findBlock c.span c.block = some b → c.dword 1 % 64 = 0 →
    (off : Int) = (c.dword 1 % 2 ^ 32 : Nat) + (c.started : Int) * (BitVec.ofNat 32 (c.dword 1 / 2 ^ 32)).toInt →
    (line : Int) = (c.dword 2 % 2 ^ 12 : Nat) + (c.started : Int) * (BitVec.ofNat 16 (c.dword 2 / 2 ^ 16)).toInt →
    off + 2048 ≤ b.size → (∀ l ∈ lines, l ≤ 3071) →
    (∀ l ∈ lines, ∀ j < 32, tagAccepted fmt (sget k.tags (32 * l + j)).toNat = true) →
    (∀ j < 2048, sget b.poison ((off + j) / 32) = 0) → Claims.slotSound k c.tile →
    (∀ l ∈ lines, ∀ j < 64, sget k.poisonT (64 * l + j) = 0) →
    (sel ≠ 0 → entries = [] → k.steps = [] → exec (.matrixStepStart core) s = .next s) ∧
    (∀ (entry : List Byte) (rest : List (List Byte)), (sel ≠ 0 → entries = entry :: rest ∧ entry.length = 512 ∧
        ∀ i < 32, ∀ g < size / 2, Claims.metaBits entry i (4 * g) < Claims.metaBits entry i (4 * g + 2)) →
      ∃ t x, exec (.matrixStepStart core) s = .next t ∧
        headCmd t core 0 = some { c with started := c.started + 1 } ∧
        (t.coreOf core).flight = k.flight ++ [⟨true, s.cyc, x⟩] ∧ (t.coreOf core).lastLoop = true ∧
        (t.coreOf core).stepAt = s.cyc + nanosIn s core 8 ∧ (t.coreOf core).steps = k.steps ∧
        (t.coreOf core).acc = k.acc ∧ t = { s with cores := t.cores } ∧
        (sel = 0 → (t.coreOf core).mdq = k.mdq) ∧
        (sel ≠ 0 → tgetD (t.coreOf core).mdq (sel - 4) [] = rest) ∧
        x.span = c.span ∧ x.slot = c.tile ∧ x.fmt = fmt ∧ x.lines = lines.map (Claims.lineOf k) ∧
        x.rows = (List.range 32).map (fun i => (List.range size).map (fun e =>
          (if sel = 0 then e else 4 * (e / 2) + Claims.metaBits entry i (4 * (e / 2) + 2 * (e % 2)), code i e))))

/-- R169, R180, R181, R190 to R192, R197: the engines start, complete and step: `CommandsStart`, `CommandsComplete` and
`LoopStepsStart`. -/
def Obligations.EngineEventsTakeEffect : Prop :=
  Claims.CommandsStart ∧ Claims.CommandsComplete ∧ Claims.LoopStepsStart

/-- R188, R194 to R196, R239 to R242: what a running command does: `CopiesRun`, `BloadRuns`, `CbldRuns` and `NwriRuns`. -/
def Obligations.RunningCommandsAct : Prop :=
  Claims.CopiesRun ∧ Claims.BloadRuns ∧ Claims.CbldRuns ∧ Claims.NwriRuns

/-! ### Rules stated whole -/

/-- R23: a port's reset, by which its interface enters reset or its link goes down, releases every semaphore that the port holds and sets
ABAND on each; the other port and the management complex keep theirs. -/
def Obligations.PortResetReleasesSemaphores : Prop :=
  ∀ (s : State) (port : Nat), port < 2 →
    ∃ t, exec (.portReset port) s = .next t ∧
      ∀ n, let x := sget s.host.sem n
        let y := sget t.host.sem n
        (x.getLsbD 0 = true → x.toNat / 2 % 4 = port + 1 →
          y.getLsbD 0 = false ∧ y.toNat / 2 % 4 = 0 ∧ y.toNat / 2 ^ 16 = 0 ∧ y.getLsbD 4 = true) ∧
        (x.getLsbD 0 = false ∨ x.toNat / 2 % 4 ≠ port + 1 → y = x)

namespace Sys2Proof.Claims

/-! ### The exact value, rounded once (R111, R112, R115 to R120, R124) -/

/-- What a code of a floating-point format stands for: a NaN, an infinity, or a number with its sign bit. -/
inductive Datum where
  | nan
  | inf (neg : Bool)
  | num (neg : Bool) (y : ℚ)

/-- A row of R111's table, with the canonical NaN of R112. -/
structure Layout where
  exponent : Nat
  fraction : Nat
  bias     : Nat
  largest  : Nat
  infinity : Option Nat
  nan      : Nat

/-- FP32. -/
def fp32 : Layout := ⟨8, 23, 127, 0x7F7FFFFF, some 0x7F800000, 0x7FC00000⟩
/-- BF16. -/
def brain16 : Layout := ⟨8, 7, 127, 0x7F7F, some 0x7F80, 0x7FC0⟩
/-- FP16. -/
def fp16 : Layout := ⟨5, 10, 15, 0x7BFF, some 0x7C00, 0x7E00⟩
/-- FP8E4M3. -/
def fp8e4m3 : Layout := ⟨4, 3, 7, 0x7E, none, 0x7F⟩
/-- FP8E5M2. -/
def fp8e5m2 : Layout := ⟨5, 2, 15, 0x7B, some 0x7C, 0x7E⟩

/-- The weight of the sign bit of a format. -/
def Layout.top (f : Layout) : Nat := 2 ^ (f.exponent + f.fraction)

/-- The exponent of the last place of a format's subnormals. -/
def Layout.lowest (f : Layout) : ℤ := 1 - (f.bias : ℤ) - f.fraction

/-- R111: the datum of a code: its sign at the top, then the exponent field, then the fraction field; the fields of a subnormal are
read at exponent 1 with no leading 1. -/
def datum (f : Layout) (code : Nat) : Datum :=
  let neg := decide (code / f.top % 2 = 1)
  let size := code % f.top
  let e := size / 2 ^ f.fraction
  let frac := size % 2 ^ f.fraction
  if f.infinity = some size then .inf neg
  else if f.largest < size then .nan
  else .num neg ((if neg then -1 else 1) *
    (if e = 0 then (frac : ℚ) * (2 : ℚ) ^ f.lowest
      else ((2 ^ f.fraction + frac : Nat) : ℚ) * (2 : ℚ) ^ ((e : ℤ) - f.bias - f.fraction)))

/-- The largest finite value of a format. -/
def Layout.limit (f : Layout) : ℚ :=
  match datum f f.largest with
  | .num _ y => y
  | _ => 0

/-- 2^q is the last place of y in a format whose exponents have no upper end: y has fraction + 1 significant bits above it, or is
smaller than the normal numbers. -/
def lastPlace (f : Layout) (y : ℝ) (q : ℤ) : Prop :=
  f.lowest ≤ q ∧ |y| < (2 : ℝ) ^ (q + f.fraction + 1) ∧ (q = f.lowest ∨ (2 : ℝ) ^ (q + f.fraction) ≤ |y|)

/-- n is y in units of 2^q, rounded to an integer in a mode of R115. -/
def roundsTo (mode : Rounding) (y : ℝ) (q n : ℤ) : Prop :=
  let v : ℝ := n * (2 : ℝ) ^ q
  match mode with
  | .rne => |y - v| ≤ (2 : ℝ) ^ q / 2 ∧ (|y - v| = (2 : ℝ) ^ q / 2 → n % 2 = 0)
  | .rz => 0 ≤ y * v ∧ |v| ≤ |y| ∧ |y| < |v| + (2 : ℝ) ^ q
  | .rp => y ≤ v ∧ v < y + (2 : ℝ) ^ q
  | .rm => v ≤ y ∧ y < v + (2 : ℝ) ^ q

/-- v is y rounded to a format's precision, with unbounded exponent range (R115, R119). -/
def nearest (f : Layout) (mode : Rounding) (y v : ℝ) : Prop :=
  ∃ q n : ℤ, lastPlace f y q ∧ roundsTo mode y q n ∧ v = n * (2 : ℝ) ^ q

/-- A code holds a number, with this sign bit, in the bits of its format and none above. -/
def holds (f : Layout) (code : Nat) (neg : Bool) (v : ℝ) : Prop :=
  code < 2 * f.top ∧ ∃ r : ℚ, datum f code = .num neg r ∧ (r : ℝ) = v

/-- The sign bit of a result whose exact value is y: y's sign, and the sign given for an exact zero. -/
def signFor (neg zero : Bool) (y : ℝ) : Prop := neg = true ↔ y < 0 ∨ (y = 0 ∧ zero = true)

/-- A code of a sign and a magnitude. -/
def signed (f : Layout) (neg : Bool) (size : Nat) : Nat := size + (if neg then f.top else 0)

/-- R115, R116, R345: the FP32 code and the flags for the exact value y: y rounded once in the mode. A result beyond the largest finite
value overflows: an infinity, or the largest finite value where the mode rounds away from that infinity, with O and X; any
other result that lost bits sets X. -/
def single (mode : Rounding) (y : ℝ) (zero : Bool) (code : Nat) (flags : Word64) : Prop :=
  ∃ (v : ℝ) (neg : Bool), nearest fp32 mode y v ∧ signFor neg zero y ∧
    (|v| ≤ fp32.limit → holds fp32 code neg v ∧ (v = y → flags = 0) ∧ (v ≠ y → flags = flagX)) ∧
    ((fp32.limit : ℝ) < |v| → flags = flagO ||| flagX ∧
      code = signed fp32 neg (match mode with
        | .rne => 0x7F800000
        | .rz => 0x7F7FFFFF
        | .rp => if neg then 0x7F7FFFFF else 0x7F800000
        | .rm => if neg then 0x7F800000 else 0x7F7FFFFF))

/-- R119: the code and the flags of a datum narrowed to a floating-point format: rounded to nearest even, saturated with S, X where the
value rounded with unbounded range differs. -/
def narrowed (f : Layout) (x : Datum) (code : Nat) (flags : Word64) : Prop :=
  match x with
  | .nan => code = f.nan ∧ flags = flagI
  | .inf neg => code = signed f neg f.largest ∧ flags = flagS
  | .num neg y =>
    ∃ v : ℝ, nearest f .rne y v ∧
      (|v| ≤ f.limit → holds f code neg v ∧ (v = y → flags = 0) ∧ (v ≠ y → flags = flagX)) ∧
      ((f.limit : ℝ) < |v| → code = signed f neg f.largest ∧
        (v = y → flags = flagS) ∧ (v ≠ y → flags = flagS ||| flagX))

/-- R119, R120, R372: an exact value rounded to an integer in a mode and clamped to a range, as 32 bits: S where it was outside, X where
the rounding changed it. -/
def whole (mode : Rounding) (lo hi : ℤ) (y : ℝ) (code : Word32) (flags : Word64) : Prop :=
  ∃ n : ℤ, roundsTo mode y 0 n ∧
    code = BitVec.ofInt 32 (if n < lo then lo else if hi < n then hi else n) ∧
    ((n : ℝ) = y → flags = if n < lo ∨ hi < n then flagS else 0) ∧
    ((n : ℝ) ≠ y → flags = (if n < lo ∨ hi < n then flagS else 0) ||| flagX)

/-- The exact product; `none` is the invalid 0 x infinity (R116). -/
def times : Datum → Datum → Option Datum
  | .nan, _ => some .nan
  | _, .nan => some .nan
  | .inf s, .inf t => some (.inf (s ^^ t))
  | .inf s, .num t y => if y = 0 then none else some (.inf (s ^^ t))
  | .num s y, .inf t => if y = 0 then none else some (.inf (s ^^ t))
  | .num s x, .num t y => some (.num (s ^^ t) (x * y))

/-- The exact sum; `none` is the invalid sum of opposite infinities. A zero sum of equal signs keeps the sign; of opposite signs it
is +0, and -0 under .rm (R116). -/
def plus (mode : Rounding) : Datum → Datum → Option Datum
  | .nan, _ => some .nan
  | _, .nan => some .nan
  | .inf s, .inf t => if s = t then some (.inf s) else none
  | .inf s, .num _ _ => some (.inf s)
  | .num _ _, .inf t => some (.inf t)
  | .num s x, .num t y =>
    some (.num (if x + y = 0 then (if s = t then s else decide (mode = .rm)) else decide (x + y < 0)) (x + y))

/-- A datum with its sign changed. -/
def minus : Datum → Datum
  | .nan => .nan
  | .inf s => .inf (!s)
  | .num s y => .num (!s) (-y)

/-- The exact a x b + d; invalid where the product is 0 x infinity, whatever d is (R116). -/
def timesPlus (mode : Rounding) (a b d : Datum) : Option Datum := (times a b).bind (fun p => plus mode p d)

/-- The FP32 result and the flags of an exact outcome (R112, R116, R345). -/
def result32 (mode : Rounding) (x : Option Datum) (z : Word32) (flags : Word64) : Prop :=
  match x with
  | none => z = 0x7FC00000 ∧ flags = flagI
  | some .nan => z = 0x7FC00000 ∧ flags = 0
  | some (.inf neg) => z.toNat = signed fp32 neg 0x7F800000 ∧ flags = 0
  | some (.num neg y) => single mode y neg z.toNat flags

/-- One half of VHFMA: a NaN or an invalid operation gives 0x7FC0 with I, anything else is narrowed (R118, R353). -/
def resultHalf (a b d z : Nat) (flags : Word64) : Prop :=
  match timesPlus .rne (datum brain16 a) (datum brain16 b) (datum brain16 d) with
  | none => z = 0x7FC0 ∧ flags = flagI
  | some x => narrowed brain16 x z flags

/-- VHFMA: its two halves, whose flags are ORed (R118, R353). -/
def resultPair (a b d z : Word32) (flags : Word64) : Prop :=
  ∃ lo hi : Word64, flags = lo ||| hi ∧
    resultHalf (a.toNat % 65536) (b.toNat % 65536) (d.toNat % 65536) (z.toNat % 65536) lo ∧
    resultHalf (a.toNat / 65536) (b.toNat / 65536) (d.toNat / 65536) (z.toNat / 65536) hi

/-- VFCVT by its function number less 0x10 (R100, R349): a narrow element widened exactly, every NaN to the canonical one, with no
flag; or FP32 narrowed. -/
def resultConvert (c : BitVec 3) (a z : Word32) (flags : Word64) : Prop :=
  let f : Layout := if c.toNat % 4 = 0 then brain16 else if c.toNat % 4 = 1 then fp16 else if c.toNat % 4 = 2 then fp8e4m3 else fp8e5m2
  if c.toNat < 4 then
    flags = 0 ∧
    match datum f (a.toNat % (2 * f.top)) with
    | .nan => z = 0x7FC00000
    | .inf neg => z.toNat = signed fp32 neg 0x7F800000
    | .num neg y => holds fp32 z.toNat neg y
  else narrowed f (datum fp32 a.toNat) z.toNat flags

/-- FP32 narrowed to an integer range after scaling (R119, R372): a NaN gives 0 and I, an infinity the limit of its sign and S. -/
def resultInteger (mode : Rounding) (lo hi : ℤ) (scale : ℚ) (a z : Word32) (flags : Word64) : Prop :=
  match datum fp32 a.toNat with
  | .nan => z = 0 ∧ flags = flagI
  | .inf neg => z = BitVec.ofInt 32 (if neg then lo else hi) ∧ flags = flagS
  | .num _ y => whole mode lo hi ((y * scale : ℚ) : ℝ) z flags

/-- VXCVT by its function number less 0x20 (R100, R372). -/
def resultFixed (c : BitVec 4) (a z : Word32) (flags : Word64) : Prop :=
  let least : ℤ := -2 ^ 31
  let most : ℤ := 2 ^ 31 - 1
  let integer : ℝ := (a.toInt : ℝ)
  match c.toNat with
  | 0 => single .rne integer false z.toNat flags
  | 1 => single .rne (a.toNat : ℝ) false z.toNat flags
  | 2 => single .rne (integer / 65536) false z.toNat flags
  | 3 => resultInteger .rne least most 1 a z flags
  | 4 => resultInteger .rne 0 (2 ^ 32 - 1) 1 a z flags
  | 5 => resultInteger .rne least most 65536 a z flags
  | 6 => whole .rne least most (integer / 65536) z flags
  | 7 => whole .rne least most (integer * 65536) z flags
  | 8 => whole .rne (-128) 127 integer z flags
  | 9 => whole .rne 0 255 (a.toNat : ℝ) z flags
  | 10 => resultInteger .rz least most 1 a z flags
  | 11 => resultInteger .rz 0 (2 ^ 32 - 1) 1 a z flags
  | 12 => resultInteger .rz least most 65536 a z flags
  | _ => whole .rz least most (integer / 65536) z flags

/-- The destination, the lanes and, for each lane, what its result and flags must be: the FP32 and BF16 arithmetic of R115 to R118 in
all its modes and forms, and the conversions. -/
def exactMeaning (i : Instr) (w : Wave) : Option (Nat × Word64 × (Nat → Word32 → Word64 → Prop)) :=
  let at_ (r l : Nat) : Datum := datum fp32 (w.vval r l).toNat
  let lanes {k : Nat} (m : BitVec k) : Word64 := w.active &&& w.mval m.toNat
  let mode (r : BitVec 2) : Rounding := if r = 1 then .rz else if r = 2 then .rp else if r = 3 then .rm else .rne
  let sum (r : Rounding) (a b : Nat) (l : Nat) : Word32 → Word64 → Prop := result32 r (plus r (at_ a l) (at_ b l))
  let difference (r : Rounding) (a b : Nat) (l : Nat) : Word32 → Word64 → Prop :=
    result32 r (plus r (at_ a l) (minus (at_ b l)))
  let product (r : Rounding) (a b : Nat) (l : Nat) : Word32 → Word64 → Prop := result32 r (times (at_ a l) (at_ b l))
  let fused (r : Rounding) (a b d : Nat) (l : Nat) : Word32 → Word64 → Prop :=
    result32 r (timesPlus r (at_ a l) (at_ b l) (at_ d l))
  match i with
  | .vfadd m b a d _ => some (d.toNat, lanes m, sum .rne a.toNat b.toNat)
  | .vfsub m b a d _ => some (d.toNat, lanes m, difference .rne a.toNat b.toNat)
  | .vfmul m b a d _ => some (d.toNat, lanes m, product .rne a.toNat b.toNat)
  | .vffma m b a d _ => some (d.toNat, lanes m, fused .rne a.toNat b.toNat d.toNat)
  | .vfaddDirected m r b a d _ => some (d.toNat, lanes m, sum (mode r) a.toNat b.toNat)
  | .vfsubDirected m r b a d _ => some (d.toNat, lanes m, difference (mode r) a.toNat b.toNat)
  | .vfmulDirected m r b a d _ => some (d.toNat, lanes m, product (mode r) a.toNat b.toNat)
  | .vffmaDirected m r b a d _ => some (d.toNat, lanes m, fused (mode r) a.toNat b.toNat d.toNat)
  | .vfadd16 b d => some (d.toNat, w.active, sum .rne d.toNat b.toNat)
  | .vfsub16 b d => some (d.toNat, w.active, difference .rne d.toNat b.toNat)
  | .vfmul16 b d => some (d.toNat, w.active, product .rne d.toNat b.toNat)
  | .vhfma m b a d _ =>
    some (d.toNat, lanes m, fun l => resultPair (w.vval a.toNat l) (w.vval b.toNat l) (w.vval d.toNat l))
  | .vfcvt m c a d _ => some (d.toNat, lanes m, fun l => resultConvert c (w.vval a.toNat l))
  | .vxcvt m c a d _ => some (d.toNat, lanes m, fun l => resultFixed c (w.vval a.toNat l))
  | _ => none

/-! ### The special functions (R124, R348) -/

/-- The functions of the VUN group. -/
inductive SpecialFn where
  | reciprocal | reciprocalRoot | powerOfTwo | exponential | logarithm | sine | cosine

/-- y is the value of the function at x. -/
def SpecialFn.at_ (g : SpecialFn) (x y : ℝ) : Prop :=
  match g with
  | .reciprocal => y * x = 1
  | .reciprocalRoot => 0 < y ∧ y ^ 2 * x = 1
  | .powerOfTwo => y = (2 : ℝ) ^ x
  | .exponential => y = Real.exp x
  | .logarithm => y = Real.logb 2 x
  | .sine => y = Real.sin x
  | .cosine => y = Real.cos x

/-- The special cases of R124's table: the result and its flags. -/
def SpecialFn.listed (g : SpecialFn) (x : Datum) : Option (Word32 × Word64) :=
  let infinity (neg : Bool) : Word32 := if neg then 0xFF800000 else 0x7F800000
  let zero (neg : Bool) : Word32 := if neg then 0x80000000 else 0
  match g, x with
  | _, .nan => some (0x7FC00000, 0)
  | .reciprocal, .inf neg => some (zero neg, 0)
  | .reciprocal, .num neg y => if y = 0 then some (infinity neg, 0) else none
  | .reciprocalRoot, .inf neg => if neg then some (0x7FC00000, flagI) else some (0, 0)
  | .reciprocalRoot, .num neg y => if y = 0 then some (infinity neg, 0) else if y < 0 then some (0x7FC00000, flagI) else none
  | .powerOfTwo, .inf neg => if neg then some (0, 0) else some (infinity false, 0)
  | .exponential, .inf neg => if neg then some (0, 0) else some (infinity false, 0)
  | .exponential, .num _ y => if y = 0 then some (0x3F800000, 0) else none
  | .logarithm, .inf neg => if neg then some (0x7FC00000, flagI) else some (infinity false, 0)
  | .logarithm, .num _ y =>
    if y = 0 then some (infinity true, 0) else if y < 0 then some (0x7FC00000, flagI) else if y = 1 then some (0, 0) else none
  | .sine, .inf _ => some (0x7FC00000, flagI)
  | .sine, .num neg y => if y = 0 then some (zero neg, 0) else none
  | .cosine, .inf _ => some (0x7FC00000, flagI)
  | .cosine, .num _ y => if y = 0 then some (0x3F800000, 0) else none
  | _, _ => none

/-- The result for a value w that is not zero, rounded once to nearest even, with no flag but the O of an overflow (R124). -/
def rounded (w : ℝ) (code : Nat) (flags : Word64) : Prop :=
  ∃ (v : ℝ) (neg : Bool), nearest fp32 .rne w v ∧ (neg = true ↔ w < 0) ∧
    (|v| ≤ fp32.limit → holds fp32 code neg v ∧ flags = 0) ∧
    ((fp32.limit : ℝ) < |v| → code = signed fp32 neg 0x7F800000 ∧ flags = flagO)

/-- What a special function gives: its special case; or a number w rounded once, where w is the value y of the function itself for 1/x
and 1/sqrt(x), for 2^x at an integer and for log2 of a power of two, and otherwise within 2^-200 of y (of y's own size, where that
exceeds 1). -/
def SpecialFn.gives (g : SpecialFn) (a z : Word32) (flags : Word64) : Prop :=
  match g.listed (datum fp32 a.toNat), datum fp32 a.toNat with
  | some r, _ => z = r.1 ∧ flags = r.2
  | none, .num _ x =>
    ∃ y w : ℝ, g.at_ x y ∧ rounded w z.toNat flags ∧ |w - y| ≤ (2 : ℝ) ^ (-200 : ℤ) * max 1 |y| ∧
      (match g with
        | .reciprocal => w = y
        | .reciprocalRoot => w = y
        | .powerOfTwo => ∀ k : ℤ, x = k → w = y
        | .logarithm => ∀ k : ℤ, y = k → w = y
        | _ => True)
  | none, _ => False

/-- The function of an instruction, its destination, source and mask. -/
def specialOf : Instr → Option (SpecialFn × BitVec 6 × BitVec 6 × BitVec 3)
  | .vfrcp m a d _ => some (.reciprocal, d, a, m)
  | .vfrsq m a d _ => some (.reciprocalRoot, d, a, m)
  | .vfex2 m a d _ => some (.powerOfTwo, d, a, m)
  | .vfexp m a d _ => some (.exponential, d, a, m)
  | .vflg2 m a d _ => some (.logarithm, d, a, m)
  | .vfsin m a d _ => some (.sine, d, a, m)
  | .vfcos m a d _ => some (.cosine, d, a, m)
  | _ => none

end Sys2Proof.Claims

/-- R115, R116, R118, R119, R120: VFADD, VFSUB, VFMUL, VFFMA and VHFMA in every rounding mode and form, VFCVT and VXCVT, wherever they
act: every lane of their mask gets the exact value of its operation, an element of R111's table taken as a real number, rounded
once in the mode of the instruction, and raises the flags of those rules; SATF takes the flags of its lanes. That the least
integer of a range is in range, with no S, is log 80's choice. -/
def Obligations.FloatsRoundOnce : Prop :=
  ∀ (i : Instr) (s : State) (d : Nat) (mask : Word64) (want : Nat → Word32 → Word64 → Prop),
    Claims.exactMeaning i s.wave = some (d, mask, want) → acts i s = true →
    ∃ (t : State) (flags : Nat → Word64), exec i s = .next t ∧ Claims.raised mask flags s t ∧
      ∀ l < 64, mask.getLsbD l = true → want l (Claims.element t.wave d l) (flags l)

/-- R124, R348: VFRCP, VFRSQ, VFEX2, VFEXP, VFLG2, VFSIN and VFCOS, wherever they act: every special case of R124's table with its
flags; VFRCP and VFRSQ, and the exact results of R348's table, are the value of the function rounded once to nearest even; every
other result is the rounding of a number within 2^-200 of the value. So it is the value rounded once unless the value lies within
2^-200 of a point midway between two FP32 numbers: that it never lies there is not claimed. -/
def Obligations.SpecialFunctions : Prop :=
  ∀ (i : Instr) (s : State) (g : Claims.SpecialFn) (d a : BitVec 6) (m : BitVec 3),
    Claims.specialOf i = some (g, d, a, m) → acts i s = true →
    ∃ (t : State) (flags : Nat → Word64), exec i s = .next t ∧
      Claims.raised (s.wave.active &&& s.wave.mval m.toNat) flags s t ∧
      ∀ l < 64, (s.wave.active &&& s.wave.mval m.toNat).getLsbD l = true →
        g.gives (s.wave.vval a.toNat l) (Claims.element t.wave d.toNat l) (flags l)

/-- A NaN, and the order of FP32 operands by sign and magnitude: -0 is below +0 where `zero` is 1, and equal to it where it is 0. -/
def Sys2Proof.Claims.notNumber (x : Word32) : Prop := 0x7F800000 < x.toNat % 2 ^ 31

/-- See `notNumber`. -/
def Sys2Proof.Claims.rank (zero : Int) (x : Word32) : Int :=
  if 2 ^ 31 ≤ x.toNat then -((x.toNat % 2 ^ 31 : Nat) : Int) - zero else ((x.toNat % 2 ^ 31 : Nat) : Int)

/-- R117: what VFMIN and VFMAX return for two operands: one of them, or the canonical NaN. -/
def Sys2Proof.Claims.chosen (larger : Bool) (x y z : Word32) : Prop :=
  (Claims.notNumber x → Claims.notNumber y → z = 0x7FC00000) ∧
  (Claims.notNumber x → ¬Claims.notNumber y → z = y) ∧ (¬Claims.notNumber x → Claims.notNumber y → z = x) ∧
  (¬Claims.notNumber x → ¬Claims.notNumber y →
    (z = x ∨ z = y) ∧
    (larger = true → Claims.rank 1 x ≤ Claims.rank 1 z ∧ Claims.rank 1 y ≤ Claims.rank 1 z) ∧
    (larger = false → Claims.rank 1 z ≤ Claims.rank 1 x ∧ Claims.rank 1 z ≤ Claims.rank 1 y))

/-- R99: the conditions of VFCMP. -/
def Sys2Proof.Claims.ordered (c : Nat) (x y : Word32) : Prop :=
  let nan := Claims.notNumber x ∨ Claims.notNumber y
  match c with
  | 0 => ¬nan ∧ Claims.rank 0 x = Claims.rank 0 y
  | 1 => nan ∨ Claims.rank 0 x ≠ Claims.rank 0 y
  | 2 => ¬nan ∧ Claims.rank 0 x < Claims.rank 0 y
  | 3 => ¬nan ∧ Claims.rank 0 x ≤ Claims.rank 0 y
  | 4 => ¬nan ∧ Claims.rank 0 x > Claims.rank 0 y
  | 5 => ¬nan ∧ Claims.rank 0 x ≥ Claims.rank 0 y
  | 6 => nan
  | _ => ¬nan

/-- R117: VFMIN and VFMAX, in their 32-bit and 16-bit forms, and VFCMP, wherever they act: what each lane of their mask gets, and no flag
is set. -/
def Obligations.FloatExtremesAndCompares : Prop :=
  ∀ (s : State) (m k c st : BitVec 3) (a b d : BitVec 6) (e : BitVec 5),
    let flags (t : State) : Prop := t.wave.satf = s.wave.satf ∧ t.wave.satctl = s.wave.satctl
    let mask := s.wave.active &&& s.wave.mval m.toNat
    let gives (larger : Bool) (lanes : Word64) (x y : Nat) (t : State) : Prop := flags t ∧
      ∀ l < 64, lanes.getLsbD l = true →
        Claims.chosen larger (s.wave.vval x l) (s.wave.vval y l) (Claims.element t.wave d.toNat l)
    (acts (.vfmin m b a d st) s = true →
      ∃ t, exec (.vfmin m b a d st) s = .next t ∧ gives false mask a.toNat b.toNat t) ∧
    (acts (.vfmax m b a d st) s = true →
      ∃ t, exec (.vfmax m b a d st) s = .next t ∧ gives true mask a.toNat b.toNat t) ∧
    (acts (.vfmin16 e d) s = true →
      ∃ t, exec (.vfmin16 e d) s = .next t ∧ gives false s.wave.active d.toNat e.toNat t) ∧
    (acts (.vfmax16 e d) s = true →
      ∃ t, exec (.vfmax16 e d) s = .next t ∧ gives true s.wave.active d.toNat e.toNat t) ∧
    (acts (.vfcmp m b a c k st) s = true →
      ∃ t, exec (.vfcmp m b a c k st) s = .next t ∧ flags t ∧
        ∀ l < 64, mask.getLsbD l = true →
          ((sget t.wave.m k.toNat).getLsbD l = true ↔ Claims.ordered c.toNat (s.wave.vval a.toNat l) (s.wave.vval b.toNat l)))

/-! ### Encodings, the step and reset -/

/-- R89, R92 to R109: for every encoded instruction without a reserved field value, the bytes of its word decode to it, whatever stands
behind them. -/
def Obligations.DecodeUndoesEncode : Prop :=
  ∀ (i : Instr) (nbits w : Nat) (rest : List Byte), i.wellFormed = true → encode i = some (nbits, w) →
    decode (encodeBytes i ++ rest) = .ok (i, rest) ∧ decodeTableWord nbits w = some i ∧ w < 2 ^ nbits

/-- R92 to R109: bytes that decode are the bytes of the instruction read, which has no reserved field value: no bit of a word is dropped
and no word has two readings. -/
def Obligations.EncodeUndoesDecode : Prop :=
  ∀ (bs rest : List Byte) (i : Instr), decode bs = .ok (i, rest) → i.wellFormed = true ∧ encodeBytes i ++ rest = bs

/-- R107, R310, R321, R325, R331, R334, R375: words that the manual writes out, and a halfword, decode to the instructions they stand
for, and reserved words to none. -/
def Obligations.SampleWordsDecode : Prop :=
  decodeTableWord 32 0x00000111 = some (.yield 0) ∧
  decodeTableWord 32 0xFFF041A1 = some (.smovi 0xFFF0 8 0) ∧ decodeTableWord 32 0x0FFF41B1 = some (.slui 0x0FFF 8 0) ∧
  decodeTableWord 32 0xFFFF2991 = some (.saddi 0xFFFF 5 0) ∧ decodeTableWord 32 0x10014B21 = some (.ftotal 1 1 9 0) ∧
  decodeTableWord 16 0x0000 = some (.vmov16 0 0) ∧
  decodeTableWord 32 0x00000801 = none ∧ decodeTableWord 32 0x000003E1 = none

/-- R68, R89, R90, R107: with no move of the agenda left (the agenda is the model's, log 3), a step lets what has come about settle, and
the next eligible wave's bytes at the PC act as the instruction they decode to; bytes that are none raise ILLOP (0x01), a fetch
that faults raises PAGE_FAULT (0x05), unless it meets a device register or poison. An agenda's event acts as its instruction. -/
def Obligations.StepRunsTheDecoded : Prop :=
  ∀ (s t u : State) (i : Instr) (bs rest : List Byte) (n va : Nat) (c : Cause) (e : DecodeError) (moves : List Move),
    (s.agenda = [] → startStep s.pace s = .next t → nextIssue t = some u →
      (fetchBytes u u.wave u.wave.pc.toNat = .ok bs → decode bs = .ok (i, rest) → step s = exec i u) ∧
      (fetchBytes u u.wave u.wave.pc.toNat = .ok bs → decode bs = .error e →
        step s = raise { code := 0x01, lanes := 0, va := 0, next := false, detail := [], word := leValue bs, length := bs.length } u) ∧
      (fetchBytes u u.wave u.wave.pc.toNat = .error (va, c) → (∀ pa, c ≠ .device pa ∧ c ≠ .poison pa) →
        step s = raise
          { code := 0x05, lanes := 0, va := BitVec.ofNat 64 va, next := false, detail := [BitVec.ofNat 64 c.code], word := 0,
            length := 0 } u)) ∧
    (s.agenda = [] → startStep s.pace s = .next t → nextIssue t = none → step s = .next t) ∧
    (s.agenda = .event i :: moves → startStep s.pace { s with agenda := moves } = .next t → step s = exec i t) ∧
    (s.agenda = .tick n :: moves → step s = startStep n { s with agenda := moves })

/-- R13, R22, R31, R33: what reset leaves, as R33 has it when BOOTSTAT.STAGE reaches 0x08: memory reads as zero, no partition has an
owner, every island is IDLE, every semaphore is free and served from port 0 on, no wave stands anywhere and the error banks are
clear; memory is in its canonical form. That the model's state after reset is this one, with CYC 0 there although R31 restarts
CYC at STAGE 0x00, is the model's choice (log 2, DESIGN CHOICE). -/
def Obligations.ResetLeavesTheDevice : Prop :=
  let s := State.reset
  (∀ pa, memByte s 0 pa = 0) ∧ (∀ n, s.coreOf n = Core.empty) ∧ (∀ p, (partAt s p).owner = none) ∧
  (∀ i, (islandAt s i).state = .idle) ∧
  (∀ n, (sget s.host.sem n).getLsbD 0 = false ∧ semOrder s n = [.port0, .port1, .management]) ∧ s.allWaves = [] ∧
  s.boot.stage = 0x08 ∧ s.cyc = 0 ∧ (∀ k, tgetD s.banks k Bank.empty = Bank.empty) ∧ Memory.wf s.mem = true

/-- The memory's canonical form is kept by every step: addresses strictly rising, and no entry that an
unlisted address reads as. -/
def Obligations.StepKeepsMemoryCanonical : Prop :=
  ∀ s t : State, Memory.wf s.mem = true → step s = .next t → Memory.wf t.mem = true
end

