-- ==== Sys2Proof/Laws/State.lean ====
section
/-!
SUPPORT. What each update of the state leaves alone: one lemma for each field and update, so that no proof unfolds an
update of a record.
-/

namespace Sys2Proof.Machine

open Sys2Proof

/-! ### State.onWave -/

@[simp] theorem onWave_wave (s : State) (f : Wave → Wave) : (s.onWave f).wave = f s.wave := rfl
@[simp] theorem onWave_waves (s : State) (f : Wave → Wave) : (s.onWave f).waves = s.waves := rfl
@[simp] theorem onWave_blocks (s : State) (f : Wave → Wave) : (s.onWave f).blocks = s.blocks := rfl
@[simp] theorem onWave_spans (s : State) (f : Wave → Wave) : (s.onWave f).spans = s.spans := rfl
@[simp] theorem onWave_cores (s : State) (f : Wave → Wave) : (s.onWave f).cores = s.cores := rfl
@[simp] theorem onWave_mem (s : State) (f : Wave → Wave) : (s.onWave f).mem = s.mem := rfl
@[simp] theorem onWave_lineKey (s : State) (f : Wave → Wave) : (s.onWave f).lineKey = s.lineKey := rfl
@[simp] theorem onWave_array (s : State) (f : Wave → Wave) : (s.onWave f).array = s.array := rfl
@[simp] theorem onWave_poison (s : State) (f : Wave → Wave) : (s.onWave f).poison = s.poison := rfl
@[simp] theorem onWave_marks (s : State) (f : Wave → Wave) : (s.onWave f).marks = s.marks := rfl
@[simp] theorem onWave_locks (s : State) (f : Wave → Wave) : (s.onWave f).locks = s.locks := rfl
@[simp] theorem onWave_lockQ (s : State) (f : Wave → Wave) : (s.onWave f).lockQ = s.lockQ := rfl
@[simp] theorem onWave_keys (s : State) (f : Wave → Wave) : (s.onWave f).keys = s.keys := rfl
@[simp] theorem onWave_parts (s : State) (f : Wave → Wave) : (s.onWave f).parts = s.parts := rfl
@[simp] theorem onWave_admin (s : State) (f : Wave → Wave) : (s.onWave f).admin = s.admin := rfl
@[simp] theorem onWave_adminQueue (s : State) (f : Wave → Wave) : (s.onWave f).adminQueue = s.adminQueue := rfl
@[simp] theorem onWave_adminBusy (s : State) (f : Wave → Wave) : (s.onWave f).adminBusy = s.adminBusy := rfl
@[simp] theorem onWave_cyc (s : State) (f : Wave → Wave) : (s.onWave f).cyc = s.cyc := rfl
@[simp] theorem onWave_islands (s : State) (f : Wave → Wave) : (s.onWave f).islands = s.islands := rfl
@[simp] theorem onWave_power (s : State) (f : Wave → Wave) : (s.onWave f).power = s.power := rfl
@[simp] theorem onWave_fused (s : State) (f : Wave → Wave) : (s.onWave f).fused = s.fused := rfl
@[simp] theorem onWave_retCores (s : State) (f : Wave → Wave) : (s.onWave f).retCores = s.retCores := rfl
@[simp] theorem onWave_retRows (s : State) (f : Wave → Wave) : (s.onWave f).retRows = s.retRows := rfl
@[simp] theorem onWave_retBanks (s : State) (f : Wave → Wave) : (s.onWave f).retBanks = s.retBanks := rfl
@[simp] theorem onWave_boot (s : State) (f : Wave → Wave) : (s.onWave f).boot = s.boot := rfl
@[simp] theorem onWave_host (s : State) (f : Wave → Wave) : (s.onWave f).host = s.host := rfl
@[simp] theorem onWave_banks (s : State) (f : Wave → Wave) : (s.onWave f).banks = s.banks := rfl
@[simp] theorem onWave_evidence (s : State) (f : Wave → Wave) : (s.onWave f).evidence = s.evidence := rfl
@[simp] theorem onWave_fabric (s : State) (f : Wave → Wave) : (s.onWave f).fabric = s.fabric := rfl
@[simp] theorem onWave_receipts (s : State) (f : Wave → Wave) : (s.onWave f).receipts = s.receipts := rfl
@[simp] theorem onWave_receiptN (s : State) (f : Wave → Wave) : (s.onWave f).receiptN = s.receiptN := rfl
@[simp] theorem onWave_sram (s : State) (f : Wave → Wave) : (s.onWave f).sram = s.sram := rfl
@[simp] theorem onWave_hostMem (s : State) (f : Wave → Wave) : (s.onWave f).hostMem = s.hostMem := rfl
@[simp] theorem onWave_fw (s : State) (f : Wave → Wave) : (s.onWave f).fw = s.fw := rfl
@[simp] theorem onWave_quads (s : State) (f : Wave → Wave) : (s.onWave f).quads = s.quads := rfl
@[simp] theorem onWave_agenda (s : State) (f : Wave → Wave) : (s.onWave f).agenda = s.agenda := rfl
@[simp] theorem onWave_pace (s : State) (f : Wave → Wave) : (s.onWave f).pace = s.pace := rfl
@[simp] theorem onWave_quadTurn (s : State) (f : Wave → Wave) : (s.onWave f).quadTurn = s.quadTurn := rfl
@[simp] theorem onWave_fresh (s : State) (f : Wave → Wave) : (s.onWave f).fresh = s.fresh := rfl
@[simp] theorem onWave_placed (s : State) (f : Wave → Wave) : (s.onWave f).placed = s.placed := rfl
@[simp] theorem onWave_arrivals (s : State) (f : Wave → Wave) : (s.onWave f).arrivals = s.arrivals := rfl
@[simp] theorem onWave_unanswered (s : State) (f : Wave → Wave) : (s.onWave f).unanswered = s.unanswered := rfl

/-! ### State.changeSpan -/

@[simp] theorem changeSpan_wave (s : State) (id : SpanId) (f : Span → Span) : (s.changeSpan id f).wave = s.wave := rfl
@[simp] theorem changeSpan_waves (s : State) (id : SpanId) (f : Span → Span) : (s.changeSpan id f).waves = s.waves := rfl
@[simp] theorem changeSpan_blocks (s : State) (id : SpanId) (f : Span → Span) : (s.changeSpan id f).blocks = s.blocks := rfl
@[simp] theorem changeSpan_cores (s : State) (id : SpanId) (f : Span → Span) : (s.changeSpan id f).cores = s.cores := rfl
@[simp] theorem changeSpan_mem (s : State) (id : SpanId) (f : Span → Span) : (s.changeSpan id f).mem = s.mem := rfl
@[simp] theorem changeSpan_lineKey (s : State) (id : SpanId) (f : Span → Span) : (s.changeSpan id f).lineKey = s.lineKey := rfl
@[simp] theorem changeSpan_array (s : State) (id : SpanId) (f : Span → Span) : (s.changeSpan id f).array = s.array := rfl
@[simp] theorem changeSpan_poison (s : State) (id : SpanId) (f : Span → Span) : (s.changeSpan id f).poison = s.poison := rfl
@[simp] theorem changeSpan_marks (s : State) (id : SpanId) (f : Span → Span) : (s.changeSpan id f).marks = s.marks := rfl
@[simp] theorem changeSpan_locks (s : State) (id : SpanId) (f : Span → Span) : (s.changeSpan id f).locks = s.locks := rfl
@[simp] theorem changeSpan_lockQ (s : State) (id : SpanId) (f : Span → Span) : (s.changeSpan id f).lockQ = s.lockQ := rfl
@[simp] theorem changeSpan_keys (s : State) (id : SpanId) (f : Span → Span) : (s.changeSpan id f).keys = s.keys := rfl
@[simp] theorem changeSpan_parts (s : State) (id : SpanId) (f : Span → Span) : (s.changeSpan id f).parts = s.parts := rfl
@[simp] theorem changeSpan_admin (s : State) (id : SpanId) (f : Span → Span) : (s.changeSpan id f).admin = s.admin := rfl
@[simp] theorem changeSpan_adminQueue (s : State) (id : SpanId) (f : Span → Span) : (s.changeSpan id f).adminQueue = s.adminQueue := rfl
@[simp] theorem changeSpan_adminBusy (s : State) (id : SpanId) (f : Span → Span) : (s.changeSpan id f).adminBusy = s.adminBusy := rfl
@[simp] theorem changeSpan_cyc (s : State) (id : SpanId) (f : Span → Span) : (s.changeSpan id f).cyc = s.cyc := rfl
@[simp] theorem changeSpan_islands (s : State) (id : SpanId) (f : Span → Span) : (s.changeSpan id f).islands = s.islands := rfl
@[simp] theorem changeSpan_power (s : State) (id : SpanId) (f : Span → Span) : (s.changeSpan id f).power = s.power := rfl
@[simp] theorem changeSpan_fused (s : State) (id : SpanId) (f : Span → Span) : (s.changeSpan id f).fused = s.fused := rfl
@[simp] theorem changeSpan_retCores (s : State) (id : SpanId) (f : Span → Span) : (s.changeSpan id f).retCores = s.retCores := rfl
@[simp] theorem changeSpan_retRows (s : State) (id : SpanId) (f : Span → Span) : (s.changeSpan id f).retRows = s.retRows := rfl
@[simp] theorem changeSpan_retBanks (s : State) (id : SpanId) (f : Span → Span) : (s.changeSpan id f).retBanks = s.retBanks := rfl
@[simp] theorem changeSpan_boot (s : State) (id : SpanId) (f : Span → Span) : (s.changeSpan id f).boot = s.boot := rfl
@[simp] theorem changeSpan_host (s : State) (id : SpanId) (f : Span → Span) : (s.changeSpan id f).host = s.host := rfl
@[simp] theorem changeSpan_banks (s : State) (id : SpanId) (f : Span → Span) : (s.changeSpan id f).banks = s.banks := rfl
@[simp] theorem changeSpan_evidence (s : State) (id : SpanId) (f : Span → Span) : (s.changeSpan id f).evidence = s.evidence := rfl
@[simp] theorem changeSpan_fabric (s : State) (id : SpanId) (f : Span → Span) : (s.changeSpan id f).fabric = s.fabric := rfl
@[simp] theorem changeSpan_receipts (s : State) (id : SpanId) (f : Span → Span) : (s.changeSpan id f).receipts = s.receipts := rfl
@[simp] theorem changeSpan_receiptN (s : State) (id : SpanId) (f : Span → Span) : (s.changeSpan id f).receiptN = s.receiptN := rfl
@[simp] theorem changeSpan_sram (s : State) (id : SpanId) (f : Span → Span) : (s.changeSpan id f).sram = s.sram := rfl
@[simp] theorem changeSpan_hostMem (s : State) (id : SpanId) (f : Span → Span) : (s.changeSpan id f).hostMem = s.hostMem := rfl
@[simp] theorem changeSpan_fw (s : State) (id : SpanId) (f : Span → Span) : (s.changeSpan id f).fw = s.fw := rfl
@[simp] theorem changeSpan_quads (s : State) (id : SpanId) (f : Span → Span) : (s.changeSpan id f).quads = s.quads := rfl
@[simp] theorem changeSpan_agenda (s : State) (id : SpanId) (f : Span → Span) : (s.changeSpan id f).agenda = s.agenda := rfl
@[simp] theorem changeSpan_pace (s : State) (id : SpanId) (f : Span → Span) : (s.changeSpan id f).pace = s.pace := rfl
@[simp] theorem changeSpan_quadTurn (s : State) (id : SpanId) (f : Span → Span) : (s.changeSpan id f).quadTurn = s.quadTurn := rfl
@[simp] theorem changeSpan_fresh (s : State) (id : SpanId) (f : Span → Span) : (s.changeSpan id f).fresh = s.fresh := rfl
@[simp] theorem changeSpan_placed (s : State) (id : SpanId) (f : Span → Span) : (s.changeSpan id f).placed = s.placed := rfl
@[simp] theorem changeSpan_arrivals (s : State) (id : SpanId) (f : Span → Span) : (s.changeSpan id f).arrivals = s.arrivals := rfl
@[simp] theorem changeSpan_unanswered (s : State) (id : SpanId) (f : Span → Span) : (s.changeSpan id f).unanswered = s.unanswered := rfl

/-! ### State.changeBlock -/

@[simp] theorem changeBlock_wave (s : State) (id : SpanId) (n : Nat) (f : Block → Block) : (s.changeBlock id n f).wave = s.wave := rfl
@[simp] theorem changeBlock_waves (s : State) (id : SpanId) (n : Nat) (f : Block → Block) : (s.changeBlock id n f).waves = s.waves := rfl
@[simp] theorem changeBlock_spans (s : State) (id : SpanId) (n : Nat) (f : Block → Block) : (s.changeBlock id n f).spans = s.spans := rfl
@[simp] theorem changeBlock_cores (s : State) (id : SpanId) (n : Nat) (f : Block → Block) : (s.changeBlock id n f).cores = s.cores := rfl
@[simp] theorem changeBlock_mem (s : State) (id : SpanId) (n : Nat) (f : Block → Block) : (s.changeBlock id n f).mem = s.mem := rfl
@[simp] theorem changeBlock_lineKey (s : State) (id : SpanId) (n : Nat) (f : Block → Block) : (s.changeBlock id n f).lineKey = s.lineKey := rfl
@[simp] theorem changeBlock_array (s : State) (id : SpanId) (n : Nat) (f : Block → Block) : (s.changeBlock id n f).array = s.array := rfl
@[simp] theorem changeBlock_poison (s : State) (id : SpanId) (n : Nat) (f : Block → Block) : (s.changeBlock id n f).poison = s.poison := rfl
@[simp] theorem changeBlock_marks (s : State) (id : SpanId) (n : Nat) (f : Block → Block) : (s.changeBlock id n f).marks = s.marks := rfl
@[simp] theorem changeBlock_locks (s : State) (id : SpanId) (n : Nat) (f : Block → Block) : (s.changeBlock id n f).locks = s.locks := rfl
@[simp] theorem changeBlock_lockQ (s : State) (id : SpanId) (n : Nat) (f : Block → Block) : (s.changeBlock id n f).lockQ = s.lockQ := rfl
@[simp] theorem changeBlock_keys (s : State) (id : SpanId) (n : Nat) (f : Block → Block) : (s.changeBlock id n f).keys = s.keys := rfl
@[simp] theorem changeBlock_parts (s : State) (id : SpanId) (n : Nat) (f : Block → Block) : (s.changeBlock id n f).parts = s.parts := rfl
@[simp] theorem changeBlock_admin (s : State) (id : SpanId) (n : Nat) (f : Block → Block) : (s.changeBlock id n f).admin = s.admin := rfl
@[simp] theorem changeBlock_adminQueue (s : State) (id : SpanId) (n : Nat) (f : Block → Block) : (s.changeBlock id n f).adminQueue = s.adminQueue := rfl
@[simp] theorem changeBlock_adminBusy (s : State) (id : SpanId) (n : Nat) (f : Block → Block) : (s.changeBlock id n f).adminBusy = s.adminBusy := rfl
@[simp] theorem changeBlock_cyc (s : State) (id : SpanId) (n : Nat) (f : Block → Block) : (s.changeBlock id n f).cyc = s.cyc := rfl
@[simp] theorem changeBlock_islands (s : State) (id : SpanId) (n : Nat) (f : Block → Block) : (s.changeBlock id n f).islands = s.islands := rfl
@[simp] theorem changeBlock_power (s : State) (id : SpanId) (n : Nat) (f : Block → Block) : (s.changeBlock id n f).power = s.power := rfl
@[simp] theorem changeBlock_fused (s : State) (id : SpanId) (n : Nat) (f : Block → Block) : (s.changeBlock id n f).fused = s.fused := rfl
@[simp] theorem changeBlock_retCores (s : State) (id : SpanId) (n : Nat) (f : Block → Block) : (s.changeBlock id n f).retCores = s.retCores := rfl
@[simp] theorem changeBlock_retRows (s : State) (id : SpanId) (n : Nat) (f : Block → Block) : (s.changeBlock id n f).retRows = s.retRows := rfl
@[simp] theorem changeBlock_retBanks (s : State) (id : SpanId) (n : Nat) (f : Block → Block) : (s.changeBlock id n f).retBanks = s.retBanks := rfl
@[simp] theorem changeBlock_boot (s : State) (id : SpanId) (n : Nat) (f : Block → Block) : (s.changeBlock id n f).boot = s.boot := rfl
@[simp] theorem changeBlock_host (s : State) (id : SpanId) (n : Nat) (f : Block → Block) : (s.changeBlock id n f).host = s.host := rfl
@[simp] theorem changeBlock_banks (s : State) (id : SpanId) (n : Nat) (f : Block → Block) : (s.changeBlock id n f).banks = s.banks := rfl
@[simp] theorem changeBlock_evidence (s : State) (id : SpanId) (n : Nat) (f : Block → Block) : (s.changeBlock id n f).evidence = s.evidence := rfl
@[simp] theorem changeBlock_fabric (s : State) (id : SpanId) (n : Nat) (f : Block → Block) : (s.changeBlock id n f).fabric = s.fabric := rfl
@[simp] theorem changeBlock_receipts (s : State) (id : SpanId) (n : Nat) (f : Block → Block) : (s.changeBlock id n f).receipts = s.receipts := rfl
@[simp] theorem changeBlock_receiptN (s : State) (id : SpanId) (n : Nat) (f : Block → Block) : (s.changeBlock id n f).receiptN = s.receiptN := rfl
@[simp] theorem changeBlock_sram (s : State) (id : SpanId) (n : Nat) (f : Block → Block) : (s.changeBlock id n f).sram = s.sram := rfl
@[simp] theorem changeBlock_hostMem (s : State) (id : SpanId) (n : Nat) (f : Block → Block) : (s.changeBlock id n f).hostMem = s.hostMem := rfl
@[simp] theorem changeBlock_fw (s : State) (id : SpanId) (n : Nat) (f : Block → Block) : (s.changeBlock id n f).fw = s.fw := rfl
@[simp] theorem changeBlock_quads (s : State) (id : SpanId) (n : Nat) (f : Block → Block) : (s.changeBlock id n f).quads = s.quads := rfl
@[simp] theorem changeBlock_agenda (s : State) (id : SpanId) (n : Nat) (f : Block → Block) : (s.changeBlock id n f).agenda = s.agenda := rfl
@[simp] theorem changeBlock_pace (s : State) (id : SpanId) (n : Nat) (f : Block → Block) : (s.changeBlock id n f).pace = s.pace := rfl
@[simp] theorem changeBlock_quadTurn (s : State) (id : SpanId) (n : Nat) (f : Block → Block) : (s.changeBlock id n f).quadTurn = s.quadTurn := rfl
@[simp] theorem changeBlock_fresh (s : State) (id : SpanId) (n : Nat) (f : Block → Block) : (s.changeBlock id n f).fresh = s.fresh := rfl
@[simp] theorem changeBlock_placed (s : State) (id : SpanId) (n : Nat) (f : Block → Block) : (s.changeBlock id n f).placed = s.placed := rfl
@[simp] theorem changeBlock_arrivals (s : State) (id : SpanId) (n : Nat) (f : Block → Block) : (s.changeBlock id n f).arrivals = s.arrivals := rfl
@[simp] theorem changeBlock_unanswered (s : State) (id : SpanId) (n : Nat) (f : Block → Block) : (s.changeBlock id n f).unanswered = s.unanswered := rfl

/-! ### State.changeCore -/

@[simp] theorem changeCore_wave (s : State) (n : Nat) (f : Core → Core) : (s.changeCore n f).wave = s.wave := rfl
@[simp] theorem changeCore_waves (s : State) (n : Nat) (f : Core → Core) : (s.changeCore n f).waves = s.waves := rfl
@[simp] theorem changeCore_blocks (s : State) (n : Nat) (f : Core → Core) : (s.changeCore n f).blocks = s.blocks := rfl
@[simp] theorem changeCore_spans (s : State) (n : Nat) (f : Core → Core) : (s.changeCore n f).spans = s.spans := rfl
@[simp] theorem changeCore_mem (s : State) (n : Nat) (f : Core → Core) : (s.changeCore n f).mem = s.mem := rfl
@[simp] theorem changeCore_lineKey (s : State) (n : Nat) (f : Core → Core) : (s.changeCore n f).lineKey = s.lineKey := rfl
@[simp] theorem changeCore_array (s : State) (n : Nat) (f : Core → Core) : (s.changeCore n f).array = s.array := rfl
@[simp] theorem changeCore_poison (s : State) (n : Nat) (f : Core → Core) : (s.changeCore n f).poison = s.poison := rfl
@[simp] theorem changeCore_marks (s : State) (n : Nat) (f : Core → Core) : (s.changeCore n f).marks = s.marks := rfl
@[simp] theorem changeCore_locks (s : State) (n : Nat) (f : Core → Core) : (s.changeCore n f).locks = s.locks := rfl
@[simp] theorem changeCore_lockQ (s : State) (n : Nat) (f : Core → Core) : (s.changeCore n f).lockQ = s.lockQ := rfl
@[simp] theorem changeCore_keys (s : State) (n : Nat) (f : Core → Core) : (s.changeCore n f).keys = s.keys := rfl
@[simp] theorem changeCore_parts (s : State) (n : Nat) (f : Core → Core) : (s.changeCore n f).parts = s.parts := rfl
@[simp] theorem changeCore_admin (s : State) (n : Nat) (f : Core → Core) : (s.changeCore n f).admin = s.admin := rfl
@[simp] theorem changeCore_adminQueue (s : State) (n : Nat) (f : Core → Core) : (s.changeCore n f).adminQueue = s.adminQueue := rfl
@[simp] theorem changeCore_adminBusy (s : State) (n : Nat) (f : Core → Core) : (s.changeCore n f).adminBusy = s.adminBusy := rfl
@[simp] theorem changeCore_cyc (s : State) (n : Nat) (f : Core → Core) : (s.changeCore n f).cyc = s.cyc := rfl
@[simp] theorem changeCore_islands (s : State) (n : Nat) (f : Core → Core) : (s.changeCore n f).islands = s.islands := rfl
@[simp] theorem changeCore_power (s : State) (n : Nat) (f : Core → Core) : (s.changeCore n f).power = s.power := rfl
@[simp] theorem changeCore_fused (s : State) (n : Nat) (f : Core → Core) : (s.changeCore n f).fused = s.fused := rfl
@[simp] theorem changeCore_retCores (s : State) (n : Nat) (f : Core → Core) : (s.changeCore n f).retCores = s.retCores := rfl
@[simp] theorem changeCore_retRows (s : State) (n : Nat) (f : Core → Core) : (s.changeCore n f).retRows = s.retRows := rfl
@[simp] theorem changeCore_retBanks (s : State) (n : Nat) (f : Core → Core) : (s.changeCore n f).retBanks = s.retBanks := rfl
@[simp] theorem changeCore_boot (s : State) (n : Nat) (f : Core → Core) : (s.changeCore n f).boot = s.boot := rfl
@[simp] theorem changeCore_host (s : State) (n : Nat) (f : Core → Core) : (s.changeCore n f).host = s.host := rfl
@[simp] theorem changeCore_banks (s : State) (n : Nat) (f : Core → Core) : (s.changeCore n f).banks = s.banks := rfl
@[simp] theorem changeCore_evidence (s : State) (n : Nat) (f : Core → Core) : (s.changeCore n f).evidence = s.evidence := rfl
@[simp] theorem changeCore_fabric (s : State) (n : Nat) (f : Core → Core) : (s.changeCore n f).fabric = s.fabric := rfl
@[simp] theorem changeCore_receipts (s : State) (n : Nat) (f : Core → Core) : (s.changeCore n f).receipts = s.receipts := rfl
@[simp] theorem changeCore_receiptN (s : State) (n : Nat) (f : Core → Core) : (s.changeCore n f).receiptN = s.receiptN := rfl
@[simp] theorem changeCore_sram (s : State) (n : Nat) (f : Core → Core) : (s.changeCore n f).sram = s.sram := rfl
@[simp] theorem changeCore_hostMem (s : State) (n : Nat) (f : Core → Core) : (s.changeCore n f).hostMem = s.hostMem := rfl
@[simp] theorem changeCore_fw (s : State) (n : Nat) (f : Core → Core) : (s.changeCore n f).fw = s.fw := rfl
@[simp] theorem changeCore_quads (s : State) (n : Nat) (f : Core → Core) : (s.changeCore n f).quads = s.quads := rfl
@[simp] theorem changeCore_agenda (s : State) (n : Nat) (f : Core → Core) : (s.changeCore n f).agenda = s.agenda := rfl
@[simp] theorem changeCore_pace (s : State) (n : Nat) (f : Core → Core) : (s.changeCore n f).pace = s.pace := rfl
@[simp] theorem changeCore_quadTurn (s : State) (n : Nat) (f : Core → Core) : (s.changeCore n f).quadTurn = s.quadTurn := rfl
@[simp] theorem changeCore_fresh (s : State) (n : Nat) (f : Core → Core) : (s.changeCore n f).fresh = s.fresh := rfl
@[simp] theorem changeCore_placed (s : State) (n : Nat) (f : Core → Core) : (s.changeCore n f).placed = s.placed := rfl
@[simp] theorem changeCore_arrivals (s : State) (n : Nat) (f : Core → Core) : (s.changeCore n f).arrivals = s.arrivals := rfl
@[simp] theorem changeCore_unanswered (s : State) (n : Nat) (f : Core → Core) : (s.changeCore n f).unanswered = s.unanswered := rfl

/-! ### setPart -/

@[simp] theorem setPart_wave (s : State) (p : Nat) (f : Partition → Partition) : (setPart s p f).wave = s.wave := rfl
@[simp] theorem setPart_waves (s : State) (p : Nat) (f : Partition → Partition) : (setPart s p f).waves = s.waves := rfl
@[simp] theorem setPart_blocks (s : State) (p : Nat) (f : Partition → Partition) : (setPart s p f).blocks = s.blocks := rfl
@[simp] theorem setPart_spans (s : State) (p : Nat) (f : Partition → Partition) : (setPart s p f).spans = s.spans := rfl
@[simp] theorem setPart_cores (s : State) (p : Nat) (f : Partition → Partition) : (setPart s p f).cores = s.cores := rfl
@[simp] theorem setPart_mem (s : State) (p : Nat) (f : Partition → Partition) : (setPart s p f).mem = s.mem := rfl
@[simp] theorem setPart_lineKey (s : State) (p : Nat) (f : Partition → Partition) : (setPart s p f).lineKey = s.lineKey := rfl
@[simp] theorem setPart_array (s : State) (p : Nat) (f : Partition → Partition) : (setPart s p f).array = s.array := rfl
@[simp] theorem setPart_poison (s : State) (p : Nat) (f : Partition → Partition) : (setPart s p f).poison = s.poison := rfl
@[simp] theorem setPart_marks (s : State) (p : Nat) (f : Partition → Partition) : (setPart s p f).marks = s.marks := rfl
@[simp] theorem setPart_locks (s : State) (p : Nat) (f : Partition → Partition) : (setPart s p f).locks = s.locks := rfl
@[simp] theorem setPart_lockQ (s : State) (p : Nat) (f : Partition → Partition) : (setPart s p f).lockQ = s.lockQ := rfl
@[simp] theorem setPart_keys (s : State) (p : Nat) (f : Partition → Partition) : (setPart s p f).keys = s.keys := rfl
@[simp] theorem setPart_admin (s : State) (p : Nat) (f : Partition → Partition) : (setPart s p f).admin = s.admin := rfl
@[simp] theorem setPart_adminQueue (s : State) (p : Nat) (f : Partition → Partition) : (setPart s p f).adminQueue = s.adminQueue := rfl
@[simp] theorem setPart_adminBusy (s : State) (p : Nat) (f : Partition → Partition) : (setPart s p f).adminBusy = s.adminBusy := rfl
@[simp] theorem setPart_cyc (s : State) (p : Nat) (f : Partition → Partition) : (setPart s p f).cyc = s.cyc := rfl
@[simp] theorem setPart_islands (s : State) (p : Nat) (f : Partition → Partition) : (setPart s p f).islands = s.islands := rfl
@[simp] theorem setPart_power (s : State) (p : Nat) (f : Partition → Partition) : (setPart s p f).power = s.power := rfl
@[simp] theorem setPart_fused (s : State) (p : Nat) (f : Partition → Partition) : (setPart s p f).fused = s.fused := rfl
@[simp] theorem setPart_retCores (s : State) (p : Nat) (f : Partition → Partition) : (setPart s p f).retCores = s.retCores := rfl
@[simp] theorem setPart_retRows (s : State) (p : Nat) (f : Partition → Partition) : (setPart s p f).retRows = s.retRows := rfl
@[simp] theorem setPart_retBanks (s : State) (p : Nat) (f : Partition → Partition) : (setPart s p f).retBanks = s.retBanks := rfl
@[simp] theorem setPart_boot (s : State) (p : Nat) (f : Partition → Partition) : (setPart s p f).boot = s.boot := rfl
@[simp] theorem setPart_host (s : State) (p : Nat) (f : Partition → Partition) : (setPart s p f).host = s.host := rfl
@[simp] theorem setPart_banks (s : State) (p : Nat) (f : Partition → Partition) : (setPart s p f).banks = s.banks := rfl
@[simp] theorem setPart_evidence (s : State) (p : Nat) (f : Partition → Partition) : (setPart s p f).evidence = s.evidence := rfl
@[simp] theorem setPart_fabric (s : State) (p : Nat) (f : Partition → Partition) : (setPart s p f).fabric = s.fabric := rfl
@[simp] theorem setPart_receipts (s : State) (p : Nat) (f : Partition → Partition) : (setPart s p f).receipts = s.receipts := rfl
@[simp] theorem setPart_receiptN (s : State) (p : Nat) (f : Partition → Partition) : (setPart s p f).receiptN = s.receiptN := rfl
@[simp] theorem setPart_sram (s : State) (p : Nat) (f : Partition → Partition) : (setPart s p f).sram = s.sram := rfl
@[simp] theorem setPart_hostMem (s : State) (p : Nat) (f : Partition → Partition) : (setPart s p f).hostMem = s.hostMem := rfl
@[simp] theorem setPart_fw (s : State) (p : Nat) (f : Partition → Partition) : (setPart s p f).fw = s.fw := rfl
@[simp] theorem setPart_quads (s : State) (p : Nat) (f : Partition → Partition) : (setPart s p f).quads = s.quads := rfl
@[simp] theorem setPart_agenda (s : State) (p : Nat) (f : Partition → Partition) : (setPart s p f).agenda = s.agenda := rfl
@[simp] theorem setPart_pace (s : State) (p : Nat) (f : Partition → Partition) : (setPart s p f).pace = s.pace := rfl
@[simp] theorem setPart_quadTurn (s : State) (p : Nat) (f : Partition → Partition) : (setPart s p f).quadTurn = s.quadTurn := rfl
@[simp] theorem setPart_fresh (s : State) (p : Nat) (f : Partition → Partition) : (setPart s p f).fresh = s.fresh := rfl
@[simp] theorem setPart_placed (s : State) (p : Nat) (f : Partition → Partition) : (setPart s p f).placed = s.placed := rfl
@[simp] theorem setPart_arrivals (s : State) (p : Nat) (f : Partition → Partition) : (setPart s p f).arrivals = s.arrivals := rfl
@[simp] theorem setPart_unanswered (s : State) (p : Nat) (f : Partition → Partition) : (setPart s p f).unanswered = s.unanswered := rfl

/-! ### State.changeWaves -/

@[simp] theorem changeWaves_blocks (s : State) (p : Wave → Bool) (f : Wave → Wave) : (s.changeWaves p f).blocks = s.blocks := rfl
@[simp] theorem changeWaves_spans (s : State) (p : Wave → Bool) (f : Wave → Wave) : (s.changeWaves p f).spans = s.spans := rfl
@[simp] theorem changeWaves_cores (s : State) (p : Wave → Bool) (f : Wave → Wave) : (s.changeWaves p f).cores = s.cores := rfl
@[simp] theorem changeWaves_mem (s : State) (p : Wave → Bool) (f : Wave → Wave) : (s.changeWaves p f).mem = s.mem := rfl
@[simp] theorem changeWaves_lineKey (s : State) (p : Wave → Bool) (f : Wave → Wave) : (s.changeWaves p f).lineKey = s.lineKey := rfl
@[simp] theorem changeWaves_array (s : State) (p : Wave → Bool) (f : Wave → Wave) : (s.changeWaves p f).array = s.array := rfl
@[simp] theorem changeWaves_poison (s : State) (p : Wave → Bool) (f : Wave → Wave) : (s.changeWaves p f).poison = s.poison := rfl
@[simp] theorem changeWaves_marks (s : State) (p : Wave → Bool) (f : Wave → Wave) : (s.changeWaves p f).marks = s.marks := rfl
@[simp] theorem changeWaves_locks (s : State) (p : Wave → Bool) (f : Wave → Wave) : (s.changeWaves p f).locks = s.locks := rfl
@[simp] theorem changeWaves_lockQ (s : State) (p : Wave → Bool) (f : Wave → Wave) : (s.changeWaves p f).lockQ = s.lockQ := rfl
@[simp] theorem changeWaves_keys (s : State) (p : Wave → Bool) (f : Wave → Wave) : (s.changeWaves p f).keys = s.keys := rfl
@[simp] theorem changeWaves_parts (s : State) (p : Wave → Bool) (f : Wave → Wave) : (s.changeWaves p f).parts = s.parts := rfl
@[simp] theorem changeWaves_admin (s : State) (p : Wave → Bool) (f : Wave → Wave) : (s.changeWaves p f).admin = s.admin := rfl
@[simp] theorem changeWaves_adminQueue (s : State) (p : Wave → Bool) (f : Wave → Wave) : (s.changeWaves p f).adminQueue = s.adminQueue := rfl
@[simp] theorem changeWaves_adminBusy (s : State) (p : Wave → Bool) (f : Wave → Wave) : (s.changeWaves p f).adminBusy = s.adminBusy := rfl
@[simp] theorem changeWaves_cyc (s : State) (p : Wave → Bool) (f : Wave → Wave) : (s.changeWaves p f).cyc = s.cyc := rfl
@[simp] theorem changeWaves_islands (s : State) (p : Wave → Bool) (f : Wave → Wave) : (s.changeWaves p f).islands = s.islands := rfl
@[simp] theorem changeWaves_power (s : State) (p : Wave → Bool) (f : Wave → Wave) : (s.changeWaves p f).power = s.power := rfl
@[simp] theorem changeWaves_fused (s : State) (p : Wave → Bool) (f : Wave → Wave) : (s.changeWaves p f).fused = s.fused := rfl
@[simp] theorem changeWaves_retCores (s : State) (p : Wave → Bool) (f : Wave → Wave) : (s.changeWaves p f).retCores = s.retCores := rfl
@[simp] theorem changeWaves_retRows (s : State) (p : Wave → Bool) (f : Wave → Wave) : (s.changeWaves p f).retRows = s.retRows := rfl
@[simp] theorem changeWaves_retBanks (s : State) (p : Wave → Bool) (f : Wave → Wave) : (s.changeWaves p f).retBanks = s.retBanks := rfl
@[simp] theorem changeWaves_boot (s : State) (p : Wave → Bool) (f : Wave → Wave) : (s.changeWaves p f).boot = s.boot := rfl
@[simp] theorem changeWaves_host (s : State) (p : Wave → Bool) (f : Wave → Wave) : (s.changeWaves p f).host = s.host := rfl
@[simp] theorem changeWaves_banks (s : State) (p : Wave → Bool) (f : Wave → Wave) : (s.changeWaves p f).banks = s.banks := rfl
@[simp] theorem changeWaves_evidence (s : State) (p : Wave → Bool) (f : Wave → Wave) : (s.changeWaves p f).evidence = s.evidence := rfl
@[simp] theorem changeWaves_fabric (s : State) (p : Wave → Bool) (f : Wave → Wave) : (s.changeWaves p f).fabric = s.fabric := rfl
@[simp] theorem changeWaves_receipts (s : State) (p : Wave → Bool) (f : Wave → Wave) : (s.changeWaves p f).receipts = s.receipts := rfl
@[simp] theorem changeWaves_receiptN (s : State) (p : Wave → Bool) (f : Wave → Wave) : (s.changeWaves p f).receiptN = s.receiptN := rfl
@[simp] theorem changeWaves_sram (s : State) (p : Wave → Bool) (f : Wave → Wave) : (s.changeWaves p f).sram = s.sram := rfl
@[simp] theorem changeWaves_hostMem (s : State) (p : Wave → Bool) (f : Wave → Wave) : (s.changeWaves p f).hostMem = s.hostMem := rfl
@[simp] theorem changeWaves_fw (s : State) (p : Wave → Bool) (f : Wave → Wave) : (s.changeWaves p f).fw = s.fw := rfl
@[simp] theorem changeWaves_quads (s : State) (p : Wave → Bool) (f : Wave → Wave) : (s.changeWaves p f).quads = s.quads := rfl
@[simp] theorem changeWaves_agenda (s : State) (p : Wave → Bool) (f : Wave → Wave) : (s.changeWaves p f).agenda = s.agenda := rfl
@[simp] theorem changeWaves_pace (s : State) (p : Wave → Bool) (f : Wave → Wave) : (s.changeWaves p f).pace = s.pace := rfl
@[simp] theorem changeWaves_quadTurn (s : State) (p : Wave → Bool) (f : Wave → Wave) : (s.changeWaves p f).quadTurn = s.quadTurn := rfl
@[simp] theorem changeWaves_fresh (s : State) (p : Wave → Bool) (f : Wave → Wave) : (s.changeWaves p f).fresh = s.fresh := rfl
@[simp] theorem changeWaves_placed (s : State) (p : Wave → Bool) (f : Wave → Wave) : (s.changeWaves p f).placed = s.placed := rfl
@[simp] theorem changeWaves_arrivals (s : State) (p : Wave → Bool) (f : Wave → Wave) : (s.changeWaves p f).arrivals = s.arrivals := rfl
@[simp] theorem changeWaves_unanswered (s : State) (p : Wave → Bool) (f : Wave → Wave) : (s.changeWaves p f).unanswered = s.unanswered := rfl

/-! ### retire -/

@[simp] theorem retire_waves (i : Instr) (n : Nat) (t : Option Word64) (b : Wave) (s : State) : (retire i n t b s).waves = s.waves := rfl
@[simp] theorem retire_blocks (i : Instr) (n : Nat) (t : Option Word64) (b : Wave) (s : State) : (retire i n t b s).blocks = s.blocks := rfl
@[simp] theorem retire_spans (i : Instr) (n : Nat) (t : Option Word64) (b : Wave) (s : State) : (retire i n t b s).spans = s.spans := rfl
@[simp] theorem retire_cores (i : Instr) (n : Nat) (t : Option Word64) (b : Wave) (s : State) : (retire i n t b s).cores = s.cores := rfl
@[simp] theorem retire_mem (i : Instr) (n : Nat) (t : Option Word64) (b : Wave) (s : State) : (retire i n t b s).mem = s.mem := rfl
@[simp] theorem retire_lineKey (i : Instr) (n : Nat) (t : Option Word64) (b : Wave) (s : State) : (retire i n t b s).lineKey = s.lineKey := rfl
@[simp] theorem retire_array (i : Instr) (n : Nat) (t : Option Word64) (b : Wave) (s : State) : (retire i n t b s).array = s.array := rfl
@[simp] theorem retire_poison (i : Instr) (n : Nat) (t : Option Word64) (b : Wave) (s : State) : (retire i n t b s).poison = s.poison := rfl
@[simp] theorem retire_marks (i : Instr) (n : Nat) (t : Option Word64) (b : Wave) (s : State) : (retire i n t b s).marks = s.marks := rfl
@[simp] theorem retire_locks (i : Instr) (n : Nat) (t : Option Word64) (b : Wave) (s : State) : (retire i n t b s).locks = s.locks := rfl
@[simp] theorem retire_lockQ (i : Instr) (n : Nat) (t : Option Word64) (b : Wave) (s : State) : (retire i n t b s).lockQ = s.lockQ := rfl
@[simp] theorem retire_keys (i : Instr) (n : Nat) (t : Option Word64) (b : Wave) (s : State) : (retire i n t b s).keys = s.keys := rfl
@[simp] theorem retire_parts (i : Instr) (n : Nat) (t : Option Word64) (b : Wave) (s : State) : (retire i n t b s).parts = s.parts := rfl
@[simp] theorem retire_admin (i : Instr) (n : Nat) (t : Option Word64) (b : Wave) (s : State) : (retire i n t b s).admin = s.admin := rfl
@[simp] theorem retire_adminQueue (i : Instr) (n : Nat) (t : Option Word64) (b : Wave) (s : State) : (retire i n t b s).adminQueue = s.adminQueue := rfl
@[simp] theorem retire_adminBusy (i : Instr) (n : Nat) (t : Option Word64) (b : Wave) (s : State) : (retire i n t b s).adminBusy = s.adminBusy := rfl
@[simp] theorem retire_cyc (i : Instr) (n : Nat) (t : Option Word64) (b : Wave) (s : State) : (retire i n t b s).cyc = s.cyc := rfl
@[simp] theorem retire_islands (i : Instr) (n : Nat) (t : Option Word64) (b : Wave) (s : State) : (retire i n t b s).islands = s.islands := rfl
@[simp] theorem retire_power (i : Instr) (n : Nat) (t : Option Word64) (b : Wave) (s : State) : (retire i n t b s).power = s.power := rfl
@[simp] theorem retire_fused (i : Instr) (n : Nat) (t : Option Word64) (b : Wave) (s : State) : (retire i n t b s).fused = s.fused := rfl
@[simp] theorem retire_retCores (i : Instr) (n : Nat) (t : Option Word64) (b : Wave) (s : State) : (retire i n t b s).retCores = s.retCores := rfl
@[simp] theorem retire_retRows (i : Instr) (n : Nat) (t : Option Word64) (b : Wave) (s : State) : (retire i n t b s).retRows = s.retRows := rfl
@[simp] theorem retire_retBanks (i : Instr) (n : Nat) (t : Option Word64) (b : Wave) (s : State) : (retire i n t b s).retBanks = s.retBanks := rfl
@[simp] theorem retire_boot (i : Instr) (n : Nat) (t : Option Word64) (b : Wave) (s : State) : (retire i n t b s).boot = s.boot := rfl
@[simp] theorem retire_host (i : Instr) (n : Nat) (t : Option Word64) (b : Wave) (s : State) : (retire i n t b s).host = s.host := rfl
@[simp] theorem retire_banks (i : Instr) (n : Nat) (t : Option Word64) (b : Wave) (s : State) : (retire i n t b s).banks = s.banks := rfl
@[simp] theorem retire_evidence (i : Instr) (n : Nat) (t : Option Word64) (b : Wave) (s : State) : (retire i n t b s).evidence = s.evidence := rfl
@[simp] theorem retire_fabric (i : Instr) (n : Nat) (t : Option Word64) (b : Wave) (s : State) : (retire i n t b s).fabric = s.fabric := rfl
@[simp] theorem retire_receipts (i : Instr) (n : Nat) (t : Option Word64) (b : Wave) (s : State) : (retire i n t b s).receipts = s.receipts := rfl
@[simp] theorem retire_receiptN (i : Instr) (n : Nat) (t : Option Word64) (b : Wave) (s : State) : (retire i n t b s).receiptN = s.receiptN := rfl
@[simp] theorem retire_sram (i : Instr) (n : Nat) (t : Option Word64) (b : Wave) (s : State) : (retire i n t b s).sram = s.sram := rfl
@[simp] theorem retire_hostMem (i : Instr) (n : Nat) (t : Option Word64) (b : Wave) (s : State) : (retire i n t b s).hostMem = s.hostMem := rfl
@[simp] theorem retire_fw (i : Instr) (n : Nat) (t : Option Word64) (b : Wave) (s : State) : (retire i n t b s).fw = s.fw := rfl
@[simp] theorem retire_quads (i : Instr) (n : Nat) (t : Option Word64) (b : Wave) (s : State) : (retire i n t b s).quads = s.quads := rfl
@[simp] theorem retire_agenda (i : Instr) (n : Nat) (t : Option Word64) (b : Wave) (s : State) : (retire i n t b s).agenda = s.agenda := rfl
@[simp] theorem retire_pace (i : Instr) (n : Nat) (t : Option Word64) (b : Wave) (s : State) : (retire i n t b s).pace = s.pace := rfl
@[simp] theorem retire_quadTurn (i : Instr) (n : Nat) (t : Option Word64) (b : Wave) (s : State) : (retire i n t b s).quadTurn = s.quadTurn := rfl
@[simp] theorem retire_fresh (i : Instr) (n : Nat) (t : Option Word64) (b : Wave) (s : State) : (retire i n t b s).fresh = s.fresh := rfl
@[simp] theorem retire_placed (i : Instr) (n : Nat) (t : Option Word64) (b : Wave) (s : State) : (retire i n t b s).placed = s.placed := rfl
@[simp] theorem retire_arrivals (i : Instr) (n : Nat) (t : Option Word64) (b : Wave) (s : State) : (retire i n t b s).arrivals = s.arrivals := rfl
@[simp] theorem retire_unanswered (i : Instr) (n : Nat) (t : Option Word64) (b : Wave) (s : State) : (retire i n t b s).unanswered = s.unanswered := rfl

/-! ### Wave.note, and the writes of a register -/

/-- Noting a pending result changes the scoreboard alone. -/
theorem note_eq (w : Wave) (r : RegId) (old : Sparse 64) (wait : Nat) (held : Bool) :
    w.note r old wait held = { w with pend := (w.note r old wait held).pend } := by unfold Wave.note; split <;> rfl

@[simp] theorem note_id (w : Wave) (r : RegId) (old : Sparse 64) (n : Nat) (h : Bool) : (w.note r old n h).id = w.id := by rw [note_eq]
@[simp] theorem note_span (w : Wave) (r : RegId) (old : Sparse 64) (n : Nat) (h : Bool) : (w.note r old n h).span = w.span := by rw [note_eq]
@[simp] theorem note_block (w : Wave) (r : RegId) (old : Sparse 64) (n : Nat) (h : Bool) : (w.note r old n h).block = w.block := by rw [note_eq]
@[simp] theorem note_index (w : Wave) (r : RegId) (old : Sparse 64) (n : Nat) (h : Bool) : (w.note r old n h).index = w.index := by rw [note_eq]
@[simp] theorem note_core (w : Wave) (r : RegId) (old : Sparse 64) (n : Nat) (h : Bool) : (w.note r old n h).core = w.core := by rw [note_eq]
@[simp] theorem note_quad (w : Wave) (r : RegId) (old : Sparse 64) (n : Nat) (h : Bool) : (w.note r old n h).quad = w.quad := by rw [note_eq]
@[simp] theorem note_place (w : Wave) (r : RegId) (old : Sparse 64) (n : Nat) (h : Bool) : (w.note r old n h).place = w.place := by rw [note_eq]
@[simp] theorem note_regs (w : Wave) (r : RegId) (old : Sparse 64) (n : Nat) (h : Bool) : (w.note r old n h).regs = w.regs := by rw [note_eq]
@[simp] theorem note_resident (w : Wave) (r : RegId) (old : Sparse 64) (n : Nat) (h : Bool) : (w.note r old n h).resident = w.resident := by rw [note_eq]
@[simp] theorem note_full (w : Wave) (r : RegId) (old : Sparse 64) (n : Nat) (h : Bool) : (w.note r old n h).full = w.full := by rw [note_eq]
@[simp] theorem note_halting (w : Wave) (r : RegId) (old : Sparse 64) (n : Nat) (h : Bool) : (w.note r old n h).halting = w.halting := by rw [note_eq]
@[simp] theorem note_wait (w : Wave) (r : RegId) (old : Sparse 64) (n : Nat) (h : Bool) : (w.note r old n h).wait = w.wait := by rw [note_eq]
@[simp] theorem note_pc (w : Wave) (r : RegId) (old : Sparse 64) (n : Nat) (h : Bool) : (w.note r old n h).pc = w.pc := by rw [note_eq]
@[simp] theorem note_level (w : Wave) (r : RegId) (old : Sparse 64) (n : Nat) (h : Bool) : (w.note r old n h).level = w.level := by rw [note_eq]
@[simp] theorem note_s (w : Wave) (r : RegId) (old : Sparse 64) (n : Nat) (h : Bool) : (w.note r old n h).s = w.s := by rw [note_eq]
@[simp] theorem note_v (w : Wave) (r : RegId) (old : Sparse 64) (n : Nat) (h : Bool) : (w.note r old n h).v = w.v := by rw [note_eq]
@[simp] theorem note_m (w : Wave) (r : RegId) (old : Sparse 64) (n : Nat) (h : Bool) : (w.note r old n h).m = w.m := by rw [note_eq]
@[simp] theorem note_active (w : Wave) (r : RegId) (old : Sparse 64) (n : Nat) (h : Bool) : (w.note r old n h).active = w.active := by rw [note_eq]
@[simp] theorem note_retired (w : Wave) (r : RegId) (old : Sparse 64) (n : Nat) (h : Bool) : (w.note r old n h).retired = w.retired := by rw [note_eq]
@[simp] theorem note_stack (w : Wave) (r : RegId) (old : Sparse 64) (n : Nat) (h : Bool) : (w.note r old n h).stack = w.stack := by rw [note_eq]
@[simp] theorem note_a (w : Wave) (r : RegId) (old : Sparse 64) (n : Nat) (h : Bool) : (w.note r old n h).a = w.a := by rw [note_eq]
@[simp] theorem note_satf (w : Wave) (r : RegId) (old : Sparse 64) (n : Nat) (h : Bool) : (w.note r old n h).satf = w.satf := by rw [note_eq]
@[simp] theorem note_satctl (w : Wave) (r : RegId) (old : Sparse 64) (n : Nat) (h : Bool) : (w.note r old n h).satctl = w.satctl := by rw [note_eq]
@[simp] theorem note_sig (w : Wave) (r : RegId) (old : Sparse 64) (n : Nat) (h : Bool) : (w.note r old n h).sig = w.sig := by rw [note_eq]
@[simp] theorem note_sigctl (w : Wave) (r : RegId) (old : Sparse 64) (n : Nat) (h : Bool) : (w.note r old n h).sigctl = w.sigctl := by rw [note_eq]
@[simp] theorem note_sbchk (w : Wave) (r : RegId) (old : Sparse 64) (n : Nat) (h : Bool) : (w.note r old n h).sbchk = w.sbchk := by rw [note_eq]
@[simp] theorem note_trapvec (w : Wave) (r : RegId) (old : Sparse 64) (n : Nat) (h : Bool) : (w.note r old n h).trapvec = w.trapvec := by rw [note_eq]
@[simp] theorem note_trapframe (w : Wave) (r : RegId) (old : Sparse 64) (n : Nat) (h : Bool) : (w.note r old n h).trapframe = w.trapframe := by rw [note_eq]
@[simp] theorem note_xdom (w : Wave) (r : RegId) (old : Sparse 64) (n : Nat) (h : Bool) : (w.note r old n h).xdom = w.xdom := by rw [note_eq]
@[simp] theorem note_wid (w : Wave) (r : RegId) (old : Sparse 64) (n : Nat) (h : Bool) : (w.note r old n h).wid = w.wid := by rw [note_eq]
@[simp] theorem note_widfmt (w : Wave) (r : RegId) (old : Sparse 64) (n : Nat) (h : Bool) : (w.note r old n h).widfmt = w.widfmt := by rw [note_eq]
@[simp] theorem note_run (w : Wave) (r : RegId) (old : Sparse 64) (n : Nat) (h : Bool) : (w.note r old n h).run = w.run := by rw [note_eq]
@[simp] theorem note_now (w : Wave) (r : RegId) (old : Sparse 64) (n : Nat) (h : Bool) : (w.note r old n h).now = w.now := by rw [note_eq]
@[simp] theorem note_readyAt (w : Wave) (r : RegId) (old : Sparse 64) (n : Nat) (h : Bool) : (w.note r old n h).readyAt = w.readyAt := by rw [note_eq]
@[simp] theorem note_performed (w : Wave) (r : RegId) (old : Sparse 64) (n : Nat) (h : Bool) : (w.note r old n h).performed = w.performed := by rw [note_eq]
@[simp] theorem note_service (w : Wave) (r : RegId) (old : Sparse 64) (n : Nat) (h : Bool) : (w.note r old n h).service = w.service := by rw [note_eq]
@[simp] theorem note_trap (w : Wave) (r : RegId) (old : Sparse 64) (n : Nat) (h : Bool) : (w.note r old n h).trap = w.trap := by rw [note_eq]
@[simp] theorem note_refused (w : Wave) (r : RegId) (old : Sparse 64) (n : Nat) (h : Bool) : (w.note r old n h).refused = w.refused := by rw [note_eq]
@[simp] theorem note_ratoms (w : Wave) (r : RegId) (old : Sparse 64) (n : Nat) (h : Bool) : (w.note r old n h).ratoms = w.ratoms := by rw [note_eq]
@[simp] theorem note_tokens (w : Wave) (r : RegId) (old : Sparse 64) (n : Nat) (h : Bool) : (w.note r old n h).tokens = w.tokens := by rw [note_eq]
@[simp] theorem note_poisonV (w : Wave) (r : RegId) (old : Sparse 64) (n : Nat) (h : Bool) : (w.note r old n h).poisonV = w.poisonV := by rw [note_eq]
@[simp] theorem note_poisonS (w : Wave) (r : RegId) (old : Sparse 64) (n : Nat) (h : Bool) : (w.note r old n h).poisonS = w.poisonS := by rw [note_eq]
@[simp] theorem note_poisonM (w : Wave) (r : RegId) (old : Sparse 64) (n : Nat) (h : Bool) : (w.note r old n h).poisonM = w.poisonM := by rw [note_eq]
@[simp] theorem note_poisonA (w : Wave) (r : RegId) (old : Sparse 64) (n : Nat) (h : Bool) : (w.note r old n h).poisonA = w.poisonA := by rw [note_eq]
@[simp] theorem note_poisonC (w : Wave) (r : RegId) (old : Sparse 64) (n : Nat) (h : Bool) : (w.note r old n h).poisonC = w.poisonC := by rw [note_eq]
@[simp] theorem note_fuse (w : Wave) (r : RegId) (old : Sparse 64) (n : Nat) (h : Bool) : (w.note r old n h).fuse = w.fuse := by rw [note_eq]
@[simp] theorem note_yielded (w : Wave) (r : RegId) (old : Sparse 64) (n : Nat) (h : Bool) : (w.note r old n h).yielded = w.yielded := by rw [note_eq]
@[simp] theorem note_inWait (w : Wave) (r : RegId) (old : Sparse 64) (n : Nat) (h : Bool) : (w.note r old n h).inWait = w.inWait := by rw [note_eq]
@[simp] theorem note_issued (w : Wave) (r : RegId) (old : Sparse 64) (n : Nat) (h : Bool) : (w.note r old n h).issued = w.issued := by rw [note_eq]
@[simp] theorem note_since (w : Wave) (r : RegId) (old : Sparse 64) (n : Nat) (h : Bool) : (w.note r old n h).since = w.since := by rw [note_eq]

@[simp] theorem putS_id (w : Wave) (r : Nat) (x : Word64) (n : Nat) (h : Bool) : (w.putS r x n h).id = w.id := by simp [Wave.putS]
@[simp] theorem putS_span (w : Wave) (r : Nat) (x : Word64) (n : Nat) (h : Bool) : (w.putS r x n h).span = w.span := by simp [Wave.putS]
@[simp] theorem putS_block (w : Wave) (r : Nat) (x : Word64) (n : Nat) (h : Bool) : (w.putS r x n h).block = w.block := by simp [Wave.putS]
@[simp] theorem putS_index (w : Wave) (r : Nat) (x : Word64) (n : Nat) (h : Bool) : (w.putS r x n h).index = w.index := by simp [Wave.putS]
@[simp] theorem putS_core (w : Wave) (r : Nat) (x : Word64) (n : Nat) (h : Bool) : (w.putS r x n h).core = w.core := by simp [Wave.putS]
@[simp] theorem putS_quad (w : Wave) (r : Nat) (x : Word64) (n : Nat) (h : Bool) : (w.putS r x n h).quad = w.quad := by simp [Wave.putS]
@[simp] theorem putS_place (w : Wave) (r : Nat) (x : Word64) (n : Nat) (h : Bool) : (w.putS r x n h).place = w.place := by simp [Wave.putS]
@[simp] theorem putS_regs (w : Wave) (r : Nat) (x : Word64) (n : Nat) (h : Bool) : (w.putS r x n h).regs = w.regs := by simp [Wave.putS]
@[simp] theorem putS_resident (w : Wave) (r : Nat) (x : Word64) (n : Nat) (h : Bool) : (w.putS r x n h).resident = w.resident := by simp [Wave.putS]
@[simp] theorem putS_full (w : Wave) (r : Nat) (x : Word64) (n : Nat) (h : Bool) : (w.putS r x n h).full = w.full := by simp [Wave.putS]
@[simp] theorem putS_halting (w : Wave) (r : Nat) (x : Word64) (n : Nat) (h : Bool) : (w.putS r x n h).halting = w.halting := by simp [Wave.putS]
@[simp] theorem putS_wait (w : Wave) (r : Nat) (x : Word64) (n : Nat) (h : Bool) : (w.putS r x n h).wait = w.wait := by simp [Wave.putS]
@[simp] theorem putS_pc (w : Wave) (r : Nat) (x : Word64) (n : Nat) (h : Bool) : (w.putS r x n h).pc = w.pc := by simp [Wave.putS]
@[simp] theorem putS_level (w : Wave) (r : Nat) (x : Word64) (n : Nat) (h : Bool) : (w.putS r x n h).level = w.level := by simp [Wave.putS]
@[simp] theorem putS_v (w : Wave) (r : Nat) (x : Word64) (n : Nat) (h : Bool) : (w.putS r x n h).v = w.v := by simp [Wave.putS]
@[simp] theorem putS_m (w : Wave) (r : Nat) (x : Word64) (n : Nat) (h : Bool) : (w.putS r x n h).m = w.m := by simp [Wave.putS]
@[simp] theorem putS_active (w : Wave) (r : Nat) (x : Word64) (n : Nat) (h : Bool) : (w.putS r x n h).active = w.active := by simp [Wave.putS]
@[simp] theorem putS_retired (w : Wave) (r : Nat) (x : Word64) (n : Nat) (h : Bool) : (w.putS r x n h).retired = w.retired := by simp [Wave.putS]
@[simp] theorem putS_stack (w : Wave) (r : Nat) (x : Word64) (n : Nat) (h : Bool) : (w.putS r x n h).stack = w.stack := by simp [Wave.putS]
@[simp] theorem putS_a (w : Wave) (r : Nat) (x : Word64) (n : Nat) (h : Bool) : (w.putS r x n h).a = w.a := by simp [Wave.putS]
@[simp] theorem putS_satf (w : Wave) (r : Nat) (x : Word64) (n : Nat) (h : Bool) : (w.putS r x n h).satf = w.satf := by simp [Wave.putS]
@[simp] theorem putS_satctl (w : Wave) (r : Nat) (x : Word64) (n : Nat) (h : Bool) : (w.putS r x n h).satctl = w.satctl := by simp [Wave.putS]
@[simp] theorem putS_sig (w : Wave) (r : Nat) (x : Word64) (n : Nat) (h : Bool) : (w.putS r x n h).sig = w.sig := by simp [Wave.putS]
@[simp] theorem putS_sigctl (w : Wave) (r : Nat) (x : Word64) (n : Nat) (h : Bool) : (w.putS r x n h).sigctl = w.sigctl := by simp [Wave.putS]
@[simp] theorem putS_sbchk (w : Wave) (r : Nat) (x : Word64) (n : Nat) (h : Bool) : (w.putS r x n h).sbchk = w.sbchk := by simp [Wave.putS]
@[simp] theorem putS_trapvec (w : Wave) (r : Nat) (x : Word64) (n : Nat) (h : Bool) : (w.putS r x n h).trapvec = w.trapvec := by simp [Wave.putS]
@[simp] theorem putS_trapframe (w : Wave) (r : Nat) (x : Word64) (n : Nat) (h : Bool) : (w.putS r x n h).trapframe = w.trapframe := by simp [Wave.putS]
@[simp] theorem putS_xdom (w : Wave) (r : Nat) (x : Word64) (n : Nat) (h : Bool) : (w.putS r x n h).xdom = w.xdom := by simp [Wave.putS]
@[simp] theorem putS_wid (w : Wave) (r : Nat) (x : Word64) (n : Nat) (h : Bool) : (w.putS r x n h).wid = w.wid := by simp [Wave.putS]
@[simp] theorem putS_widfmt (w : Wave) (r : Nat) (x : Word64) (n : Nat) (h : Bool) : (w.putS r x n h).widfmt = w.widfmt := by simp [Wave.putS]
@[simp] theorem putS_run (w : Wave) (r : Nat) (x : Word64) (n : Nat) (h : Bool) : (w.putS r x n h).run = w.run := by simp [Wave.putS]
@[simp] theorem putS_now (w : Wave) (r : Nat) (x : Word64) (n : Nat) (h : Bool) : (w.putS r x n h).now = w.now := by simp [Wave.putS]
@[simp] theorem putS_readyAt (w : Wave) (r : Nat) (x : Word64) (n : Nat) (h : Bool) : (w.putS r x n h).readyAt = w.readyAt := by simp [Wave.putS]
@[simp] theorem putS_performed (w : Wave) (r : Nat) (x : Word64) (n : Nat) (h : Bool) : (w.putS r x n h).performed = w.performed := by simp [Wave.putS]
@[simp] theorem putS_service (w : Wave) (r : Nat) (x : Word64) (n : Nat) (h : Bool) : (w.putS r x n h).service = w.service := by simp [Wave.putS]
@[simp] theorem putS_trap (w : Wave) (r : Nat) (x : Word64) (n : Nat) (h : Bool) : (w.putS r x n h).trap = w.trap := by simp [Wave.putS]
@[simp] theorem putS_refused (w : Wave) (r : Nat) (x : Word64) (n : Nat) (h : Bool) : (w.putS r x n h).refused = w.refused := by simp [Wave.putS]
@[simp] theorem putS_ratoms (w : Wave) (r : Nat) (x : Word64) (n : Nat) (h : Bool) : (w.putS r x n h).ratoms = w.ratoms := by simp [Wave.putS]
@[simp] theorem putS_tokens (w : Wave) (r : Nat) (x : Word64) (n : Nat) (h : Bool) : (w.putS r x n h).tokens = w.tokens := by simp [Wave.putS]
@[simp] theorem putS_poisonV (w : Wave) (r : Nat) (x : Word64) (n : Nat) (h : Bool) : (w.putS r x n h).poisonV = w.poisonV := by simp [Wave.putS]
@[simp] theorem putS_poisonM (w : Wave) (r : Nat) (x : Word64) (n : Nat) (h : Bool) : (w.putS r x n h).poisonM = w.poisonM := by simp [Wave.putS]
@[simp] theorem putS_poisonA (w : Wave) (r : Nat) (x : Word64) (n : Nat) (h : Bool) : (w.putS r x n h).poisonA = w.poisonA := by simp [Wave.putS]
@[simp] theorem putS_poisonC (w : Wave) (r : Nat) (x : Word64) (n : Nat) (h : Bool) : (w.putS r x n h).poisonC = w.poisonC := by simp [Wave.putS]
@[simp] theorem putS_fuse (w : Wave) (r : Nat) (x : Word64) (n : Nat) (h : Bool) : (w.putS r x n h).fuse = w.fuse := by simp [Wave.putS]
@[simp] theorem putS_yielded (w : Wave) (r : Nat) (x : Word64) (n : Nat) (h : Bool) : (w.putS r x n h).yielded = w.yielded := by simp [Wave.putS]
@[simp] theorem putS_inWait (w : Wave) (r : Nat) (x : Word64) (n : Nat) (h : Bool) : (w.putS r x n h).inWait = w.inWait := by simp [Wave.putS]
@[simp] theorem putS_issued (w : Wave) (r : Nat) (x : Word64) (n : Nat) (h : Bool) : (w.putS r x n h).issued = w.issued := by simp [Wave.putS]
@[simp] theorem putS_since (w : Wave) (r : Nat) (x : Word64) (n : Nat) (h : Bool) : (w.putS r x n h).since = w.since := by simp [Wave.putS]

@[simp] theorem putM_id (w : Wave) (r : Nat) (x : Word64) (n : Nat) (h : Bool) : (w.putM r x n h).id = w.id := by simp [Wave.putM]
@[simp] theorem putM_span (w : Wave) (r : Nat) (x : Word64) (n : Nat) (h : Bool) : (w.putM r x n h).span = w.span := by simp [Wave.putM]
@[simp] theorem putM_block (w : Wave) (r : Nat) (x : Word64) (n : Nat) (h : Bool) : (w.putM r x n h).block = w.block := by simp [Wave.putM]
@[simp] theorem putM_index (w : Wave) (r : Nat) (x : Word64) (n : Nat) (h : Bool) : (w.putM r x n h).index = w.index := by simp [Wave.putM]
@[simp] theorem putM_core (w : Wave) (r : Nat) (x : Word64) (n : Nat) (h : Bool) : (w.putM r x n h).core = w.core := by simp [Wave.putM]
@[simp] theorem putM_quad (w : Wave) (r : Nat) (x : Word64) (n : Nat) (h : Bool) : (w.putM r x n h).quad = w.quad := by simp [Wave.putM]
@[simp] theorem putM_place (w : Wave) (r : Nat) (x : Word64) (n : Nat) (h : Bool) : (w.putM r x n h).place = w.place := by simp [Wave.putM]
@[simp] theorem putM_regs (w : Wave) (r : Nat) (x : Word64) (n : Nat) (h : Bool) : (w.putM r x n h).regs = w.regs := by simp [Wave.putM]
@[simp] theorem putM_resident (w : Wave) (r : Nat) (x : Word64) (n : Nat) (h : Bool) : (w.putM r x n h).resident = w.resident := by simp [Wave.putM]
@[simp] theorem putM_full (w : Wave) (r : Nat) (x : Word64) (n : Nat) (h : Bool) : (w.putM r x n h).full = w.full := by simp [Wave.putM]
@[simp] theorem putM_halting (w : Wave) (r : Nat) (x : Word64) (n : Nat) (h : Bool) : (w.putM r x n h).halting = w.halting := by simp [Wave.putM]
@[simp] theorem putM_wait (w : Wave) (r : Nat) (x : Word64) (n : Nat) (h : Bool) : (w.putM r x n h).wait = w.wait := by simp [Wave.putM]
@[simp] theorem putM_pc (w : Wave) (r : Nat) (x : Word64) (n : Nat) (h : Bool) : (w.putM r x n h).pc = w.pc := by simp [Wave.putM]
@[simp] theorem putM_level (w : Wave) (r : Nat) (x : Word64) (n : Nat) (h : Bool) : (w.putM r x n h).level = w.level := by simp [Wave.putM]
@[simp] theorem putM_s (w : Wave) (r : Nat) (x : Word64) (n : Nat) (h : Bool) : (w.putM r x n h).s = w.s := by simp [Wave.putM]
@[simp] theorem putM_v (w : Wave) (r : Nat) (x : Word64) (n : Nat) (h : Bool) : (w.putM r x n h).v = w.v := by simp [Wave.putM]
@[simp] theorem putM_active (w : Wave) (r : Nat) (x : Word64) (n : Nat) (h : Bool) : (w.putM r x n h).active = w.active := by simp [Wave.putM]
@[simp] theorem putM_retired (w : Wave) (r : Nat) (x : Word64) (n : Nat) (h : Bool) : (w.putM r x n h).retired = w.retired := by simp [Wave.putM]
@[simp] theorem putM_stack (w : Wave) (r : Nat) (x : Word64) (n : Nat) (h : Bool) : (w.putM r x n h).stack = w.stack := by simp [Wave.putM]
@[simp] theorem putM_a (w : Wave) (r : Nat) (x : Word64) (n : Nat) (h : Bool) : (w.putM r x n h).a = w.a := by simp [Wave.putM]
@[simp] theorem putM_satf (w : Wave) (r : Nat) (x : Word64) (n : Nat) (h : Bool) : (w.putM r x n h).satf = w.satf := by simp [Wave.putM]
@[simp] theorem putM_satctl (w : Wave) (r : Nat) (x : Word64) (n : Nat) (h : Bool) : (w.putM r x n h).satctl = w.satctl := by simp [Wave.putM]
@[simp] theorem putM_sig (w : Wave) (r : Nat) (x : Word64) (n : Nat) (h : Bool) : (w.putM r x n h).sig = w.sig := by simp [Wave.putM]
@[simp] theorem putM_sigctl (w : Wave) (r : Nat) (x : Word64) (n : Nat) (h : Bool) : (w.putM r x n h).sigctl = w.sigctl := by simp [Wave.putM]
@[simp] theorem putM_sbchk (w : Wave) (r : Nat) (x : Word64) (n : Nat) (h : Bool) : (w.putM r x n h).sbchk = w.sbchk := by simp [Wave.putM]
@[simp] theorem putM_trapvec (w : Wave) (r : Nat) (x : Word64) (n : Nat) (h : Bool) : (w.putM r x n h).trapvec = w.trapvec := by simp [Wave.putM]
@[simp] theorem putM_trapframe (w : Wave) (r : Nat) (x : Word64) (n : Nat) (h : Bool) : (w.putM r x n h).trapframe = w.trapframe := by simp [Wave.putM]
@[simp] theorem putM_xdom (w : Wave) (r : Nat) (x : Word64) (n : Nat) (h : Bool) : (w.putM r x n h).xdom = w.xdom := by simp [Wave.putM]
@[simp] theorem putM_wid (w : Wave) (r : Nat) (x : Word64) (n : Nat) (h : Bool) : (w.putM r x n h).wid = w.wid := by simp [Wave.putM]
@[simp] theorem putM_widfmt (w : Wave) (r : Nat) (x : Word64) (n : Nat) (h : Bool) : (w.putM r x n h).widfmt = w.widfmt := by simp [Wave.putM]
@[simp] theorem putM_run (w : Wave) (r : Nat) (x : Word64) (n : Nat) (h : Bool) : (w.putM r x n h).run = w.run := by simp [Wave.putM]
@[simp] theorem putM_now (w : Wave) (r : Nat) (x : Word64) (n : Nat) (h : Bool) : (w.putM r x n h).now = w.now := by simp [Wave.putM]
@[simp] theorem putM_readyAt (w : Wave) (r : Nat) (x : Word64) (n : Nat) (h : Bool) : (w.putM r x n h).readyAt = w.readyAt := by simp [Wave.putM]
@[simp] theorem putM_performed (w : Wave) (r : Nat) (x : Word64) (n : Nat) (h : Bool) : (w.putM r x n h).performed = w.performed := by simp [Wave.putM]
@[simp] theorem putM_service (w : Wave) (r : Nat) (x : Word64) (n : Nat) (h : Bool) : (w.putM r x n h).service = w.service := by simp [Wave.putM]
@[simp] theorem putM_trap (w : Wave) (r : Nat) (x : Word64) (n : Nat) (h : Bool) : (w.putM r x n h).trap = w.trap := by simp [Wave.putM]
@[simp] theorem putM_refused (w : Wave) (r : Nat) (x : Word64) (n : Nat) (h : Bool) : (w.putM r x n h).refused = w.refused := by simp [Wave.putM]
@[simp] theorem putM_ratoms (w : Wave) (r : Nat) (x : Word64) (n : Nat) (h : Bool) : (w.putM r x n h).ratoms = w.ratoms := by simp [Wave.putM]
@[simp] theorem putM_tokens (w : Wave) (r : Nat) (x : Word64) (n : Nat) (h : Bool) : (w.putM r x n h).tokens = w.tokens := by simp [Wave.putM]
@[simp] theorem putM_poisonV (w : Wave) (r : Nat) (x : Word64) (n : Nat) (h : Bool) : (w.putM r x n h).poisonV = w.poisonV := by simp [Wave.putM]
@[simp] theorem putM_poisonS (w : Wave) (r : Nat) (x : Word64) (n : Nat) (h : Bool) : (w.putM r x n h).poisonS = w.poisonS := by simp [Wave.putM]
@[simp] theorem putM_poisonA (w : Wave) (r : Nat) (x : Word64) (n : Nat) (h : Bool) : (w.putM r x n h).poisonA = w.poisonA := by simp [Wave.putM]
@[simp] theorem putM_poisonC (w : Wave) (r : Nat) (x : Word64) (n : Nat) (h : Bool) : (w.putM r x n h).poisonC = w.poisonC := by simp [Wave.putM]
@[simp] theorem putM_fuse (w : Wave) (r : Nat) (x : Word64) (n : Nat) (h : Bool) : (w.putM r x n h).fuse = w.fuse := by simp [Wave.putM]
@[simp] theorem putM_yielded (w : Wave) (r : Nat) (x : Word64) (n : Nat) (h : Bool) : (w.putM r x n h).yielded = w.yielded := by simp [Wave.putM]
@[simp] theorem putM_inWait (w : Wave) (r : Nat) (x : Word64) (n : Nat) (h : Bool) : (w.putM r x n h).inWait = w.inWait := by simp [Wave.putM]
@[simp] theorem putM_issued (w : Wave) (r : Nat) (x : Word64) (n : Nat) (h : Bool) : (w.putM r x n h).issued = w.issued := by simp [Wave.putM]
@[simp] theorem putM_since (w : Wave) (r : Nat) (x : Word64) (n : Nat) (h : Bool) : (w.putM r x n h).since = w.since := by simp [Wave.putM]

@[simp] theorem putV_id (w : Wave) (r : Nat) (k : Word64) (f : Nat → Word32) (n : Nat) (h : Bool) : (w.putV r k f n h).id = w.id := by unfold Wave.putV; split <;> simp
@[simp] theorem putV_span (w : Wave) (r : Nat) (k : Word64) (f : Nat → Word32) (n : Nat) (h : Bool) : (w.putV r k f n h).span = w.span := by unfold Wave.putV; split <;> simp
@[simp] theorem putV_block (w : Wave) (r : Nat) (k : Word64) (f : Nat → Word32) (n : Nat) (h : Bool) : (w.putV r k f n h).block = w.block := by unfold Wave.putV; split <;> simp
@[simp] theorem putV_index (w : Wave) (r : Nat) (k : Word64) (f : Nat → Word32) (n : Nat) (h : Bool) : (w.putV r k f n h).index = w.index := by unfold Wave.putV; split <;> simp
@[simp] theorem putV_core (w : Wave) (r : Nat) (k : Word64) (f : Nat → Word32) (n : Nat) (h : Bool) : (w.putV r k f n h).core = w.core := by unfold Wave.putV; split <;> simp
@[simp] theorem putV_quad (w : Wave) (r : Nat) (k : Word64) (f : Nat → Word32) (n : Nat) (h : Bool) : (w.putV r k f n h).quad = w.quad := by unfold Wave.putV; split <;> simp
@[simp] theorem putV_place (w : Wave) (r : Nat) (k : Word64) (f : Nat → Word32) (n : Nat) (h : Bool) : (w.putV r k f n h).place = w.place := by unfold Wave.putV; split <;> simp
@[simp] theorem putV_regs (w : Wave) (r : Nat) (k : Word64) (f : Nat → Word32) (n : Nat) (h : Bool) : (w.putV r k f n h).regs = w.regs := by unfold Wave.putV; split <;> simp
@[simp] theorem putV_resident (w : Wave) (r : Nat) (k : Word64) (f : Nat → Word32) (n : Nat) (h : Bool) : (w.putV r k f n h).resident = w.resident := by unfold Wave.putV; split <;> simp
@[simp] theorem putV_full (w : Wave) (r : Nat) (k : Word64) (f : Nat → Word32) (n : Nat) (h : Bool) : (w.putV r k f n h).full = w.full := by unfold Wave.putV; split <;> simp
@[simp] theorem putV_halting (w : Wave) (r : Nat) (k : Word64) (f : Nat → Word32) (n : Nat) (h : Bool) : (w.putV r k f n h).halting = w.halting := by unfold Wave.putV; split <;> simp
@[simp] theorem putV_wait (w : Wave) (r : Nat) (k : Word64) (f : Nat → Word32) (n : Nat) (h : Bool) : (w.putV r k f n h).wait = w.wait := by unfold Wave.putV; split <;> simp
@[simp] theorem putV_pc (w : Wave) (r : Nat) (k : Word64) (f : Nat → Word32) (n : Nat) (h : Bool) : (w.putV r k f n h).pc = w.pc := by unfold Wave.putV; split <;> simp
@[simp] theorem putV_level (w : Wave) (r : Nat) (k : Word64) (f : Nat → Word32) (n : Nat) (h : Bool) : (w.putV r k f n h).level = w.level := by unfold Wave.putV; split <;> simp
@[simp] theorem putV_s (w : Wave) (r : Nat) (k : Word64) (f : Nat → Word32) (n : Nat) (h : Bool) : (w.putV r k f n h).s = w.s := by unfold Wave.putV; split <;> simp
@[simp] theorem putV_m (w : Wave) (r : Nat) (k : Word64) (f : Nat → Word32) (n : Nat) (h : Bool) : (w.putV r k f n h).m = w.m := by unfold Wave.putV; split <;> simp
@[simp] theorem putV_active (w : Wave) (r : Nat) (k : Word64) (f : Nat → Word32) (n : Nat) (h : Bool) : (w.putV r k f n h).active = w.active := by unfold Wave.putV; split <;> simp
@[simp] theorem putV_retired (w : Wave) (r : Nat) (k : Word64) (f : Nat → Word32) (n : Nat) (h : Bool) : (w.putV r k f n h).retired = w.retired := by unfold Wave.putV; split <;> simp
@[simp] theorem putV_stack (w : Wave) (r : Nat) (k : Word64) (f : Nat → Word32) (n : Nat) (h : Bool) : (w.putV r k f n h).stack = w.stack := by unfold Wave.putV; split <;> simp
@[simp] theorem putV_a (w : Wave) (r : Nat) (k : Word64) (f : Nat → Word32) (n : Nat) (h : Bool) : (w.putV r k f n h).a = w.a := by unfold Wave.putV; split <;> simp
@[simp] theorem putV_satf (w : Wave) (r : Nat) (k : Word64) (f : Nat → Word32) (n : Nat) (h : Bool) : (w.putV r k f n h).satf = w.satf := by unfold Wave.putV; split <;> simp
@[simp] theorem putV_satctl (w : Wave) (r : Nat) (k : Word64) (f : Nat → Word32) (n : Nat) (h : Bool) : (w.putV r k f n h).satctl = w.satctl := by unfold Wave.putV; split <;> simp
@[simp] theorem putV_sig (w : Wave) (r : Nat) (k : Word64) (f : Nat → Word32) (n : Nat) (h : Bool) : (w.putV r k f n h).sig = w.sig := by unfold Wave.putV; split <;> simp
@[simp] theorem putV_sigctl (w : Wave) (r : Nat) (k : Word64) (f : Nat → Word32) (n : Nat) (h : Bool) : (w.putV r k f n h).sigctl = w.sigctl := by unfold Wave.putV; split <;> simp
@[simp] theorem putV_sbchk (w : Wave) (r : Nat) (k : Word64) (f : Nat → Word32) (n : Nat) (h : Bool) : (w.putV r k f n h).sbchk = w.sbchk := by unfold Wave.putV; split <;> simp
@[simp] theorem putV_trapvec (w : Wave) (r : Nat) (k : Word64) (f : Nat → Word32) (n : Nat) (h : Bool) : (w.putV r k f n h).trapvec = w.trapvec := by unfold Wave.putV; split <;> simp
@[simp] theorem putV_trapframe (w : Wave) (r : Nat) (k : Word64) (f : Nat → Word32) (n : Nat) (h : Bool) : (w.putV r k f n h).trapframe = w.trapframe := by unfold Wave.putV; split <;> simp
@[simp] theorem putV_xdom (w : Wave) (r : Nat) (k : Word64) (f : Nat → Word32) (n : Nat) (h : Bool) : (w.putV r k f n h).xdom = w.xdom := by unfold Wave.putV; split <;> simp
@[simp] theorem putV_wid (w : Wave) (r : Nat) (k : Word64) (f : Nat → Word32) (n : Nat) (h : Bool) : (w.putV r k f n h).wid = w.wid := by unfold Wave.putV; split <;> simp
@[simp] theorem putV_widfmt (w : Wave) (r : Nat) (k : Word64) (f : Nat → Word32) (n : Nat) (h : Bool) : (w.putV r k f n h).widfmt = w.widfmt := by unfold Wave.putV; split <;> simp
@[simp] theorem putV_run (w : Wave) (r : Nat) (k : Word64) (f : Nat → Word32) (n : Nat) (h : Bool) : (w.putV r k f n h).run = w.run := by unfold Wave.putV; split <;> simp
@[simp] theorem putV_now (w : Wave) (r : Nat) (k : Word64) (f : Nat → Word32) (n : Nat) (h : Bool) : (w.putV r k f n h).now = w.now := by unfold Wave.putV; split <;> simp
@[simp] theorem putV_readyAt (w : Wave) (r : Nat) (k : Word64) (f : Nat → Word32) (n : Nat) (h : Bool) : (w.putV r k f n h).readyAt = w.readyAt := by unfold Wave.putV; split <;> simp
@[simp] theorem putV_performed (w : Wave) (r : Nat) (k : Word64) (f : Nat → Word32) (n : Nat) (h : Bool) : (w.putV r k f n h).performed = w.performed := by unfold Wave.putV; split <;> simp
@[simp] theorem putV_service (w : Wave) (r : Nat) (k : Word64) (f : Nat → Word32) (n : Nat) (h : Bool) : (w.putV r k f n h).service = w.service := by unfold Wave.putV; split <;> simp
@[simp] theorem putV_trap (w : Wave) (r : Nat) (k : Word64) (f : Nat → Word32) (n : Nat) (h : Bool) : (w.putV r k f n h).trap = w.trap := by unfold Wave.putV; split <;> simp
@[simp] theorem putV_refused (w : Wave) (r : Nat) (k : Word64) (f : Nat → Word32) (n : Nat) (h : Bool) : (w.putV r k f n h).refused = w.refused := by unfold Wave.putV; split <;> simp
@[simp] theorem putV_ratoms (w : Wave) (r : Nat) (k : Word64) (f : Nat → Word32) (n : Nat) (h : Bool) : (w.putV r k f n h).ratoms = w.ratoms := by unfold Wave.putV; split <;> simp
@[simp] theorem putV_tokens (w : Wave) (r : Nat) (k : Word64) (f : Nat → Word32) (n : Nat) (h : Bool) : (w.putV r k f n h).tokens = w.tokens := by unfold Wave.putV; split <;> simp
@[simp] theorem putV_poisonS (w : Wave) (r : Nat) (k : Word64) (f : Nat → Word32) (n : Nat) (h : Bool) : (w.putV r k f n h).poisonS = w.poisonS := by unfold Wave.putV; split <;> simp
@[simp] theorem putV_poisonM (w : Wave) (r : Nat) (k : Word64) (f : Nat → Word32) (n : Nat) (h : Bool) : (w.putV r k f n h).poisonM = w.poisonM := by unfold Wave.putV; split <;> simp
@[simp] theorem putV_poisonA (w : Wave) (r : Nat) (k : Word64) (f : Nat → Word32) (n : Nat) (h : Bool) : (w.putV r k f n h).poisonA = w.poisonA := by unfold Wave.putV; split <;> simp
@[simp] theorem putV_poisonC (w : Wave) (r : Nat) (k : Word64) (f : Nat → Word32) (n : Nat) (h : Bool) : (w.putV r k f n h).poisonC = w.poisonC := by unfold Wave.putV; split <;> simp
@[simp] theorem putV_fuse (w : Wave) (r : Nat) (k : Word64) (f : Nat → Word32) (n : Nat) (h : Bool) : (w.putV r k f n h).fuse = w.fuse := by unfold Wave.putV; split <;> simp
@[simp] theorem putV_yielded (w : Wave) (r : Nat) (k : Word64) (f : Nat → Word32) (n : Nat) (h : Bool) : (w.putV r k f n h).yielded = w.yielded := by unfold Wave.putV; split <;> simp
@[simp] theorem putV_inWait (w : Wave) (r : Nat) (k : Word64) (f : Nat → Word32) (n : Nat) (h : Bool) : (w.putV r k f n h).inWait = w.inWait := by unfold Wave.putV; split <;> simp
@[simp] theorem putV_issued (w : Wave) (r : Nat) (k : Word64) (f : Nat → Word32) (n : Nat) (h : Bool) : (w.putV r k f n h).issued = w.issued := by unfold Wave.putV; split <;> simp
@[simp] theorem putV_since (w : Wave) (r : Nat) (k : Word64) (f : Nat → Word32) (n : Nat) (h : Bool) : (w.putV r k f n h).since = w.since := by unfold Wave.putV; split <;> simp

/-! ### Wave.orFlags -/

@[simp] theorem orFlags_id (f : Word64) (w : Wave) : (w.orFlags f).id = w.id := rfl
@[simp] theorem orFlags_span (f : Word64) (w : Wave) : (w.orFlags f).span = w.span := rfl
@[simp] theorem orFlags_block (f : Word64) (w : Wave) : (w.orFlags f).block = w.block := rfl
@[simp] theorem orFlags_index (f : Word64) (w : Wave) : (w.orFlags f).index = w.index := rfl
@[simp] theorem orFlags_core (f : Word64) (w : Wave) : (w.orFlags f).core = w.core := rfl
@[simp] theorem orFlags_quad (f : Word64) (w : Wave) : (w.orFlags f).quad = w.quad := rfl
@[simp] theorem orFlags_place (f : Word64) (w : Wave) : (w.orFlags f).place = w.place := rfl
@[simp] theorem orFlags_regs (f : Word64) (w : Wave) : (w.orFlags f).regs = w.regs := rfl
@[simp] theorem orFlags_resident (f : Word64) (w : Wave) : (w.orFlags f).resident = w.resident := rfl
@[simp] theorem orFlags_full (f : Word64) (w : Wave) : (w.orFlags f).full = w.full := rfl
@[simp] theorem orFlags_halting (f : Word64) (w : Wave) : (w.orFlags f).halting = w.halting := rfl
@[simp] theorem orFlags_wait (f : Word64) (w : Wave) : (w.orFlags f).wait = w.wait := rfl
@[simp] theorem orFlags_pc (f : Word64) (w : Wave) : (w.orFlags f).pc = w.pc := rfl
@[simp] theorem orFlags_level (f : Word64) (w : Wave) : (w.orFlags f).level = w.level := rfl
@[simp] theorem orFlags_s (f : Word64) (w : Wave) : (w.orFlags f).s = w.s := rfl
@[simp] theorem orFlags_v (f : Word64) (w : Wave) : (w.orFlags f).v = w.v := rfl
@[simp] theorem orFlags_m (f : Word64) (w : Wave) : (w.orFlags f).m = w.m := rfl
@[simp] theorem orFlags_active (f : Word64) (w : Wave) : (w.orFlags f).active = w.active := rfl
@[simp] theorem orFlags_retired (f : Word64) (w : Wave) : (w.orFlags f).retired = w.retired := rfl
@[simp] theorem orFlags_stack (f : Word64) (w : Wave) : (w.orFlags f).stack = w.stack := rfl
@[simp] theorem orFlags_a (f : Word64) (w : Wave) : (w.orFlags f).a = w.a := rfl
@[simp] theorem orFlags_sig (f : Word64) (w : Wave) : (w.orFlags f).sig = w.sig := rfl
@[simp] theorem orFlags_sigctl (f : Word64) (w : Wave) : (w.orFlags f).sigctl = w.sigctl := rfl
@[simp] theorem orFlags_sbchk (f : Word64) (w : Wave) : (w.orFlags f).sbchk = w.sbchk := rfl
@[simp] theorem orFlags_trapvec (f : Word64) (w : Wave) : (w.orFlags f).trapvec = w.trapvec := rfl
@[simp] theorem orFlags_trapframe (f : Word64) (w : Wave) : (w.orFlags f).trapframe = w.trapframe := rfl
@[simp] theorem orFlags_xdom (f : Word64) (w : Wave) : (w.orFlags f).xdom = w.xdom := rfl
@[simp] theorem orFlags_wid (f : Word64) (w : Wave) : (w.orFlags f).wid = w.wid := rfl
@[simp] theorem orFlags_widfmt (f : Word64) (w : Wave) : (w.orFlags f).widfmt = w.widfmt := rfl
@[simp] theorem orFlags_run (f : Word64) (w : Wave) : (w.orFlags f).run = w.run := rfl
@[simp] theorem orFlags_pend (f : Word64) (w : Wave) : (w.orFlags f).pend = w.pend := rfl
@[simp] theorem orFlags_now (f : Word64) (w : Wave) : (w.orFlags f).now = w.now := rfl
@[simp] theorem orFlags_readyAt (f : Word64) (w : Wave) : (w.orFlags f).readyAt = w.readyAt := rfl
@[simp] theorem orFlags_performed (f : Word64) (w : Wave) : (w.orFlags f).performed = w.performed := rfl
@[simp] theorem orFlags_service (f : Word64) (w : Wave) : (w.orFlags f).service = w.service := rfl
@[simp] theorem orFlags_trap (f : Word64) (w : Wave) : (w.orFlags f).trap = w.trap := rfl
@[simp] theorem orFlags_refused (f : Word64) (w : Wave) : (w.orFlags f).refused = w.refused := rfl
@[simp] theorem orFlags_ratoms (f : Word64) (w : Wave) : (w.orFlags f).ratoms = w.ratoms := rfl
@[simp] theorem orFlags_tokens (f : Word64) (w : Wave) : (w.orFlags f).tokens = w.tokens := rfl
@[simp] theorem orFlags_poisonV (f : Word64) (w : Wave) : (w.orFlags f).poisonV = w.poisonV := rfl
@[simp] theorem orFlags_poisonS (f : Word64) (w : Wave) : (w.orFlags f).poisonS = w.poisonS := rfl
@[simp] theorem orFlags_poisonM (f : Word64) (w : Wave) : (w.orFlags f).poisonM = w.poisonM := rfl
@[simp] theorem orFlags_poisonA (f : Word64) (w : Wave) : (w.orFlags f).poisonA = w.poisonA := rfl
@[simp] theorem orFlags_poisonC (f : Word64) (w : Wave) : (w.orFlags f).poisonC = w.poisonC := rfl
@[simp] theorem orFlags_fuse (f : Word64) (w : Wave) : (w.orFlags f).fuse = w.fuse := rfl
@[simp] theorem orFlags_yielded (f : Word64) (w : Wave) : (w.orFlags f).yielded = w.yielded := rfl
@[simp] theorem orFlags_inWait (f : Word64) (w : Wave) : (w.orFlags f).inWait = w.inWait := rfl
@[simp] theorem orFlags_issued (f : Word64) (w : Wave) : (w.orFlags f).issued = w.issued := rfl
@[simp] theorem orFlags_since (f : Word64) (w : Wave) : (w.orFlags f).since = w.since := rfl

end Sys2Proof.Machine
end

