-- ==== Sys2Proof/Laws/Store.lean ====
section
/-!
SUPPORT. What the operations on sparse arrays and finite maps do: read after write, and that every write keeps the
canonical form.
-/

namespace Sys2Proof.Machine

open Sys2Proof

/-! ### Reading a sparse array after a write -/

theorem sget_serase {w : Nat} (m : Sparse w) (i j : Nat) : sget (serase m i) j = if j = i then 0 else sget m j := by
  induction m with
  | nil => simp [serase, sget]
  | cons e rest ih =>
    obtain ⟨k, x⟩ := e
    simp only [serase, List.filter_cons, bne_iff_ne, sget] at ih ⊢
    by_cases hk : k = i
    · subst hk
      simp only [ne_eq, not_true_eq_false, ↓reduceIte, ih]
      split_ifs <;> simp_all
    · simp only [ne_eq, hk, not_false_eq_true, ↓reduceIte, sget, ih]
      split_ifs <;> simp_all

theorem sget_sput {w : Nat} (m : Sparse w) (i j : Nat) (x : BitVec w) :
    sget (sput m i x) j = if j = i then x else sget m j := by
  induction m with
  | nil => simp only [sput, sget]; split_ifs <;> simp_all
  | cons e rest ih =>
    obtain ⟨k, y⟩ := e
    simp only [sput]
    split_ifs <;> grind [sget]

/-- Read after write: the value written, and every other entry as before. -/
@[simp] theorem sget_sset {w : Nat} (m : Sparse w) (i j : Nat) (x : BitVec w) :
    sget (sset m i x) j = if j = i then x else sget m j := by
  unfold sset
  split
  · simp_all [sget_serase]
  · exact sget_sput m i j x

theorem sget_ssetFrom {w : Nat} (xs : List (BitVec w)) : ∀ (m : Sparse w) (base j : Nat),
    sget (ssetFrom m base xs) j = if base ≤ j ∧ j < base + xs.length then xs.getD (j - base) 0 else sget m j := by
  induction xs with
  | nil => intro m base j; simp only [ssetFrom, List.length_nil]; rw [if_neg (by omega)]
  | cons x xs ih =>
    intro m base j
    simp only [ssetFrom, ih, List.length_cons, sget_sset]
    rcases Nat.lt_trichotomy j base with h | h | h
    · rw [if_neg (by omega), if_neg (by omega), if_neg (by omega)]
    · subst h; simp
    · by_cases hj : j < base + (xs.length + 1)
      · rw [if_pos (by omega), if_pos (by omega)]
        obtain ⟨n, hn⟩ : ∃ n, j - base = n + 1 := ⟨j - base - 1, by omega⟩
        simp [hn, show j - (base + 1) = n by omega]
      · rw [if_neg (by omega), if_neg (by omega), if_neg (by omega)]

theorem sget_ssetAll {w : Nat} (f : Nat → BitVec w) (is : List Nat) : ∀ (m : Sparse w) (j : Nat),
    sget (ssetAll m f is) j = if j ∈ is then f j else sget m j := by
  induction is with
  | nil => intro m j; simp [ssetAll]
  | cons i is ih =>
    intro m j
    simp only [ssetAll, ih, sget_sset, List.mem_cons]
    split_ifs <;> simp_all

/-! ### The canonical form (log 5 says what an unlisted byte reads as) -/

theorem sparseWfFrom_mono {w : Nat} (m : Sparse w) {lo lo' : Nat} (h : lo' ≤ lo) (hm : sparseWfFrom lo m = true) :
    sparseWfFrom lo' m = true := by
  cases m with
  | nil => rfl
  | cons e rest => simp only [sparseWfFrom, Bool.and_eq_true, decide_eq_true_eq] at hm ⊢; exact ⟨⟨by omega, hm.1.2⟩, hm.2⟩

theorem sparseWfFrom_filter {w : Nat} (p : Nat × BitVec w → Bool) (m : Sparse w) : ∀ lo,
    sparseWfFrom lo m = true → sparseWfFrom lo (m.filter p) = true := by
  induction m with
  | nil => intros; rfl
  | cons e rest ih =>
    intro lo h
    obtain ⟨k, x⟩ := e
    simp only [sparseWfFrom, Bool.and_eq_true, decide_eq_true_eq] at h
    simp only [List.filter_cons]
    split
    · simp only [sparseWfFrom, Bool.and_eq_true, decide_eq_true_eq]; exact ⟨h.1, ih _ h.2⟩
    · exact sparseWfFrom_mono _ (by omega) (ih _ h.2)

theorem sparseWfFrom_sput {w : Nat} (i : Nat) (x : BitVec w) (hx : x ≠ 0) (m : Sparse w) : ∀ lo, lo ≤ i →
    sparseWfFrom lo m = true → sparseWfFrom lo (sput m i x) = true := by
  induction m with
  | nil => intro lo hl _; simpa [sput, sparseWfFrom, hl] using hx
  | cons e rest ih =>
    intro lo hl h
    obtain ⟨k, y⟩ := e
    simp only [sparseWfFrom, Bool.and_eq_true, decide_eq_true_eq] at h
    simp only [sput]
    split_ifs with h1 h2
    · simp only [sparseWfFrom, Bool.and_eq_true, decide_eq_true_eq]
      exact ⟨⟨hl, by simpa using hx⟩, ⟨by omega, h.1.2⟩, h.2⟩
    · subst h2
      simp only [sparseWfFrom, Bool.and_eq_true, decide_eq_true_eq]
      exact ⟨⟨hl, by simpa using hx⟩, h.2⟩
    · simp only [sparseWfFrom, Bool.and_eq_true, decide_eq_true_eq]
      exact ⟨h.1, ih _ (by omega) h.2⟩

/-- A write keeps the canonical form. -/
theorem sparseWf_sset {w : Nat} (m : Sparse w) (i : Nat) (x : BitVec w) (h : sparseWfFrom 0 m = true) :
    sparseWfFrom 0 (sset m i x) = true := by
  unfold sset
  split
  · exact sparseWfFrom_filter _ m 0 h
  · exact sparseWfFrom_sput i x ‹_› m 0 (Nat.zero_le _) h

theorem sparseWf_ssetFrom {w : Nat} (xs : List (BitVec w)) : ∀ (m : Sparse w) (base : Nat),
    sparseWfFrom 0 m = true → sparseWfFrom 0 (ssetFrom m base xs) = true := by
  induction xs with
  | nil => intro m base h; exact h
  | cons x xs ih => intro m base h; exact ih _ _ (sparseWf_sset m base x h)

theorem sparseWf_ssetAll {w : Nat} (f : Nat → BitVec w) (is : List Nat) : ∀ (m : Sparse w),
    sparseWfFrom 0 m = true → sparseWfFrom 0 (ssetAll m f is) = true := by
  induction is with
  | nil => intro m h; exact h
  | cons i is ih => intro m h; exact ih _ (sparseWf_sset m i (f i) h)

theorem sparseWf_sclear {w : Nat} (m : Sparse w) (lo hi : Nat) (h : sparseWfFrom 0 m = true) :
    sparseWfFrom 0 (sclear m lo hi) = true := sparseWfFrom_filter _ m 0 h

/-! ### Finite maps -/

@[simp] theorem tget_tset {α : Type} (m : Tab α) (i j : Nat) (x : α) :
    tget (tset m i x) j = if j = i then some x else tget m j := by
  induction m with
  | nil => simp only [tset, tget]; split_ifs <;> simp_all
  | cons e rest ih =>
    obtain ⟨k, y⟩ := e
    simp only [tset]
    split_ifs <;> grind [tget]

theorem tgetD_tset {α : Type} (m : Tab α) (i j : Nat) (x d : α) :
    tgetD (tset m i x) j d = if j = i then x else tgetD m j d := by
  unfold tgetD; rw [tget_tset]; split <;> rfl

theorem tget_terase {α : Type} (m : Tab α) (i j : Nat) : tget (terase m i) j = if j = i then none else tget m j := by
  induction m with
  | nil => simp [terase, tget]
  | cons e rest ih =>
    obtain ⟨k, x⟩ := e
    simp only [terase, List.filter_cons, bne_iff_ne, tget] at ih ⊢
    by_cases hk : k = i
    · subst hk
      simp only [ne_eq, not_true_eq_false, ↓reduceIte, ih]
      split_ifs <;> simp_all
    · simp only [ne_eq, hk, not_false_eq_true, ↓reduceIte, tget, ih]
      split_ifs <;> simp_all

theorem tget_tmod {α : Type} (m : Tab α) (i j : Nat) (f : α → α) :
    tget (tmod m i f) j = if j = i then (tget m i).map f else tget m j := by
  unfold tmod
  split
  · simp only [tget_tset]; split_ifs <;> simp_all
  · split_ifs <;> simp_all

theorem mem_lanesOf (mask : Word64) (l : Nat) : l ∈ lanesOf mask ↔ l < 64 ∧ mask.getLsbD l = true := by
  simp [lanesOf, laneCount]

end Sys2Proof.Machine
end

