-- ==== Sys2Proof/Laws/Ops.lean ====
section
/-!
SUPPORT. What the shared operations do: passing the gate, completing, and writing a result.
-/

namespace Sys2Proof.Machine

open Sys2Proof

/-! ### The gate -/

/-- An instruction that acts does what its meaning says (R107). -/
theorem gate_acts {i : Instr} {s : State} (h : acts i s = true) (f : State → Result) : gate i s f = f s := by
  simp only [acts, Bool.and_eq_true, Bool.not_eq_true'] at h
  obtain ⟨⟨h1, h2⟩, h3⟩ := h
  simp only [gate, h1, h2, Bool.false_eq_true, ↓reduceIte]
  split
  · rfl
  · rename_i he
    simp only [he, Bool.false_or, Bool.and_eq_true, Option.isNone_iff_eq_none] at h3
    simp only [h3.1, h3.2]

/-- Of an instruction that acts: it is well formed, and its registers are within the register count. -/
theorem acts_legal {i : Instr} {s : State} (h : acts i s = true) : illegal i s.wave = false := by
  simp only [acts, Bool.and_eq_true, Bool.not_eq_true'] at h
  exact h.1.1

/-- An instruction that finds a source short of its result raises STALL_SHORT, where nothing that R108 ranks first stops it (R74,
R108). -/
theorem gate_short {i : Instr} {s : State} {r : RegId} (f : State → Result) (h1 : illegal i s.wave = false)
    (h2 : s.wave.holdsBack i = false) (h3 : early i s = false) (h4 : s.wave.stallShort i = some r) :
    gate i s f = raise (trapOf i 0x04 0 0 [r.designator]) s := by
  simp only [gate, h1, h2, h3, h4, Bool.false_eq_true, ↓reduceIte]

/-! ### Completing -/

/-- The end of a fused sequence changes the scoreboard and the sequence alone. -/
theorem foldl_note_eq (f : Nat → RegId) (n : Nat) (h : Bool) (rs : List Nat) : ∀ w : Wave,
    rs.foldl (fun w r => w.note (f r) (w.elements r) n h) w
      = { w with pend := (rs.foldl (fun w r => w.note (f r) (w.elements r) n h) w).pend } := by
  induction rs with
  | nil => intro w; rfl
  | cons r rs ih =>
    intro w
    rw [List.foldl_cons, ih]
    rw [note_eq]

theorem fusedResults_eq (w : Wave) (i : Instr) (f : FusePoint) (P : Nat) :
    w.fusedResults i f P = { w with pend := (w.fusedResults i f P).pend, fuse := none } := by
  simp only [Wave.fusedResults]
  rw [foldl_note_eq]

theorem countFused_eq (w : Wave) (i : Instr) (P : Nat) :
    w.countFused i P = { w with pend := (w.countFused i P).pend, fuse := (w.countFused i P).fuse } := by
  unfold Wave.countFused
  split
  · rfl
  · split
    · rw [fusedResults_eq]
    · rfl

@[simp] theorem retire_wave_id (i : Instr) (n : Nat) (t : Option Word64) (b : Wave) (s : State) :
    (retire i n t b s).wave.id = s.wave.id := by simp only [retire]; rw [countFused_eq]
@[simp] theorem retire_wave_span (i : Instr) (n : Nat) (t : Option Word64) (b : Wave) (s : State) :
    (retire i n t b s).wave.span = s.wave.span := by simp only [retire]; rw [countFused_eq]
@[simp] theorem retire_wave_block (i : Instr) (n : Nat) (t : Option Word64) (b : Wave) (s : State) :
    (retire i n t b s).wave.block = s.wave.block := by simp only [retire]; rw [countFused_eq]
@[simp] theorem retire_wave_index (i : Instr) (n : Nat) (t : Option Word64) (b : Wave) (s : State) :
    (retire i n t b s).wave.index = s.wave.index := by simp only [retire]; rw [countFused_eq]
@[simp] theorem retire_wave_core (i : Instr) (n : Nat) (t : Option Word64) (b : Wave) (s : State) :
    (retire i n t b s).wave.core = s.wave.core := by simp only [retire]; rw [countFused_eq]
@[simp] theorem retire_wave_quad (i : Instr) (n : Nat) (t : Option Word64) (b : Wave) (s : State) :
    (retire i n t b s).wave.quad = s.wave.quad := by simp only [retire]; rw [countFused_eq]
@[simp] theorem retire_wave_place (i : Instr) (n : Nat) (t : Option Word64) (b : Wave) (s : State) :
    (retire i n t b s).wave.place = s.wave.place := by simp only [retire]; rw [countFused_eq]
@[simp] theorem retire_wave_regs (i : Instr) (n : Nat) (t : Option Word64) (b : Wave) (s : State) :
    (retire i n t b s).wave.regs = s.wave.regs := by simp only [retire]; rw [countFused_eq]
@[simp] theorem retire_wave_resident (i : Instr) (n : Nat) (t : Option Word64) (b : Wave) (s : State) :
    (retire i n t b s).wave.resident = s.wave.resident := by simp only [retire]; rw [countFused_eq]
@[simp] theorem retire_wave_full (i : Instr) (n : Nat) (t : Option Word64) (b : Wave) (s : State) :
    (retire i n t b s).wave.full = s.wave.full := by simp only [retire]; rw [countFused_eq]
@[simp] theorem retire_wave_halting (i : Instr) (n : Nat) (t : Option Word64) (b : Wave) (s : State) :
    (retire i n t b s).wave.halting = s.wave.halting := by simp only [retire]; rw [countFused_eq]
@[simp] theorem retire_wave_wait (i : Instr) (n : Nat) (t : Option Word64) (b : Wave) (s : State) :
    (retire i n t b s).wave.wait = s.wave.wait := by simp only [retire]; rw [countFused_eq]
@[simp] theorem retire_wave_level (i : Instr) (n : Nat) (t : Option Word64) (b : Wave) (s : State) :
    (retire i n t b s).wave.level = s.wave.level := by simp only [retire]; rw [countFused_eq]
@[simp] theorem retire_wave_s (i : Instr) (n : Nat) (t : Option Word64) (b : Wave) (s : State) :
    (retire i n t b s).wave.s = s.wave.s := by simp only [retire]; rw [countFused_eq]
@[simp] theorem retire_wave_v (i : Instr) (n : Nat) (t : Option Word64) (b : Wave) (s : State) :
    (retire i n t b s).wave.v = s.wave.v := by simp only [retire]; rw [countFused_eq]
@[simp] theorem retire_wave_m (i : Instr) (n : Nat) (t : Option Word64) (b : Wave) (s : State) :
    (retire i n t b s).wave.m = s.wave.m := by simp only [retire]; rw [countFused_eq]
@[simp] theorem retire_wave_active (i : Instr) (n : Nat) (t : Option Word64) (b : Wave) (s : State) :
    (retire i n t b s).wave.active = s.wave.active := by simp only [retire]; rw [countFused_eq]
@[simp] theorem retire_wave_retired (i : Instr) (n : Nat) (t : Option Word64) (b : Wave) (s : State) :
    (retire i n t b s).wave.retired = s.wave.retired := by simp only [retire]; rw [countFused_eq]
@[simp] theorem retire_wave_stack (i : Instr) (n : Nat) (t : Option Word64) (b : Wave) (s : State) :
    (retire i n t b s).wave.stack = s.wave.stack := by simp only [retire]; rw [countFused_eq]
@[simp] theorem retire_wave_a (i : Instr) (n : Nat) (t : Option Word64) (b : Wave) (s : State) :
    (retire i n t b s).wave.a = s.wave.a := by simp only [retire]; rw [countFused_eq]
@[simp] theorem retire_wave_satf (i : Instr) (n : Nat) (t : Option Word64) (b : Wave) (s : State) :
    (retire i n t b s).wave.satf = s.wave.satf := by simp only [retire]; rw [countFused_eq]
@[simp] theorem retire_wave_satctl (i : Instr) (n : Nat) (t : Option Word64) (b : Wave) (s : State) :
    (retire i n t b s).wave.satctl = s.wave.satctl := by simp only [retire]; rw [countFused_eq]
@[simp] theorem retire_wave_sigctl (i : Instr) (n : Nat) (t : Option Word64) (b : Wave) (s : State) :
    (retire i n t b s).wave.sigctl = s.wave.sigctl := by simp only [retire]; rw [countFused_eq]
@[simp] theorem retire_wave_sbchk (i : Instr) (n : Nat) (t : Option Word64) (b : Wave) (s : State) :
    (retire i n t b s).wave.sbchk = s.wave.sbchk := by simp only [retire]; rw [countFused_eq]
@[simp] theorem retire_wave_trapvec (i : Instr) (n : Nat) (t : Option Word64) (b : Wave) (s : State) :
    (retire i n t b s).wave.trapvec = s.wave.trapvec := by simp only [retire]; rw [countFused_eq]
@[simp] theorem retire_wave_trapframe (i : Instr) (n : Nat) (t : Option Word64) (b : Wave) (s : State) :
    (retire i n t b s).wave.trapframe = s.wave.trapframe := by simp only [retire]; rw [countFused_eq]
@[simp] theorem retire_wave_xdom (i : Instr) (n : Nat) (t : Option Word64) (b : Wave) (s : State) :
    (retire i n t b s).wave.xdom = s.wave.xdom := by simp only [retire]; rw [countFused_eq]
@[simp] theorem retire_wave_wid (i : Instr) (n : Nat) (t : Option Word64) (b : Wave) (s : State) :
    (retire i n t b s).wave.wid = s.wave.wid := by simp only [retire]; rw [countFused_eq]
@[simp] theorem retire_wave_widfmt (i : Instr) (n : Nat) (t : Option Word64) (b : Wave) (s : State) :
    (retire i n t b s).wave.widfmt = s.wave.widfmt := by simp only [retire]; rw [countFused_eq]
@[simp] theorem retire_wave_now (i : Instr) (n : Nat) (t : Option Word64) (b : Wave) (s : State) :
    (retire i n t b s).wave.now = s.wave.now := by simp only [retire]; rw [countFused_eq]
@[simp] theorem retire_wave_service (i : Instr) (n : Nat) (t : Option Word64) (b : Wave) (s : State) :
    (retire i n t b s).wave.service = s.wave.service := by simp only [retire]; rw [countFused_eq]
@[simp] theorem retire_wave_trap (i : Instr) (n : Nat) (t : Option Word64) (b : Wave) (s : State) :
    (retire i n t b s).wave.trap = s.wave.trap := by simp only [retire]; rw [countFused_eq]
@[simp] theorem retire_wave_refused (i : Instr) (n : Nat) (t : Option Word64) (b : Wave) (s : State) :
    (retire i n t b s).wave.refused = s.wave.refused := by simp only [retire]; rw [countFused_eq]
@[simp] theorem retire_wave_ratoms (i : Instr) (n : Nat) (t : Option Word64) (b : Wave) (s : State) :
    (retire i n t b s).wave.ratoms = s.wave.ratoms := by simp only [retire]; rw [countFused_eq]
@[simp] theorem retire_wave_tokens (i : Instr) (n : Nat) (t : Option Word64) (b : Wave) (s : State) :
    (retire i n t b s).wave.tokens = s.wave.tokens := by simp only [retire]; rw [countFused_eq]
@[simp] theorem retire_wave_poisonV (i : Instr) (n : Nat) (t : Option Word64) (b : Wave) (s : State) :
    (retire i n t b s).wave.poisonV = s.wave.poisonV := by simp only [retire]; rw [countFused_eq]
@[simp] theorem retire_wave_poisonS (i : Instr) (n : Nat) (t : Option Word64) (b : Wave) (s : State) :
    (retire i n t b s).wave.poisonS = s.wave.poisonS := by simp only [retire]; rw [countFused_eq]
@[simp] theorem retire_wave_poisonM (i : Instr) (n : Nat) (t : Option Word64) (b : Wave) (s : State) :
    (retire i n t b s).wave.poisonM = s.wave.poisonM := by simp only [retire]; rw [countFused_eq]
@[simp] theorem retire_wave_poisonA (i : Instr) (n : Nat) (t : Option Word64) (b : Wave) (s : State) :
    (retire i n t b s).wave.poisonA = s.wave.poisonA := by simp only [retire]; rw [countFused_eq]
@[simp] theorem retire_wave_poisonC (i : Instr) (n : Nat) (t : Option Word64) (b : Wave) (s : State) :
    (retire i n t b s).wave.poisonC = s.wave.poisonC := by simp only [retire]; rw [countFused_eq]
@[simp] theorem retire_wave_yielded (i : Instr) (n : Nat) (t : Option Word64) (b : Wave) (s : State) :
    (retire i n t b s).wave.yielded = s.wave.yielded := by simp only [retire]; rw [countFused_eq]

/-- Where a completed instruction continues: at its target, or behind itself (R89). -/
@[simp] theorem retire_wave_pc (i : Instr) (n : Nat) (t : Option Word64) (b : Wave) (s : State) :
    (retire i n t b s).wave.pc = t.getD (s.wave.pc + BitVec.ofNat 64 i.length) := by simp only [retire]; rw [countFused_eq]

/-- The signature after a completed instruction (R279). -/
@[simp] theorem retire_wave_sig (i : Instr) (n : Nat) (t : Option Word64) (b : Wave) (s : State) :
    (retire i n t b s).wave.sig = hashed i b s.wave t.isSome := by simp only [retire]; rw [countFused_eq]

/-- The cycle from which the next instruction may issue (R68). -/
@[simp] theorem retire_wave_readyAt (i : Instr) (n : Nat) (t : Option Word64) (b : Wave) (s : State) :
    (retire i n t b s).wave.readyAt = s.wave.now + s.passes s.wave * issueBeats i + n := by
  simp only [retire]; rw [countFused_eq]

/-- The place in a run moves on (R69). -/
@[simp] theorem retire_wave_run (i : Instr) (n : Nat) (t : Option Word64) (b : Wave) (s : State) :
    (retire i n t b s).wave.run = s.wave.run.map (fun r => ⟨r.pos + 1, r.left - 1⟩) := by
  simp only [retire]; rw [countFused_eq]

/-! ### Results -/

@[simp] theorem putS_s (w : Wave) (r : Nat) (x : Word64) (n : Nat) (h : Bool) : (w.putS r x n h).s = sset w.s r x := rfl
@[simp] theorem putS_poisonS (w : Wave) (r : Nat) (x : Word64) (n : Nat) (h : Bool) :
    (w.putS r x n h).poisonS = serase w.poisonS r := rfl
@[simp] theorem putM_m (w : Wave) (r : Nat) (x : Word64) (n : Nat) (h : Bool) : (w.putM r x n h).m = sset w.m r x := rfl
@[simp] theorem putM_poisonM (w : Wave) (r : Nat) (x : Word64) (n : Nat) (h : Bool) :
    (w.putM r x n h).poisonM = serase w.poisonM r := rfl

/-- An element of a vector register after a write: the lanes of the mask have the new values, every other element of
every register is as it was. -/
theorem putV_element (w : Wave) (r : Nat) (mask : Word64) (f : Nat → Word32) (n : Nat) (h : Bool) (q l : Nat) (hl : l < 64) :
    sget (w.putV r mask f n h).v (64 * q + l)
      = if q = r ∧ mask.getLsbD l = true then f l else sget w.v (64 * q + l) := by
  unfold Wave.putV
  split
  · subst mask; simp
  · have e : 64 * q + l ∈ (lanesOf mask).map (fun l => 64 * r + l) ↔ q = r ∧ mask.getLsbD l = true := by
      simp only [List.mem_map, mem_lanesOf]
      constructor
      · rintro ⟨a, ⟨ha, hm⟩, he⟩
        obtain rfl : l = a := by omega
        exact ⟨by omega, hm⟩
      · rintro ⟨rfl, hm⟩
        exact ⟨l, ⟨hl, hm⟩, rfl⟩
    simp only [sget_ssetAll, e]
    split_ifs with h1
    · rw [h1.1, Nat.add_sub_cancel_left]
    · rfl

/-- A write of no lane changes nothing (R333). -/
@[simp] theorem putV_none (w : Wave) (r : Nat) (f : Nat → Word32) (n : Nat) (h : Bool) : w.putV r 0 f n h = w := by
  simp [Wave.putV]

end Sys2Proof.Machine
end

