-- ==== Sys2Proof/Laws/Memory.lean ====
section
/-!
SUPPORT. What the operations on physical memory do under their keys (R144, R281): a write is read back under its key, and
every other byte reads as it did; and every write keeps the canonical form of memory.
-/

namespace Sys2Proof.Machine

open Sys2Proof

/-! ### Lines and sectors -/

theorem fitBytes_length (n : Nat) (bs : List Byte) : (fitBytes n bs).length = n := by
  simp [fitBytes]

theorem sgetFrom_length {w : Nat} (m : Sparse w) (n : Nat) : ∀ base, (sgetFrom m base n).length = n := by
  induction n with
  | zero => intro base; rfl
  | succ n ih => intro base; simp [sgetFrom, ih]

theorem sgetFrom_getD {w : Nat} (m : Sparse w) (n : Nat) : ∀ base j, j < n → (sgetFrom m base n).getD j 0 = sget m (base + j) := by
  induction n with
  | zero => intro base j h; omega
  | succ n ih =>
    intro base j h
    cases j with
    | zero => rfl
    | succ j =>
      rw [sgetFrom, List.getD_cons_succ, ih (base + 1) j (by omega)]
      congr 1; omega

theorem openSector_length (s : State) (k sector : Nat) (bs : List Byte) (h : k = 0 → bs.length = 32) :
    (openSector s k sector bs).length = 32 := by
  unfold openSector
  split
  · exact h ‹_›
  · exact fitBytes_length _ _

theorem sealSector_length (s : State) (k sector : Nat) (bs : List Byte) (h : bs.length = 32) :
    (sealSector s k sector bs).length = 32 := by
  unfold sealSector
  split
  · exact h
  · exact fitBytes_length _ _

theorem sectorUnder_length (s : State) (k sector : Nat) : (sectorUnder s k sector).length = 32 := by
  simp only [sectorUnder]
  split
  · exact sgetFrom_length _ _ _
  · exact openSector_length _ _ _ _ (fun _ => sealSector_length _ _ _ _ (sgetFrom_length _ _ _))

/-- A sector reads alike in two states with its line's tag, its bytes and the keys alike. -/
theorem sectorUnder_congr {s t : State} {k sector : Nat} (hk : t.keys = s.keys)
    (ht : lineTag t (sector * 32) = lineTag s (sector * 32))
    (hm : ∀ j < 32, sget t.mem (sector * 32 + j) = sget s.mem (sector * 32 + j)) :
    sectorUnder t k sector = sectorUnder s k sector := by
  have hraw : sgetFrom t.mem (sector * 32) 32 = sgetFrom s.mem (sector * 32) 32 := by
    apply List.ext_getElem (by simp [sgetFrom_length])
    intro j h1 h2
    have h1' : j < 32 := by simpa [sgetFrom_length] using h1
    have a := sgetFrom_getD t.mem 32 (sector * 32) j h1'
    have b := sgetFrom_getD s.mem 32 (sector * 32) j h1'
    rw [List.getD_eq_getElem _ _ h1] at a
    rw [List.getD_eq_getElem _ _ h2] at b
    rw [a, b, hm j h1']
  simp only [sectorUnder, ht, hraw, openSector, sealSector, keyBytes, hk]

/-- A byte read under a key, as a byte of its sector. -/
theorem memByte_eq_sector (s : State) (k pa : Nat) : memByte s k pa = (sectorUnder s k (pa / 32)).getD (pa % 32) 0 := by
  unfold memByte
  split
  · rename_i h
    have hl : lineTag s (pa / 32 * 32) = k := by
      rw [← h]; simp only [lineTag]; congr 2; omega
    simp only [sectorUnder, hl, ↓reduceIte]
    rw [sgetFrom_getD _ _ _ _ (by omega)]
    congr 1; omega
  · rfl

/-! ### Bringing a line under a key -/

@[simp] theorem rekeyLine_keys (s : State) (k pa : Nat) : (rekeyLine s k pa).keys = s.keys := by
  unfold rekeyLine; split <;> rfl

theorem lineBytes_length (s : State) (k line : Nat) :
    ((List.range 4).flatMap (fun j => sectorUnder s k (line * 4 + j))).length = 128 := by
  simp [List.length_flatMap, sectorUnder_length]

theorem rekeyLine_tag_far (s : State) (k pa n : Nat) (h : n / 128 ≠ pa / 128) : lineTag (rekeyLine s k pa) n = lineTag s n := by
  unfold rekeyLine
  split
  · rfl
  · simp [lineTag, h]

theorem rekeyLine_mem_far (s : State) (k pa n : Nat) (h : n / 128 ≠ pa / 128) :
    sget (rekeyLine s k pa).mem n = sget s.mem n := by
  unfold rekeyLine
  split
  · rfl
  · simp only [sget_ssetFrom, lineBytes_length]
    rw [if_neg (by omega)]

theorem lineTag_rekeyLine (s : State) (k pa : Nat) (hk : k < 4096) : lineTag (rekeyLine s k pa) pa = k := by
  unfold rekeyLine
  split
  · assumption
  · simp [lineTag, Nat.mod_eq_of_lt hk]

/-- Byte `n` of the four sectors of a line. -/
theorem lineBytes_getD (s : State) (k line n : Nat) (h : n < 128) :
    ((List.range 4).flatMap (fun j => sectorUnder s k (line * 4 + j))).getD n 0
      = (sectorUnder s k (line * 4 + n / 32)).getD (n % 32) 0 := by
  have e : (List.range 4).flatMap (fun j => sectorUnder s k (line * 4 + j))
      = sectorUnder s k (line * 4 + 0) ++ (sectorUnder s k (line * 4 + 1) ++
        (sectorUnder s k (line * 4 + 2) ++ sectorUnder s k (line * 4 + 3))) := by
    simp [List.range_succ]
  rw [e]
  simp only [List.getD_eq_getElem?_getD, List.getElem?_append, sectorUnder_length]
  have h4 : n / 32 = 0 ∨ n / 32 = 1 ∨ n / 32 = 2 ∨ n / 32 = 3 := by omega
  rcases h4 with h | h | h | h <;> rw [h] <;> split_ifs <;> first | omega | (congr 2; omega)

/-- Bringing a line under a key changes nothing that the key reads. -/
theorem memByte_rekeyLine (s : State) (k pa pa' : Nat) (hk : k < 4096) :
    memByte (rekeyLine s k pa) k pa' = memByte s k pa' := by
  by_cases hl : pa' / 128 = pa / 128
  · have ht : lineTag (rekeyLine s k pa) pa' = k := by
      have h := lineTag_rekeyLine s k pa hk
      simp only [lineTag, hl] at h ⊢
      exact h
    by_cases hs : lineTag s pa = k
    · rw [rekeyLine, if_pos hs]
    · have hs' : ¬lineTag s pa = k := by simpa only [lineTag, hl] using hs
      rw [memByte, if_pos ht, memByte_eq_sector, rekeyLine, if_neg hs']
      simp only [sget_ssetFrom, lineBytes_length]
      rw [if_pos ⟨by omega, by omega⟩, lineBytes_getD _ _ _ _ (by omega)]
      rw [show pa / 128 * 4 + (pa' - pa / 128 * 128) / 32 = pa' / 32 by omega,
        show (pa' - pa / 128 * 128) % 32 = pa' % 32 by omega]
  · rw [memByte_eq_sector, memByte_eq_sector s]
    congr 1
    exact sectorUnder_congr (by simp) (rekeyLine_tag_far _ _ _ _ (by omega))
      (fun j hj => rekeyLine_mem_far _ _ _ _ (by omega))

/-- A byte written under a key is read back under that key; every other byte reads under it as before. -/
theorem memByte_putByte (s : State) (k pa pa' : Nat) (b : Byte) (hk : k < 4096) :
    memByte (putByte s k pa b) k pa' = if pa' = pa then b else memByte s k pa' := by
  rw [← memByte_rekeyLine s k pa pa' hk]
  have ht : ∀ n, lineTag (putByte s k pa b) n = lineTag (rekeyLine s k pa) n := fun n => rfl
  have hself := lineTag_rekeyLine s k pa hk
  by_cases hl : pa' / 128 = pa / 128
  · have e : lineTag (rekeyLine s k pa) pa' = k := by
      simp only [lineTag, hl] at hself ⊢
      exact hself
    have e' : lineTag (putByte s k pa b) pa' = k := e
    rw [memByte, if_pos e', memByte, if_pos e]
    simp only [putByte, sget_sset]
  · rw [if_neg (fun h => hl (by rw [h])), memByte_eq_sector, memByte_eq_sector (rekeyLine s k pa)]
    congr 1
    refine sectorUnder_congr rfl rfl (fun j hj => ?_)
    simp only [putByte, sget_sset]
    rw [if_neg (by omega)]

/-- The value that a list of writes leaves at an address: that of the last one to it. -/
def lastAt (pa : Nat) (old : Byte) : List (Nat × Byte) → Byte
  | [] => old
  | (q, b) :: rest => lastAt pa (if pa = q then b else old) rest

/-- A list of writes under a key, read under that key. -/
theorem memByte_putBytes (k pa' : Nat) (hk : k < 4096) (bs : List (Nat × Byte)) : ∀ s : State,
    memByte (putBytes s k bs) k pa' = lastAt pa' (memByte s k pa') bs := by
  induction bs with
  | nil => intro s; rfl
  | cons e rest ih =>
    intro s
    obtain ⟨pa, b⟩ := e
    rw [putBytes, ih, memByte_putByte _ _ _ _ _ hk]
    rfl

theorem lastAt_not_mem (pa : Nat) (bs : List (Nat × Byte)) : ∀ old, pa ∉ bs.map (·.1) → lastAt pa old bs = old := by
  induction bs with
  | nil => intros; rfl
  | cons e rest ih =>
    intro old h
    simp only [List.map_cons, List.mem_cons, not_or] at h
    rw [lastAt, if_neg h.1, ih _ h.2]

/-! ### The canonical form -/

theorem wf_rekeyLine (s : State) (k pa : Nat) (h : Memory.wf s.mem = true) : Memory.wf (rekeyLine s k pa).mem = true := by
  unfold rekeyLine
  split
  · exact h
  · exact sparseWf_ssetFrom _ _ _ h

theorem wf_putByte (s : State) (k pa : Nat) (b : Byte) (h : Memory.wf s.mem = true) : Memory.wf (putByte s k pa b).mem = true :=
  sparseWf_sset _ _ _ (wf_rekeyLine s k pa h)

/-- Every write of bytes keeps the canonical form of memory. -/
theorem wf_putBytes (k : Nat) (bs : List (Nat × Byte)) : ∀ s : State, Memory.wf s.mem = true → Memory.wf (putBytes s k bs).mem = true := by
  induction bs with
  | nil => intro s h; exact h
  | cons e rest ih => intro s h; exact ih _ (wf_putByte s k e.1 e.2 h)

theorem reflect_mem (s : State) (part wave va : Nat) (bs : List Byte) : (reflect s part wave va bs).mem = s.mem := by
  unfold reflect
  split <;> rfl

theorem wf_storeBytes (s : State) (part wave : Nat) (l : Leaf) (va : Nat) (bs : List Byte) (h : Memory.wf s.mem = true) :
    Memory.wf (storeBytes s part wave l va bs).mem = true := by
  unfold storeBytes
  split
  · rw [reflect_mem]; exact wf_putBytes _ _ _ h
  · exact wf_putBytes _ _ _ h

theorem wf_clearCovered (s : State) (pas : List Nat) (h : Memory.wf s.mem = true) : Memory.wf (clearCovered s pas).mem = true := by
  unfold clearCovered
  split <;> exact h

theorem wf_reset : Memory.wf State.reset.mem = true := rfl

end Sys2Proof.Machine
end

