-- ==== Sys2Proof/Laws/PerInstr.lean ====
section
/-!
SUPPORT. Statements made of every instruction, one lemma for each constructor: `Sized` says how many bytes a word has and
what its length bit is (R89, R92).
-/

namespace Sys2Proof.Laws.Sized

open Sys2Proof

/-- An event has no word; a halfword has 16 bits and length bit 0; a word has 32 bits and length bit 1 (R89, R92). -/
def Statement (i : Instr) : Prop :=
  (encode i = none ∧ i.length = 0) ∨
  (∃ w, encode i = some (16, w) ∧ i.length = 2 ∧ w % 2 = 0) ∨
  (∃ w, encode i = some (32, w) ∧ i.length = 4 ∧ w % 2 = 1)

/-- A field above bit 0 does not change the length bit. -/
theorem put_mod_two {n : Nat} (x : BitVec n) (lo w : Nat) : put x (lo + 1) w % 2 = w % 2 := by
  rw [put, Nat.pow_succ, ← Nat.mul_assoc, Nat.add_mul_mod_self_right]

theorem nop : ∀ x0, Statement (.nop x0) := fun _ => .inr (.inr ⟨_, rfl, rfl, by simp only [put_mod_two]⟩)
theorem bra : ∀ x0 x1, Statement (.bra x0 x1) := fun _ _ => .inr (.inr ⟨_, rfl, rfl, by simp only [put_mod_two]⟩)
theorem bcc : ∀ x0 x1 x2 x3, Statement (.bcc x0 x1 x2 x3) := fun _ _ _ _ => .inr (.inr ⟨_, rfl, rfl, by simp only [put_mod_two]⟩)
theorem call : ∀ x0 x1, Statement (.call x0 x1) := fun _ _ => .inr (.inr ⟨_, rfl, rfl, by simp only [put_mod_two]⟩)
theorem ret : ∀ x0 x1, Statement (.ret x0 x1) := fun _ _ => .inr (.inr ⟨_, rfl, rfl, by simp only [put_mod_two]⟩)
theorem jmpr : ∀ x0 x1, Statement (.jmpr x0 x1) := fun _ _ => .inr (.inr ⟨_, rfl, rfl, by simp only [put_mod_two]⟩)
theorem ifm : ∀ x0 x1 x2, Statement (.ifm x0 x1 x2) := fun _ _ _ => .inr (.inr ⟨_, rfl, rfl, by simp only [put_mod_two]⟩)
theorem els : ∀ x0 x1, Statement (.els x0 x1) := fun _ _ => .inr (.inr ⟨_, rfl, rfl, by simp only [put_mod_two]⟩)
theorem endif : ∀ x0, Statement (.endif x0) := fun _ => .inr (.inr ⟨_, rfl, rfl, by simp only [put_mod_two]⟩)
theorem loop : ∀ x0, Statement (.loop x0) := fun _ => .inr (.inr ⟨_, rfl, rfl, by simp only [put_mod_two]⟩)
theorem brk : ∀ x0 x1, Statement (.brk x0 x1) := fun _ _ => .inr (.inr ⟨_, rfl, rfl, by simp only [put_mod_two]⟩)
theorem cont : ∀ x0 x1, Statement (.cont x0 x1) := fun _ _ => .inr (.inr ⟨_, rfl, rfl, by simp only [put_mod_two]⟩)
theorem endl : ∀ x0 x1, Statement (.endl x0 x1) := fun _ _ => .inr (.inr ⟨_, rfl, rfl, by simp only [put_mod_two]⟩)
theorem exitm : ∀ x0 x1, Statement (.exitm x0 x1) := fun _ _ => .inr (.inr ⟨_, rfl, rfl, by simp only [put_mod_two]⟩)
theorem endw : ∀ x0, Statement (.endw x0) := fun _ => .inr (.inr ⟨_, rfl, rfl, by simp only [put_mod_two]⟩)
theorem run : ∀ x0 x1, Statement (.run x0 x1) := fun _ _ => .inr (.inr ⟨_, rfl, rfl, by simp only [put_mod_two]⟩)
theorem runend : ∀ x0 x1 x2 x3, Statement (.runend x0 x1 x2 x3) := fun _ _ _ _ => .inr (.inr ⟨_, rfl, rfl, by simp only [put_mod_two]⟩)
theorem yield : ∀ x0, Statement (.yield x0) := fun _ => .inr (.inr ⟨_, rfl, rfl, by simp only [put_mod_two]⟩)
theorem sleepu : ∀ x0 x1, Statement (.sleepu x0 x1) := fun _ _ => .inr (.inr ⟨_, rfl, rfl, by simp only [put_mod_two]⟩)
theorem waitk : ∀ x0 x1, Statement (.waitk x0 x1) := fun _ _ => .inr (.inr ⟨_, rfl, rfl, by simp only [put_mod_two]⟩)
theorem trap : ∀ x0 x1, Statement (.trap x0 x1) := fun _ _ => .inr (.inr ⟨_, rfl, rfl, by simp only [put_mod_two]⟩)
theorem eret : ∀ x0, Statement (.eret x0) := fun _ => .inr (.inr ⟨_, rfl, rfl, by simp only [put_mod_two]⟩)
theorem sigchk : ∀ x0 x1, Statement (.sigchk x0 x1) := fun _ _ => .inr (.inr ⟨_, rfl, rfl, by simp only [put_mod_two]⟩)
theorem scsr : ∀ x0 x1 x2, Statement (.scsr x0 x1 x2) := fun _ _ _ => .inr (.inr ⟨_, rfl, rfl, by simp only [put_mod_two]⟩)
theorem scsw : ∀ x0 x1 x2, Statement (.scsw x0 x1 x2) := fun _ _ _ => .inr (.inr ⟨_, rfl, rfl, by simp only [put_mod_two]⟩)
theorem scss : ∀ x0 x1 x2, Statement (.scss x0 x1 x2) := fun _ _ _ => .inr (.inr ⟨_, rfl, rfl, by simp only [put_mod_two]⟩)
theorem scsc : ∀ x0 x1 x2, Statement (.scsc x0 x1 x2) := fun _ _ _ => .inr (.inr ⟨_, rfl, rfl, by simp only [put_mod_two]⟩)
theorem sadd : ∀ x0 x1 x2 x3, Statement (.sadd x0 x1 x2 x3) := fun _ _ _ _ => .inr (.inr ⟨_, rfl, rfl, by simp only [put_mod_two]⟩)
theorem ssub : ∀ x0 x1 x2 x3, Statement (.ssub x0 x1 x2 x3) := fun _ _ _ _ => .inr (.inr ⟨_, rfl, rfl, by simp only [put_mod_two]⟩)
theorem smul : ∀ x0 x1 x2 x3, Statement (.smul x0 x1 x2 x3) := fun _ _ _ _ => .inr (.inr ⟨_, rfl, rfl, by simp only [put_mod_two]⟩)
theorem smulh : ∀ x0 x1 x2 x3, Statement (.smulh x0 x1 x2 x3) := fun _ _ _ _ => .inr (.inr ⟨_, rfl, rfl, by simp only [put_mod_two]⟩)
theorem sand : ∀ x0 x1 x2 x3, Statement (.sand x0 x1 x2 x3) := fun _ _ _ _ => .inr (.inr ⟨_, rfl, rfl, by simp only [put_mod_two]⟩)
theorem sor : ∀ x0 x1 x2 x3, Statement (.sor x0 x1 x2 x3) := fun _ _ _ _ => .inr (.inr ⟨_, rfl, rfl, by simp only [put_mod_two]⟩)
theorem sxor : ∀ x0 x1 x2 x3, Statement (.sxor x0 x1 x2 x3) := fun _ _ _ _ => .inr (.inr ⟨_, rfl, rfl, by simp only [put_mod_two]⟩)
theorem sshl : ∀ x0 x1 x2 x3, Statement (.sshl x0 x1 x2 x3) := fun _ _ _ _ => .inr (.inr ⟨_, rfl, rfl, by simp only [put_mod_two]⟩)
theorem sshr : ∀ x0 x1 x2 x3, Statement (.sshr x0 x1 x2 x3) := fun _ _ _ _ => .inr (.inr ⟨_, rfl, rfl, by simp only [put_mod_two]⟩)
theorem ssar : ∀ x0 x1 x2 x3, Statement (.ssar x0 x1 x2 x3) := fun _ _ _ _ => .inr (.inr ⟨_, rfl, rfl, by simp only [put_mod_two]⟩)
theorem smin : ∀ x0 x1 x2 x3, Statement (.smin x0 x1 x2 x3) := fun _ _ _ _ => .inr (.inr ⟨_, rfl, rfl, by simp only [put_mod_two]⟩)
theorem smax : ∀ x0 x1 x2 x3, Statement (.smax x0 x1 x2 x3) := fun _ _ _ _ => .inr (.inr ⟨_, rfl, rfl, by simp only [put_mod_two]⟩)
theorem snmin : ∀ x0 x1 x2 x3, Statement (.snmin x0 x1 x2 x3) := fun _ _ _ _ => .inr (.inr ⟨_, rfl, rfl, by simp only [put_mod_two]⟩)
theorem snmax : ∀ x0 x1 x2 x3, Statement (.snmax x0 x1 x2 x3) := fun _ _ _ _ => .inr (.inr ⟨_, rfl, rfl, by simp only [put_mod_two]⟩)
theorem sclz : ∀ x0 x1 x2, Statement (.sclz x0 x1 x2) := fun _ _ _ => .inr (.inr ⟨_, rfl, rfl, by simp only [put_mod_two]⟩)
theorem spopc : ∀ x0 x1 x2, Statement (.spopc x0 x1 x2) := fun _ _ _ => .inr (.inr ⟨_, rfl, rfl, by simp only [put_mod_two]⟩)
theorem sbfx : ∀ x0 x1 x2 x3, Statement (.sbfx x0 x1 x2 x3) := fun _ _ _ _ => .inr (.inr ⟨_, rfl, rfl, by simp only [put_mod_two]⟩)
theorem sbfi : ∀ x0 x1 x2 x3, Statement (.sbfi x0 x1 x2 x3) := fun _ _ _ _ => .inr (.inr ⟨_, rfl, rfl, by simp only [put_mod_two]⟩)
theorem smov : ∀ x0 x1 x2, Statement (.smov x0 x1 x2) := fun _ _ _ => .inr (.inr ⟨_, rfl, rfl, by simp only [put_mod_two]⟩)
theorem scmp : ∀ x0 x1 x2 x3 x4, Statement (.scmp x0 x1 x2 x3 x4) := fun _ _ _ _ _ => .inr (.inr ⟨_, rfl, rfl, by simp only [put_mod_two]⟩)
theorem saddi : ∀ x0 x1 x2, Statement (.saddi x0 x1 x2) := fun _ _ _ => .inr (.inr ⟨_, rfl, rfl, by simp only [put_mod_two]⟩)
theorem smovi : ∀ x0 x1 x2, Statement (.smovi x0 x1 x2) := fun _ _ _ => .inr (.inr ⟨_, rfl, rfl, by simp only [put_mod_two]⟩)
theorem slui : ∀ x0 x1 x2, Statement (.slui x0 x1 x2) := fun _ _ _ => .inr (.inr ⟨_, rfl, rfl, by simp only [put_mod_two]⟩)
theorem sld : ∀ x0 x1 x2 x3, Statement (.sld x0 x1 x2 x3) := fun _ _ _ _ => .inr (.inr ⟨_, rfl, rfl, by simp only [put_mod_two]⟩)
theorem sst : ∀ x0 x1 x2 x3, Statement (.sst x0 x1 x2 x3) := fun _ _ _ _ => .inr (.inr ⟨_, rfl, rfl, by simp only [put_mod_two]⟩)
theorem bar : ∀ x0, Statement (.bar x0) := fun _ => .inr (.inr ⟨_, rfl, rfl, by simp only [put_mod_two]⟩)
theorem sbar : ∀ x0, Statement (.sbar x0) := fun _ => .inr (.inr ⟨_, rfl, rfl, by simp only [put_mod_two]⟩)
theorem gbar : ∀ x0, Statement (.gbar x0) := fun _ => .inr (.inr ⟨_, rfl, rfl, by simp only [put_mod_two]⟩)
theorem fence : ∀ x0 x1, Statement (.fence x0 x1) := fun _ _ => .inr (.inr ⟨_, rfl, rfl, by simp only [put_mod_two]⟩)
theorem qlock : ∀ x0 x1, Statement (.qlock x0 x1) := fun _ _ => .inr (.inr ⟨_, rfl, rfl, by simp only [put_mod_two]⟩)
theorem qunlock : ∀ x0 x1, Statement (.qunlock x0 x1) := fun _ _ => .inr (.inr ⟨_, rfl, rfl, by simp only [put_mod_two]⟩)
theorem send : ∀ x0 x1 x2 x3, Statement (.send x0 x1 x2 x3) := fun _ _ _ _ => .inr (.inr ⟨_, rfl, rfl, by simp only [put_mod_two]⟩)
theorem recv : ∀ x0 x1 x2 x3, Statement (.recv x0 x1 x2 x3) := fun _ _ _ _ => .inr (.inr ⟨_, rfl, rfl, by simp only [put_mod_two]⟩)
theorem abind : ∀ x0 x1 x2, Statement (.abind x0 x1 x2) := fun _ _ _ => .inr (.inr ⟨_, rfl, rfl, by simp only [put_mod_two]⟩)
theorem vld : ∀ x0 x1 x2 x3 x4 x5, Statement (.vld x0 x1 x2 x3 x4 x5) := fun _ _ _ _ _ _ => .inr (.inr ⟨_, rfl, rfl, by simp only [put_mod_two]⟩)
theorem vst : ∀ x0 x1 x2 x3 x4 x5, Statement (.vst x0 x1 x2 x3 x4 x5) := fun _ _ _ _ _ _ => .inr (.inr ⟨_, rfl, rfl, by simp only [put_mod_two]⟩)
theorem vlds : ∀ x0 x1 x2 x3 x4 x5, Statement (.vlds x0 x1 x2 x3 x4 x5) := fun _ _ _ _ _ _ => .inr (.inr ⟨_, rfl, rfl, by simp only [put_mod_two]⟩)
theorem vsts : ∀ x0 x1 x2 x3 x4 x5, Statement (.vsts x0 x1 x2 x3 x4 x5) := fun _ _ _ _ _ _ => .inr (.inr ⟨_, rfl, rfl, by simp only [put_mod_two]⟩)
theorem atom : ∀ x0 x1 x2 x3 x4 x5 x6 x7, Statement (.atom x0 x1 x2 x3 x4 x5 x6 x7) := fun _ _ _ _ _ _ _ _ => .inr (.inr ⟨_, rfl, rfl, by simp only [put_mod_two]⟩)
theorem red : ∀ x0 x1 x2 x3 x4 x5 x6 x7, Statement (.red x0 x1 x2 x3 x4 x5 x6 x7) := fun _ _ _ _ _ _ _ _ => .inr (.inr ⟨_, rfl, rfl, by simp only [put_mod_two]⟩)
theorem wfence : ∀ x0, Statement (.wfence x0) := fun _ => .inr (.inr ⟨_, rfl, rfl, by simp only [put_mod_two]⟩)
theorem rst : ∀ x0 x1 x2 x3 x4 x5, Statement (.rst x0 x1 x2 x3 x4 x5) := fun _ _ _ _ _ _ => .inr (.inr ⟨_, rfl, rfl, by simp only [put_mod_two]⟩)
theorem ratom : ∀ x0 x1 x2 x3 x4 x5 x6, Statement (.ratom x0 x1 x2 x3 x4 x5 x6) := fun _ _ _ _ _ _ _ => .inr (.inr ⟨_, rfl, rfl, by simp only [put_mod_two]⟩)
theorem xfer : ∀ x0 x1 x2 x3 x4, Statement (.xfer x0 x1 x2 x3 x4) := fun _ _ _ _ _ => .inr (.inr ⟨_, rfl, rfl, by simp only [put_mod_two]⟩)
theorem xferx : ∀ x0 x1 x2 x3 x4, Statement (.xferx x0 x1 x2 x3 x4) := fun _ _ _ _ _ => .inr (.inr ⟨_, rfl, rfl, by simp only [put_mod_two]⟩)
theorem ftotal : ∀ x0 x1 x2 x3, Statement (.ftotal x0 x1 x2 x3) := fun _ _ _ _ => .inr (.inr ⟨_, rfl, rfl, by simp only [put_mod_two]⟩)
theorem fbind : ∀ x0 x1, Statement (.fbind x0 x1) := fun _ _ => .inr (.inr ⟨_, rfl, rfl, by simp only [put_mod_two]⟩)
theorem fbindSeal : ∀ x0 x1, Statement (.fbindSeal x0 x1) := fun _ _ => .inr (.inr ⟨_, rfl, rfl, by simp only [put_mod_two]⟩)
theorem mxloop : ∀ x0 x1 x2 x3, Statement (.mxloop x0 x1 x2 x3) := fun _ _ _ _ => .inr (.inr ⟨_, rfl, rfl, by simp only [put_mod_two]⟩)
theorem cpy : ∀ x0 x1 x2 x3, Statement (.cpy x0 x1 x2 x3) := fun _ _ _ _ => .inr (.inr ⟨_, rfl, rfl, by simp only [put_mod_two]⟩)
theorem bload : ∀ x0 x1 x2 x3, Statement (.bload x0 x1 x2 x3) := fun _ _ _ _ => .inr (.inr ⟨_, rfl, rfl, by simp only [put_mod_two]⟩)
theorem cbld : ∀ x0 x1 x2 x3, Statement (.cbld x0 x1 x2 x3) := fun _ _ _ _ => .inr (.inr ⟨_, rfl, rfl, by simp only [put_mod_two]⟩)
theorem qfence : ∀ x0 x1 x2 x3, Statement (.qfence x0 x1 x2 x3) := fun _ _ _ _ => .inr (.inr ⟨_, rfl, rfl, by simp only [put_mod_two]⟩)
theorem nwri : ∀ x0 x1 x2 x3, Statement (.nwri x0 x1 x2 x3) := fun _ _ _ _ => .inr (.inr ⟨_, rfl, rfl, by simp only [put_mod_two]⟩)
theorem cpwait : ∀ x0 x1, Statement (.cpwait x0 x1) := fun _ _ => .inr (.inr ⟨_, rfl, rfl, by simp only [put_mod_two]⟩)
theorem emit : ∀ x0 x1 x2 x3, Statement (.emit x0 x1 x2 x3) := fun _ _ _ _ => .inr (.inr ⟨_, rfl, rfl, by simp only [put_mod_two]⟩)
theorem recin : ∀ x0 x1 x2, Statement (.recin x0 x1 x2) := fun _ _ _ => .inr (.inr ⟨_, rfl, rfl, by simp only [put_mod_two]⟩)
theorem mxmma : ∀ x0 x1 x2 x3 x4, Statement (.mxmma x0 x1 x2 x3 x4) := fun _ _ _ _ _ => .inr (.inr ⟨_, rfl, rfl, by simp only [put_mod_two]⟩)
theorem mxzero : ∀ x0 x1, Statement (.mxzero x0 x1) := fun _ _ => .inr (.inr ⟨_, rfl, rfl, by simp only [put_mod_two]⟩)
theorem mxldz : ∀ x0 x1 x2, Statement (.mxldz x0 x1 x2) := fun _ _ _ => .inr (.inr ⟨_, rfl, rfl, by simp only [put_mod_two]⟩)
theorem mxstz : ∀ x0 x1 x2, Statement (.mxstz x0 x1 x2) := fun _ _ _ => .inr (.inr ⟨_, rfl, rfl, by simp only [put_mod_two]⟩)
theorem mxrdz : ∀ x0 x1 x2 x3, Statement (.mxrdz x0 x1 x2 x3) := fun _ _ _ _ => .inr (.inr ⟨_, rfl, rfl, by simp only [put_mod_two]⟩)
theorem mxchk : ∀ x0 x1 x2 x3, Statement (.mxchk x0 x1 x2 x3) := fun _ _ _ _ => .inr (.inr ⟨_, rfl, rfl, by simp only [put_mod_two]⟩)
theorem viadd : ∀ x0 x1 x2 x3 x4, Statement (.viadd x0 x1 x2 x3 x4) := fun _ _ _ _ _ => .inr (.inr ⟨_, rfl, rfl, by simp only [put_mod_two]⟩)
theorem visub : ∀ x0 x1 x2 x3 x4, Statement (.visub x0 x1 x2 x3 x4) := fun _ _ _ _ _ => .inr (.inr ⟨_, rfl, rfl, by simp only [put_mod_two]⟩)
theorem vimul : ∀ x0 x1 x2 x3 x4, Statement (.vimul x0 x1 x2 x3 x4) := fun _ _ _ _ _ => .inr (.inr ⟨_, rfl, rfl, by simp only [put_mod_two]⟩)
theorem vimulh : ∀ x0 x1 x2 x3 x4, Statement (.vimulh x0 x1 x2 x3 x4) := fun _ _ _ _ _ => .inr (.inr ⟨_, rfl, rfl, by simp only [put_mod_two]⟩)
theorem vimad : ∀ x0 x1 x2 x3 x4, Statement (.vimad x0 x1 x2 x3 x4) := fun _ _ _ _ _ => .inr (.inr ⟨_, rfl, rfl, by simp only [put_mod_two]⟩)
theorem vimin : ∀ x0 x1 x2 x3 x4, Statement (.vimin x0 x1 x2 x3 x4) := fun _ _ _ _ _ => .inr (.inr ⟨_, rfl, rfl, by simp only [put_mod_two]⟩)
theorem vimax : ∀ x0 x1 x2 x3 x4, Statement (.vimax x0 x1 x2 x3 x4) := fun _ _ _ _ _ => .inr (.inr ⟨_, rfl, rfl, by simp only [put_mod_two]⟩)
theorem vand : ∀ x0 x1 x2 x3 x4, Statement (.vand x0 x1 x2 x3 x4) := fun _ _ _ _ _ => .inr (.inr ⟨_, rfl, rfl, by simp only [put_mod_two]⟩)
theorem vor : ∀ x0 x1 x2 x3 x4, Statement (.vor x0 x1 x2 x3 x4) := fun _ _ _ _ _ => .inr (.inr ⟨_, rfl, rfl, by simp only [put_mod_two]⟩)
theorem vxor : ∀ x0 x1 x2 x3 x4, Statement (.vxor x0 x1 x2 x3 x4) := fun _ _ _ _ _ => .inr (.inr ⟨_, rfl, rfl, by simp only [put_mod_two]⟩)
theorem vshl : ∀ x0 x1 x2 x3 x4, Statement (.vshl x0 x1 x2 x3 x4) := fun _ _ _ _ _ => .inr (.inr ⟨_, rfl, rfl, by simp only [put_mod_two]⟩)
theorem vshr : ∀ x0 x1 x2 x3 x4, Statement (.vshr x0 x1 x2 x3 x4) := fun _ _ _ _ _ => .inr (.inr ⟨_, rfl, rfl, by simp only [put_mod_two]⟩)
theorem vsar : ∀ x0 x1 x2 x3 x4, Statement (.vsar x0 x1 x2 x3 x4) := fun _ _ _ _ _ => .inr (.inr ⟨_, rfl, rfl, by simp only [put_mod_two]⟩)
theorem vbfx : ∀ x0 x1 x2 x3 x4, Statement (.vbfx x0 x1 x2 x3 x4) := fun _ _ _ _ _ => .inr (.inr ⟨_, rfl, rfl, by simp only [put_mod_two]⟩)
theorem vbfi : ∀ x0 x1 x2 x3 x4, Statement (.vbfi x0 x1 x2 x3 x4) := fun _ _ _ _ _ => .inr (.inr ⟨_, rfl, rfl, by simp only [put_mod_two]⟩)
theorem vicmp : ∀ x0 x1 x2 x3 x4 x5, Statement (.vicmp x0 x1 x2 x3 x4 x5) := fun _ _ _ _ _ _ => .inr (.inr ⟨_, rfl, rfl, by simp only [put_mod_two]⟩)
theorem vsel : ∀ x0 x1 x2 x3 x4, Statement (.vsel x0 x1 x2 x3 x4) := fun _ _ _ _ _ => .inr (.inr ⟨_, rfl, rfl, by simp only [put_mod_two]⟩)
theorem vmov : ∀ x0 x1 x2 x3, Statement (.vmov x0 x1 x2 x3) := fun _ _ _ _ => .inr (.inr ⟨_, rfl, rfl, by simp only [put_mod_two]⟩)
theorem vmovi : ∀ x0 x1 x2, Statement (.vmovi x0 x1 x2) := fun _ _ _ => .inr (.inr ⟨_, rfl, rfl, by simp only [put_mod_two]⟩)
theorem vbcast : ∀ x0 x1 x2 x3, Statement (.vbcast x0 x1 x2 x3) := fun _ _ _ _ => .inr (.inr ⟨_, rfl, rfl, by simp only [put_mod_two]⟩)
theorem vxadd : ∀ x0 x1 x2 x3 x4, Statement (.vxadd x0 x1 x2 x3 x4) := fun _ _ _ _ _ => .inr (.inr ⟨_, rfl, rfl, by simp only [put_mod_two]⟩)
theorem vxsub : ∀ x0 x1 x2 x3 x4, Statement (.vxsub x0 x1 x2 x3 x4) := fun _ _ _ _ _ => .inr (.inr ⟨_, rfl, rfl, by simp only [put_mod_two]⟩)
theorem vxmul : ∀ x0 x1 x2 x3 x4, Statement (.vxmul x0 x1 x2 x3 x4) := fun _ _ _ _ _ => .inr (.inr ⟨_, rfl, rfl, by simp only [put_mod_two]⟩)
theorem vxmulRz : ∀ x0 x1 x2 x3 x4, Statement (.vxmulRz x0 x1 x2 x3 x4) := fun _ _ _ _ _ => .inr (.inr ⟨_, rfl, rfl, by simp only [put_mod_two]⟩)
theorem vnot : ∀ x0 x1 x2 x3, Statement (.vnot x0 x1 x2 x3) := fun _ _ _ _ => .inr (.inr ⟨_, rfl, rfl, by simp only [put_mod_two]⟩)
theorem vabsI32 : ∀ x0 x1 x2 x3, Statement (.vabsI32 x0 x1 x2 x3) := fun _ _ _ _ => .inr (.inr ⟨_, rfl, rfl, by simp only [put_mod_two]⟩)
theorem vpopc : ∀ x0 x1 x2 x3, Statement (.vpopc x0 x1 x2 x3) := fun _ _ _ _ => .inr (.inr ⟨_, rfl, rfl, by simp only [put_mod_two]⟩)
theorem vclz : ∀ x0 x1 x2 x3, Statement (.vclz x0 x1 x2 x3) := fun _ _ _ _ => .inr (.inr ⟨_, rfl, rfl, by simp only [put_mod_two]⟩)
theorem laneid : ∀ x0 x1 x2, Statement (.laneid x0 x1 x2) := fun _ _ _ => .inr (.inr ⟨_, rfl, rfl, by simp only [put_mod_two]⟩)
theorem vfclass : ∀ x0 x1 x2 x3, Statement (.vfclass x0 x1 x2 x3) := fun _ _ _ _ => .inr (.inr ⟨_, rfl, rfl, by simp only [put_mod_two]⟩)
theorem vfkey : ∀ x0 x1 x2 x3 x4, Statement (.vfkey x0 x1 x2 x3 x4) := fun _ _ _ _ _ => .inr (.inr ⟨_, rfl, rfl, by simp only [put_mod_two]⟩)
theorem vfrcp : ∀ x0 x1 x2 x3, Statement (.vfrcp x0 x1 x2 x3) := fun _ _ _ _ => .inr (.inr ⟨_, rfl, rfl, by simp only [put_mod_two]⟩)
theorem vfrsq : ∀ x0 x1 x2 x3, Statement (.vfrsq x0 x1 x2 x3) := fun _ _ _ _ => .inr (.inr ⟨_, rfl, rfl, by simp only [put_mod_two]⟩)
theorem vfex2 : ∀ x0 x1 x2 x3, Statement (.vfex2 x0 x1 x2 x3) := fun _ _ _ _ => .inr (.inr ⟨_, rfl, rfl, by simp only [put_mod_two]⟩)
theorem vfexp : ∀ x0 x1 x2 x3, Statement (.vfexp x0 x1 x2 x3) := fun _ _ _ _ => .inr (.inr ⟨_, rfl, rfl, by simp only [put_mod_two]⟩)
theorem vflg2 : ∀ x0 x1 x2 x3, Statement (.vflg2 x0 x1 x2 x3) := fun _ _ _ _ => .inr (.inr ⟨_, rfl, rfl, by simp only [put_mod_two]⟩)
theorem vfsin : ∀ x0 x1 x2 x3, Statement (.vfsin x0 x1 x2 x3) := fun _ _ _ _ => .inr (.inr ⟨_, rfl, rfl, by simp only [put_mod_two]⟩)
theorem vfcos : ∀ x0 x1 x2 x3, Statement (.vfcos x0 x1 x2 x3) := fun _ _ _ _ => .inr (.inr ⟨_, rfl, rfl, by simp only [put_mod_two]⟩)
theorem vabsF32 : ∀ x0 x1 x2 x3, Statement (.vabsF32 x0 x1 x2 x3) := fun _ _ _ _ => .inr (.inr ⟨_, rfl, rfl, by simp only [put_mod_two]⟩)
theorem vfcvt : ∀ x0 x1 x2 x3 x4, Statement (.vfcvt x0 x1 x2 x3 x4) := fun _ _ _ _ _ => .inr (.inr ⟨_, rfl, rfl, by simp only [put_mod_two]⟩)
theorem vxcvt : ∀ x0 x1 x2 x3 x4, Statement (.vxcvt x0 x1 x2 x3 x4) := fun _ _ _ _ _ => .inr (.inr ⟨_, rfl, rfl, by simp only [put_mod_two]⟩)
theorem vfadd : ∀ x0 x1 x2 x3 x4, Statement (.vfadd x0 x1 x2 x3 x4) := fun _ _ _ _ _ => .inr (.inr ⟨_, rfl, rfl, by simp only [put_mod_two]⟩)
theorem vfsub : ∀ x0 x1 x2 x3 x4, Statement (.vfsub x0 x1 x2 x3 x4) := fun _ _ _ _ _ => .inr (.inr ⟨_, rfl, rfl, by simp only [put_mod_two]⟩)
theorem vfmul : ∀ x0 x1 x2 x3 x4, Statement (.vfmul x0 x1 x2 x3 x4) := fun _ _ _ _ _ => .inr (.inr ⟨_, rfl, rfl, by simp only [put_mod_two]⟩)
theorem vffma : ∀ x0 x1 x2 x3 x4, Statement (.vffma x0 x1 x2 x3 x4) := fun _ _ _ _ _ => .inr (.inr ⟨_, rfl, rfl, by simp only [put_mod_two]⟩)
theorem vfmin : ∀ x0 x1 x2 x3 x4, Statement (.vfmin x0 x1 x2 x3 x4) := fun _ _ _ _ _ => .inr (.inr ⟨_, rfl, rfl, by simp only [put_mod_two]⟩)
theorem vfmax : ∀ x0 x1 x2 x3 x4, Statement (.vfmax x0 x1 x2 x3 x4) := fun _ _ _ _ _ => .inr (.inr ⟨_, rfl, rfl, by simp only [put_mod_two]⟩)
theorem vfcmp : ∀ x0 x1 x2 x3 x4 x5, Statement (.vfcmp x0 x1 x2 x3 x4 x5) := fun _ _ _ _ _ _ => .inr (.inr ⟨_, rfl, rfl, by simp only [put_mod_two]⟩)
theorem vhfma : ∀ x0 x1 x2 x3 x4, Statement (.vhfma x0 x1 x2 x3 x4) := fun _ _ _ _ _ => .inr (.inr ⟨_, rfl, rfl, by simp only [put_mod_two]⟩)
theorem vfaddDirected : ∀ x0 x1 x2 x3 x4 x5, Statement (.vfaddDirected x0 x1 x2 x3 x4 x5) := fun _ _ _ _ _ _ => .inr (.inr ⟨_, rfl, rfl, by simp only [put_mod_two]⟩)
theorem vfsubDirected : ∀ x0 x1 x2 x3 x4 x5, Statement (.vfsubDirected x0 x1 x2 x3 x4 x5) := fun _ _ _ _ _ _ => .inr (.inr ⟨_, rfl, rfl, by simp only [put_mod_two]⟩)
theorem vfmulDirected : ∀ x0 x1 x2 x3 x4 x5, Statement (.vfmulDirected x0 x1 x2 x3 x4 x5) := fun _ _ _ _ _ _ => .inr (.inr ⟨_, rfl, rfl, by simp only [put_mod_two]⟩)
theorem vffmaDirected : ∀ x0 x1 x2 x3 x4 x5, Statement (.vffmaDirected x0 x1 x2 x3 x4 x5) := fun _ _ _ _ _ _ => .inr (.inr ⟨_, rfl, rfl, by simp only [put_mod_two]⟩)
theorem vshfl : ∀ x0 x1 x2 x3 x4, Statement (.vshfl x0 x1 x2 x3 x4) := fun _ _ _ _ _ => .inr (.inr ⟨_, rfl, rfl, by simp only [put_mod_two]⟩)
theorem vshfx : ∀ x0 x1 x2 x3 x4, Statement (.vshfx x0 x1 x2 x3 x4) := fun _ _ _ _ _ => .inr (.inr ⟨_, rfl, rfl, by simp only [put_mod_two]⟩)
theorem vshfr : ∀ x0 x1 x2 x3 x4, Statement (.vshfr x0 x1 x2 x3 x4) := fun _ _ _ _ _ => .inr (.inr ⟨_, rfl, rfl, by simp only [put_mod_two]⟩)
theorem vballot : ∀ x0 x1 x2 x3 x4, Statement (.vballot x0 x1 x2 x3 x4) := fun _ _ _ _ _ => .inr (.inr ⟨_, rfl, rfl, by simp only [put_mod_two]⟩)
theorem vvote : ∀ x0 x1 x2 x3 x4, Statement (.vvote x0 x1 x2 x3 x4) := fun _ _ _ _ _ => .inr (.inr ⟨_, rfl, rfl, by simp only [put_mod_two]⟩)
theorem vlred : ∀ x0 x1 x2 x3 x4 x5, Statement (.vlred x0 x1 x2 x3 x4 x5) := fun _ _ _ _ _ _ => .inr (.inr ⟨_, rfl, rfl, by simp only [put_mod_two]⟩)
theorem vscan : ∀ x0 x1 x2 x3 x4 x5, Statement (.vscan x0 x1 x2 x3 x4 x5) := fun _ _ _ _ _ _ => .inr (.inr ⟨_, rfl, rfl, by simp only [put_mod_two]⟩)
theorem vrdlane : ∀ x0 x1 x2 x3, Statement (.vrdlane x0 x1 x2 x3) := fun _ _ _ _ => .inr (.inr ⟨_, rfl, rfl, by simp only [put_mod_two]⟩)
theorem vwrlane : ∀ x0 x1 x2 x3, Statement (.vwrlane x0 x1 x2 x3) := fun _ _ _ _ => .inr (.inr ⟨_, rfl, rfl, by simp only [put_mod_two]⟩)
theorem mset : ∀ x0 x1 x2, Statement (.mset x0 x1 x2) := fun _ _ _ => .inr (.inr ⟨_, rfl, rfl, by simp only [put_mod_two]⟩)
theorem mget : ∀ x0 x1 x2, Statement (.mget x0 x1 x2) := fun _ _ _ => .inr (.inr ⟨_, rfl, rfl, by simp only [put_mod_two]⟩)
theorem mlog : ∀ x0 x1 x2 x3 x4, Statement (.mlog x0 x1 x2 x3 x4) := fun _ _ _ _ _ => .inr (.inr ⟨_, rfl, rfl, by simp only [put_mod_two]⟩)
theorem mpopc : ∀ x0 x1 x2, Statement (.mpopc x0 x1 x2) := fun _ _ _ => .inr (.inr ⟨_, rfl, rfl, by simp only [put_mod_two]⟩)
theorem vmov16 : ∀ x0 x1, Statement (.vmov16 x0 x1) := fun _ _ => .inr (.inl ⟨_, rfl, rfl, by simp only [put_mod_two]⟩)
theorem viadd16 : ∀ x0 x1, Statement (.viadd16 x0 x1) := fun _ _ => .inr (.inl ⟨_, rfl, rfl, by simp only [put_mod_two]⟩)
theorem visub16 : ∀ x0 x1, Statement (.visub16 x0 x1) := fun _ _ => .inr (.inl ⟨_, rfl, rfl, by simp only [put_mod_two]⟩)
theorem vimul16 : ∀ x0 x1, Statement (.vimul16 x0 x1) := fun _ _ => .inr (.inl ⟨_, rfl, rfl, by simp only [put_mod_two]⟩)
theorem vand16 : ∀ x0 x1, Statement (.vand16 x0 x1) := fun _ _ => .inr (.inl ⟨_, rfl, rfl, by simp only [put_mod_two]⟩)
theorem vor16 : ∀ x0 x1, Statement (.vor16 x0 x1) := fun _ _ => .inr (.inl ⟨_, rfl, rfl, by simp only [put_mod_two]⟩)
theorem vxor16 : ∀ x0 x1, Statement (.vxor16 x0 x1) := fun _ _ => .inr (.inl ⟨_, rfl, rfl, by simp only [put_mod_two]⟩)
theorem vshl16 : ∀ x0 x1, Statement (.vshl16 x0 x1) := fun _ _ => .inr (.inl ⟨_, rfl, rfl, by simp only [put_mod_two]⟩)
theorem vshr16 : ∀ x0 x1, Statement (.vshr16 x0 x1) := fun _ _ => .inr (.inl ⟨_, rfl, rfl, by simp only [put_mod_two]⟩)
theorem vsar16 : ∀ x0 x1, Statement (.vsar16 x0 x1) := fun _ _ => .inr (.inl ⟨_, rfl, rfl, by simp only [put_mod_two]⟩)
theorem vfadd16 : ∀ x0 x1, Statement (.vfadd16 x0 x1) := fun _ _ => .inr (.inl ⟨_, rfl, rfl, by simp only [put_mod_two]⟩)
theorem vfsub16 : ∀ x0 x1, Statement (.vfsub16 x0 x1) := fun _ _ => .inr (.inl ⟨_, rfl, rfl, by simp only [put_mod_two]⟩)
theorem vfmul16 : ∀ x0 x1, Statement (.vfmul16 x0 x1) := fun _ _ => .inr (.inl ⟨_, rfl, rfl, by simp only [put_mod_two]⟩)
theorem vfmax16 : ∀ x0 x1, Statement (.vfmax16 x0 x1) := fun _ _ => .inr (.inl ⟨_, rfl, rfl, by simp only [put_mod_two]⟩)
theorem vfmin16 : ∀ x0 x1, Statement (.vfmin16 x0 x1) := fun _ _ => .inr (.inl ⟨_, rfl, rfl, by simp only [put_mod_two]⟩)
theorem vxadd16 : ∀ x0 x1, Statement (.vxadd16 x0 x1) := fun _ _ => .inr (.inl ⟨_, rfl, rfl, by simp only [put_mod_two]⟩)
theorem coldReset : Statement .coldReset := .inl ⟨rfl, rfl⟩
theorem rstctlWarm : ∀ x0 x1, Statement (.rstctlWarm x0 x1) := fun _ _ => .inl ⟨rfl, rfl⟩
theorem firmwareWarmReset : Statement .firmwareWarmReset := .inl ⟨rfl, rfl⟩
theorem portReset : ∀ x0, Statement (.portReset x0) := fun _ => .inl ⟨rfl, rfl⟩
theorem functionLevelReset : ∀ x0, Statement (.functionLevelReset x0) := fun _ => .inl ⟨rfl, rfl⟩
theorem bootRomStart : ∀ x0, Statement (.bootRomStart x0) := fun _ => .inl ⟨rfl, rfl⟩
theorem bootLinkUp : Statement .bootLinkUp := .inl ⟨rfl, rfl⟩
theorem bootLinkTimeout : Statement .bootLinkTimeout := .inl ⟨rfl, rfl⟩
theorem bootDhcpReply : ∀ x0, Statement (.bootDhcpReply x0) := fun _ => .inl ⟨rfl, rfl⟩
theorem bootDhcpTimeout : Statement .bootDhcpTimeout := .inl ⟨rfl, rfl⟩
theorem bootTftpData : ∀ x0 x1 x2, Statement (.bootTftpData x0 x1 x2) := fun _ _ _ => .inl ⟨rfl, rfl⟩
theorem bootTftpError : Statement .bootTftpError := .inl ⟨rfl, rfl⟩
theorem bootRetryWaitExpiry : Statement .bootRetryWaitExpiry := .inl ⟨rfl, rfl⟩
theorem firmwareReady : ∀ x0, Statement (.firmwareReady x0) := fun _ => .inl ⟨rfl, rfl⟩
theorem thermalThrottle : ∀ x0, Statement (.thermalThrottle x0) := fun _ => .inl ⟨rfl, rfl⟩
theorem thermalTrip : Statement .thermalTrip := .inl ⟨rfl, rfl⟩
theorem powerSample : ∀ x0, Statement (.powerSample x0) := fun _ => .inl ⟨rfl, rfl⟩
theorem powerStepDown : Statement .powerStepDown := .inl ⟨rfl, rfl⟩
theorem powerClockGate : ∀ x0, Statement (.powerClockGate x0) := fun _ => .inl ⟨rfl, rfl⟩
theorem operatingPointChange : ∀ x0 x1, Statement (.operatingPointChange x0 x1) := fun _ _ => .inl ⟨rfl, rfl⟩
theorem islandOff : ∀ x0, Statement (.islandOff x0) := fun _ => .inl ⟨rfl, rfl⟩
theorem islandWake : ∀ x0, Statement (.islandWake x0) := fun _ => .inl ⟨rfl, rfl⟩
theorem islandActive : ∀ x0, Statement (.islandActive x0) := fun _ => .inl ⟨rfl, rfl⟩
theorem semRead : ∀ x0 x1 x2, Statement (.semRead x0 x1 x2) := fun _ _ _ => .inl ⟨rfl, rfl⟩
theorem semWrite : ∀ x0 x1 x2, Statement (.semWrite x0 x1 x2) := fun _ _ _ => .inl ⟨rfl, rfl⟩
theorem errstatClear : ∀ x0 x1, Statement (.errstatClear x0 x1) := fun _ _ => .inl ⟨rfl, rfl⟩
theorem registerWrite : ∀ x0 x1 x2 x3, Statement (.registerWrite x0 x1 x2 x3) := fun _ _ _ _ => .inl ⟨rfl, rfl⟩
theorem correctedError : ∀ x0 x1, Statement (.correctedError x0 x1) := fun _ _ => .inl ⟨rfl, rfl⟩
theorem uncorrectableError : ∀ x0 x1, Statement (.uncorrectableError x0 x1) := fun _ _ => .inl ⟨rfl, rfl⟩
theorem patrolScrub : ∀ x0 x1, Statement (.patrolScrub x0 x1) := fun _ _ => .inl ⟨rfl, rfl⟩
theorem spanRelaunch : ∀ x0, Statement (.spanRelaunch x0) := fun _ => .inl ⟨rfl, rfl⟩
theorem trapDelivery : ∀ x0, Statement (.trapDelivery x0) := fun _ => .inl ⟨rfl, rfl⟩
theorem instructionReplay : ∀ x0, Statement (.instructionReplay x0) := fun _ => .inl ⟨rfl, rfl⟩
theorem faultTimeout : ∀ x0 x1, Statement (.faultTimeout x0 x1) := fun _ _ => .inl ⟨rfl, rfl⟩
theorem sleepExpiry : ∀ x0, Statement (.sleepExpiry x0) := fun _ => .inl ⟨rfl, rfl⟩
theorem cpwaitPromiseExpiry : ∀ x0, Statement (.cpwaitPromiseExpiry x0) := fun _ => .inl ⟨rfl, rfl⟩
theorem sliceEnd : ∀ x0 x1, Statement (.sliceEnd x0 x1) := fun _ _ => .inl ⟨rfl, rfl⟩
theorem preemptionTimeout : ∀ x0, Statement (.preemptionTimeout x0) := fun _ => .inl ⟨rfl, rfl⟩
theorem priorityAging : ∀ x0 x1, Statement (.priorityAging x0 x1) := fun _ _ => .inl ⟨rfl, rfl⟩
theorem bindDispatch : ∀ x0 x1, Statement (.bindDispatch x0 x1) := fun _ _ => .inl ⟨rfl, rfl⟩
theorem graphFlushTimeout : ∀ x0 x1, Statement (.graphFlushTimeout x0 x1) := fun _ _ => .inl ⟨rfl, rfl⟩
theorem scrubComplete : ∀ x0, Statement (.scrubComplete x0) := fun _ => .inl ⟨rfl, rfl⟩
theorem queue0Notify : ∀ x0 x1, Statement (.queue0Notify x0 x1) := fun _ _ => .inl ⟨rfl, rfl⟩
theorem queue1Notify : ∀ x0 x1, Statement (.queue1Notify x0 x1) := fun _ _ => .inl ⟨rfl, rfl⟩
theorem ctxOpen : ∀ x0 x1 x2 x3 x4 x5 x6, Statement (.ctxOpen x0 x1 x2 x3 x4 x5 x6) := fun _ _ _ _ _ _ _ => .inl ⟨rfl, rfl⟩
theorem ctxClose : ∀ x0 x1 x2, Statement (.ctxClose x0 x1 x2) := fun _ _ _ => .inl ⟨rfl, rfl⟩
theorem invalidate : ∀ x0 x1 x2 x3 x4, Statement (.invalidate x0 x1 x2 x3 x4) := fun _ _ _ _ _ => .inl ⟨rfl, rfl⟩
theorem launch : ∀ x0 x1 x2 x3, Statement (.launch x0 x1 x2 x3) := fun _ _ _ _ => .inl ⟨rfl, rfl⟩
theorem node : ∀ x0 x1 x2 x3 x4, Statement (.node x0 x1 x2 x3 x4) := fun _ _ _ _ _ => .inl ⟨rfl, rfl⟩
theorem records : ∀ x0 x1 x2 x3 x4 x5, Statement (.records x0 x1 x2 x3 x4 x5) := fun _ _ _ _ _ _ => .inl ⟨rfl, rfl⟩
theorem pause : ∀ x0 x1 x2, Statement (.pause x0 x1 x2) := fun _ _ _ => .inl ⟨rfl, rfl⟩
theorem resume : ∀ x0 x1 x2 x3, Statement (.resume x0 x1 x2 x3) := fun _ _ _ _ => .inl ⟨rfl, rfl⟩
theorem faultReply : ∀ x0 x1 x2 x3 x4, Statement (.faultReply x0 x1 x2 x3 x4) := fun _ _ _ _ _ => .inl ⟨rfl, rfl⟩
theorem domainRelease : ∀ x0 x1 x2 x3, Statement (.domainRelease x0 x1 x2 x3) := fun _ _ _ _ => .inl ⟨rfl, rfl⟩
theorem txwin : ∀ x0 x1 x2 x3 x4, Statement (.txwin x0 x1 x2 x3 x4) := fun _ _ _ _ _ => .inl ⟨rfl, rfl⟩
theorem rat : ∀ x0 x1 x2 x3 x4, Statement (.rat x0 x1 x2 x3 x4) := fun _ _ _ _ _ => .inl ⟨rfl, rfl⟩
theorem flow : ∀ x0 x1 x2 x3 x4, Statement (.flow x0 x1 x2 x3 x4) := fun _ _ _ _ _ => .inl ⟨rfl, rfl⟩
theorem cellRepair : ∀ x0 x1 x2 x3 x4, Statement (.cellRepair x0 x1 x2 x3 x4) := fun _ _ _ _ _ => .inl ⟨rfl, rfl⟩
theorem monitor : ∀ x0 x1 x2 x3 x4, Statement (.monitor x0 x1 x2 x3 x4) := fun _ _ _ _ _ => .inl ⟨rfl, rfl⟩
theorem logRead : ∀ x0 x1 x2 x3 x4 x5, Statement (.logRead x0 x1 x2 x3 x4 x5) := fun _ _ _ _ _ _ => .inl ⟨rfl, rfl⟩
theorem keyLoad : ∀ x0 x1 x2 x3 x4, Statement (.keyLoad x0 x1 x2 x3 x4) := fun _ _ _ _ _ => .inl ⟨rfl, rfl⟩
theorem keyClear : ∀ x0 x1 x2 x3, Statement (.keyClear x0 x1 x2 x3) := fun _ _ _ _ => .inl ⟨rfl, rfl⟩
theorem timeMode : ∀ x0 x1 x2 x3, Statement (.timeMode x0 x1 x2 x3) := fun _ _ _ _ => .inl ⟨rfl, rfl⟩
theorem partAssign : ∀ x0 x1 x2 x3 x4 x5 x6 x7 x8, Statement (.partAssign x0 x1 x2 x3 x4 x5 x6 x7 x8) := fun _ _ _ _ _ _ _ _ _ => .inl ⟨rfl, rfl⟩
theorem partRelease : ∀ x0 x1 x2, Statement (.partRelease x0 x1 x2) := fun _ _ _ => .inl ⟨rfl, rfl⟩
theorem domainForm : ∀ x0 x1 x2 x3, Statement (.domainForm x0 x1 x2 x3) := fun _ _ _ _ => .inl ⟨rfl, rfl⟩
theorem retire : ∀ x0 x1 x2 x3, Statement (.retire x0 x1 x2 x3) := fun _ _ _ _ => .inl ⟨rfl, rfl⟩
theorem monitorPeriodic : ∀ x0 x1, Statement (.monitorPeriodic x0 x1) := fun _ _ => .inl ⟨rfl, rfl⟩
theorem levelSample : ∀ x0 x1 x2, Statement (.levelSample x0 x1 x2) := fun _ _ _ => .inl ⟨rfl, rfl⟩
theorem fabricLinkDown : ∀ x0, Statement (.fabricLinkDown x0) := fun _ => .inl ⟨rfl, rfl⟩
theorem fabricLinkRestore : ∀ x0, Statement (.fabricLinkRestore x0) := fun _ => .inl ⟨rfl, rfl⟩
theorem fabricFlitReceive : ∀ x0 x1 x2 x3, Statement (.fabricFlitReceive x0 x1 x2 x3) := fun _ _ _ _ => .inl ⟨rfl, rfl⟩
theorem reflectedStoreArrive : ∀ x0, Statement (.reflectedStoreArrive x0) := fun _ => .inl ⟨rfl, rfl⟩
theorem remoteAtomic : ∀ x0 x1 x2, Statement (.remoteAtomic x0 x1 x2) := fun _ _ _ => .inl ⟨rfl, rfl⟩
theorem ratomReply : ∀ x0, Statement (.ratomReply x0) := fun _ => .inl ⟨rfl, rfl⟩
theorem xferRecordApply : ∀ x0, Statement (.xferRecordApply x0) := fun _ => .inl ⟨rfl, rfl⟩
theorem xferRecordAck : ∀ x0, Statement (.xferRecordAck x0) := fun _ => .inl ⟨rfl, rfl⟩
theorem xferRecordRefusal : ∀ x0, Statement (.xferRecordRefusal x0) := fun _ => .inl ⟨rfl, rfl⟩
theorem fabricAckReceive : ∀ x0 x1 x2 x3, Statement (.fabricAckReceive x0 x1 x2 x3) := fun _ _ _ _ => .inl ⟨rfl, rfl⟩
theorem fabricRetransmitTimeout : ∀ x0 x1, Statement (.fabricRetransmitTimeout x0 x1) := fun _ _ => .inl ⟨rfl, rfl⟩
theorem fabricPathFailed : ∀ x0, Statement (.fabricPathFailed x0) := fun _ => .inl ⟨rfl, rfl⟩
theorem pathFaultServiced : ∀ x0 x1, Statement (.pathFaultServiced x0 x1) := fun _ _ => .inl ⟨rfl, rfl⟩
theorem combiningBufferDrain : ∀ x0 x1, Statement (.combiningBufferDrain x0 x1) := fun _ _ => .inl ⟨rfl, rfl⟩
theorem networkPacketReceive : ∀ x0 x1, Statement (.networkPacketReceive x0 x1) := fun _ _ => .inl ⟨rfl, rfl⟩
theorem networkAckReceive : ∀ x0 x1 x2 x3 x4, Statement (.networkAckReceive x0 x1 x2 x3 x4) := fun _ _ _ _ _ => .inl ⟨rfl, rfl⟩
theorem networkRetransmitTimeout : ∀ x0 x1 x2, Statement (.networkRetransmitTimeout x0 x1 x2) := fun _ _ _ => .inl ⟨rfl, rfl⟩
theorem networkFlowSilent : ∀ x0 x1, Statement (.networkFlowSilent x0 x1) := fun _ _ => .inl ⟨rfl, rfl⟩
theorem neighbourDiscovery : Statement .neighbourDiscovery := .inl ⟨rfl, rfl⟩
theorem engineCommandStart : ∀ x0 x1, Statement (.engineCommandStart x0 x1) := fun _ _ => .inl ⟨rfl, rfl⟩
theorem engineCommandComplete : ∀ x0 x1, Statement (.engineCommandComplete x0 x1) := fun _ _ => .inl ⟨rfl, rfl⟩
theorem matrixStepStart : ∀ x0, Statement (.matrixStepStart x0) := fun _ => .inl ⟨rfl, rfl⟩
theorem matrixStepRound : ∀ x0, Statement (.matrixStepRound x0) := fun _ => .inl ⟨rfl, rfl⟩
theorem networkAckTimer : ∀ x0 x1, Statement (.networkAckTimer x0 x1) := fun _ _ => .inl ⟨rfl, rfl⟩
theorem uplinkDown : ∀ x0, Statement (.uplinkDown x0) := fun _ => .inl ⟨rfl, rfl⟩
theorem uplinkUp : ∀ x0, Statement (.uplinkUp x0) := fun _ => .inl ⟨rfl, rfl⟩
theorem hostLinkUp : ∀ x0, Statement (.hostLinkUp x0) := fun _ => .inl ⟨rfl, rfl⟩
theorem virtioCommonConfigWrite : ∀ x0 x1 x2 x3, Statement (.virtioCommonConfigWrite x0 x1 x2 x3) := fun _ _ _ _ => .inl ⟨rfl, rfl⟩

end Sys2Proof.Laws.Sized
end

