-- ==== Sys2Proof/Laws/Walks.lean ====
section
/-!
SUPPORT. What the bank array holds has no part in translation and permission (R143, R145, R155): the walks that an access makes
change the bank array alone, and no access comes out otherwise for them.
-/

namespace Sys2Proof.Machine

open Sys2Proof

/-- The walks of an access change the bank array and nothing else. -/
theorem touchWalks_eq (s : State) (part ctx : Nat) (vas : List Nat) :
    touchWalks s part ctx vas = { s with array := (touchWalks s part ctx vas).array } := rfl

theorem walkFrom_array (s : State) (x : Tab ArrayLine) (va : Nat) :
    ∀ level table, walkFrom { s with array := x } va level table = walkFrom s va level table := by
  intro level
  induction level with
  | zero => intro table; rfl
  | succ n ih => intro table; unfold walkFrom; simp only [ih]; rfl

theorem translate_array (s : State) (x : Tab ArrayLine) (part ctx va : Nat) :
    translate { s with array := x } part ctx va = translate s part ctx va := by
  unfold translate walk
  simp only [walkFrom_array]; rfl

theorem permitted_array (s : State) (x : Tab ArrayLine) (part ctx : Nat) (kind : AccessKind) (va n : Nat) :
    permitted { s with array := x } part ctx kind va n = permitted s part ctx kind va n := by
  unfold permitted
  rw [translate_array]; rfl

@[simp] theorem translate_touchWalks (s : State) (p c : Nat) (vas : List Nat) (part ctx va : Nat) :
    translate (touchWalks s p c vas) part ctx va = translate s part ctx va := by
  rw [touchWalks_eq, translate_array]

@[simp] theorem permitted_touchWalks (s : State) (p c : Nat) (vas : List Nat) (part ctx : Nat) (kind : AccessKind) (va n : Nat) :
    permitted (touchWalks s p c vas) part ctx kind va n = permitted s part ctx kind va n := by
  rw [touchWalks_eq, permitted_array]

@[simp] theorem access_touchWalks (s : State) (p c : Nat) (vas : List Nat) (part ctx : Nat) (kind : AccessKind) (va n : Nat) :
    access (touchWalks s p c vas) part ctx kind va n = access s part ctx kind va n := by
  simp only [access, permitted_touchWalks]

end Sys2Proof.Machine
end

