-- ==== Sys2Proof/Laws/Traps.lean ====
section
/-!
SUPPORT. What taking a trap, meeting a cause and making a memory request can answer.
-/

namespace Sys2Proof.Machine

open Sys2Proof

/-- Delivering a trap where the frame can be stored to goes on (R302, R303). -/
theorem deliver_ok {t : Trap} {s : State} {l : Leaf}
    (h : access s s.wave.span.part s.wave.span.ctx .store s.wave.trapframe.toNat 1024 = .ok l) :
    ∃ u, deliver t s = .next u := by
  unfold deliver
  dsimp only
  split
  · exact ⟨_, rfl⟩
  · simp only [access_touchWalks, h]
    split <;> exact ⟨_, rfl⟩

/-- Delivering a trap goes on, unless its frame lies on device registers (R140, R302). -/
theorem deliver_cases (t : Trap) (s : State) :
    (∃ u, deliver t s = .next u) ∨ ∃ pa, deliver t s = .fault (.deviceRegister pa) := by
  unfold deliver
  dsimp only
  split
  · exact .inl ⟨_, rfl⟩
  · split
    · exact .inr ⟨_, rfl⟩
    · exact .inl ⟨_, rfl⟩
    · exact .inl ⟨_, rfl⟩
    · split <;> exact .inl ⟨_, rfl⟩

/-- Raising a trap kills at supervisor level, waits behind page-fault service, or delivers (R288, R302, R337). -/
theorem raise_cases (t : Trap) (s : State) :
    (∃ u, raise t s = .next u) ∨ ∃ pa, raise t s = .fault (.deviceRegister pa) := by
  unfold raise
  dsimp only
  split
  · exact .inl ⟨_, rfl⟩
  · split
    · exact .inl ⟨_, rfl⟩
    · exact deliver_cases _ _

/-- A trap raised behind an instruction in page-fault service only waits (R337). -/
theorem raise_waits {t : Trap} {s : State} (hl : (s.wave.unfuse t).1.level ≠ .supervisor)
    (hs : (s.wave.unfuse t).1.service.isSome = true) :
    raise t s = .next { s with wave := { (s.wave.unfuse t).1 with trap := some (s.wave.unfuse t).2 } } := by
  simp [raise, hl, hs]

/-- A resolvable cause: what follows goes on with the log in the wave, or the request is declined at once (R156, R248). -/
theorem serve_cases {i : Instr} {req : MemReq} {mask : Word64} {c : LaneCause} {after : State → Result} {s : State}
    (h : ∀ t, (∃ u, after t = .next u) ∨ ∃ pa, after t = .fault (.deviceRegister pa)) :
    (∃ u, serve i req mask c after s = .next u) ∨ ∃ pa, serve i req mask c after s = .fault (.deviceRegister pa) := by
  unfold serve
  dsimp only
  split
  · exact h _
  · exact raise_cases _ _

/-- Taking an attempt to its outcome goes on, unless it meets a device register, where what follows it goes on (R155, R156). -/
theorem conclude_cases {i : Instr} {req : MemReq} {mask : Word64} {after : State → Result} {a : Attempt} {s : State}
    (h : ∀ t, (∃ u, after t = .next u) ∨ ∃ pa, after t = .fault (.deviceRegister pa)) :
    (∃ u, conclude i req mask after a s = .next u) ∨ ∃ pa, conclude i req mask after a s = .fault (.deviceRegister pa) := by
  cases a with
  | performed t => exact h t
  | stopped c =>
    simp only [conclude, meet]
    split
    · exact .inr ⟨_, rfl⟩
    · exact .inl ⟨_, rfl⟩
    · exact serve_cases h
    · exact serve_cases h
    · exact raise_cases _ _
  | poisoned pa lanes => exact .inl ⟨_, rfl⟩
  | spoilt lanes => exact .inl ⟨_, rfl⟩
  | refused t => exact raise_cases _ _

end Sys2Proof.Machine
end

