-- ==== Sys2Proof/Machine/Window.lean ====
section
/-!
DEFINITION. What a host reads: the host control window, the receipt store, and the spaces of a port's physical function and of a
virtual function (R17 to R25, R32, R246, R247, R265 to R269, R282). Reads of SEMn take effect by SEM_READ.
-/

namespace Sys2Proof.Machine

open Sys2Proof

/-! ### The host control window (R19, R25, R32, R265 to R267) -/

/-- BOOTSTAT (R25): STAGE in [7:0], ERR in [15:8], PORT in [23:20], ATTEMPT in [31:24]. -/
def bootstat (b : Boot) : Word64 :=
  BitVec.ofNat 64 (b.stage % 256 + b.err % 256 * 2 ^ 8 + b.port % 16 * 2 ^ 20 + min 255 b.attempt * 2 ^ 24)

/-- ERRSTAT of a bank (R266). -/
def Bank.errstat (b : Bank) : Word64 :=
  let bit (x : Bool) (n : Nat) : Nat := if x then 2 ^ n else 0
  BitVec.ofNat 64 (bit b.valid 63 + bit b.uc 62 + bit b.ovf 61 + b.kind % 256 * 2 ^ 48 + min 255 b.uecnt * 2 ^ 40 +
    min 65535 b.cecnt * 2 ^ 24)

/-- ERRLOC (R267). -/
def errlocWord (l : ErrLoc) : Word64 :=
  BitVec.ofNat 64 (l.core % 2 ^ 9 + l.quad % 4 * 2 ^ 9 + l.lane % 64 * 2 ^ 11 + l.unit % 32 * 2 ^ 17 + l.part % 32 * 2 ^ 32 +
    l.ctx % 16 * 2 ^ 37)

/-- A register of an error bank by its offset (R265 to R267). -/
def Bank.register (b : Bank) (offset : Nat) : Word64 :=
  match offset with
  | 0x00 => b.errstat
  | 0x08 => BitVec.ofNat 64 b.addr
  | 0x10 => errlocWord b.loc
  | 0x18 => BitVec.ofNat 64 b.cyc
  | 0x20 => b.lanes
  | _ => 0

/-- What a read of the host control window through a port returns (R19). DEVID, BOOTSTAT, RSTCTL, PORTID and the semaphore block are
there at every stage; before STAGE 0x08 any other address reads as ones, and from then on one that no rule assigns reads as 0. SEMn
returns what SEM_READ then stores of it (R21). -/
def windowRead (s : State) (port offset : Nat) : Word64 :=
  if offset = 0x0000 then 0x01570001#64
  else if offset = 0x0008 then bootstat s.boot
  else if offset = 0x0010 then 0
  else if offset = 0x0018 then BitVec.ofNat 64 port
  else if 0x1000 ≤ offset ∧ offset < 0x1040 ∧ offset % 4 = 0 then
    (semAcquire (if port = 0 then .port0 else .port1) (sget s.host.sem ((offset - 0x1000) / 4))).2.setWidth 64
  else if 0x1040 ≤ offset ∧ offset < 0x1080 ∧ offset % 4 = 0 then (sget s.host.sem ((offset - 0x1040) / 4)).setWidth 64
  else if offset = 0x1080 then s.host.semerr.setWidth 64
  else if s.boot.stage < 8 then 0xFFFFFFFF#64
  else if 0x2000 ≤ offset ∧ offset < 0x2000 + 0x40 * 22 then
    (tgetD s.banks ((offset - 0x2000) / 0x40) Bank.empty).register ((offset - 0x2000) % 0x40)
  else 0

/-! ### The receipt store (R282) -/

/-- A byte of the receipt store, as BAR2 maps it: the two public keys of the device attestation key, and from 0x1000 on the ring of
receipts. -/
def receiptByte (s : State) (offset : Nat) : Byte :=
  if offset < 2592 then (fitBytes 2592 Config.attestMlDsa).getD offset 0
  else if offset < 0x0A20 + 96 then (fitBytes 96 Config.attestEcdsa).getD (offset - 0x0A20) 0
  else
    match s.receipts.find? (fun r => decide (r.offset ≤ offset) && decide (offset < r.offset + r.bytes.length)) with
    | some r => r.bytes.getD (offset - r.offset) 0
    | none => 0

/-! ### BAR4 and the virtual functions (R17, R223, R246, R247) -/

/-- The pending bits of an MSI-X table, from vector 64n on. -/
def Msix.pendingWord (m : Msix) (n : Nat) : Word64 :=
  maskOf ((List.range 64).filter (fun i => (sget m.pending (64 * n + i)).getLsbD 0))

/-- What a read of BAR4 of a port's physical function returns: a word of its MSI-X table of 2,048 vectors, or a doubleword of its
pending bits (R17). -/
def bar4Read (s : State) (port offset : Nat) : Word64 :=
  let m := tgetD s.host.tables port ⟨[], []⟩
  if offset < 0x8000 then (m.word (offset / 4)).setWidth 64
  else if offset < 0x8100 then m.pendingWord ((offset - 0x8000) / 8)
  else 0

/-- The virtio device type that a virtual function reads (R246). -/
abbrev deviceType : Nat := 254

/-- What identifies a virtual function of a port's SR-IOV capability to its driver: the virtio device type, and the Device ID in
which it reads, 0x1040 more (R246; the Device ID is virtio 1.2's, PRESUMED, log 21). There are 32 of them. -/
def vfIdentity (p : Nat) : Option (Nat × Nat) := if p < 32 then some (deviceType, 0x1040 + deviceType) else none

/-- The device configuration of a virtual function: the partition, the device number, and whether the device belongs to a domain
(R223, R247). -/
def deviceConfig (s : State) (p : Nat) : List Byte :=
  [BitVec.ofNat 8 p, BitVec.ofNat 8 (s.fabric.number.getD 0), if s.fabric.number.isSome then 1 else 0] ++ List.replicate 13 0

/-- The common configuration of a virtual function (R246, R247), with the places of its fields as virtio 1.2 gives them (PRESUMED,
log 21). -/
def commonConfig (v : Virtio) : List Byte :=
  let q := v.queue v.queueSel
  let here := v.queueSel < 2
  let half (x : Word64) (sel : Nat) : Nat := if sel = 0 then field x.toNat 0 32 else if sel = 1 then field x.toNat 32 32 else 0
  leSplit 4 v.devSel ++ leSplit 4 (half offeredFeatures v.devSel) ++ leSplit 4 v.drvSel ++ leSplit 4 (half v.features v.drvSel) ++
    leSplit 2 v.vectorCfg ++ leSplit 2 2 ++ leSplit 1 v.status ++ leSplit 1 0 ++ leSplit 2 v.queueSel ++
    leSplit 2 (if here then q.size else 0) ++ leSplit 2 q.vector ++ leSplit 2 (if q.enabled then 1 else 0) ++
    leSplit 2 (if here then v.queueSel else 0) ++ leSplit 8 q.desc ++ leSplit 8 q.driver ++ leSplit 8 q.device ++ List.replicate 8 0

/-- What a read of the ISR status returns, and the function after it: the bits are cleared by their reading (R247; virtio 1.2,
log 21). -/
def isrRead (v : Virtio) : BitVec 8 × Virtio := (v.isr, { v with isr := 0 })

/-- What a read of a doubleword of a virtual function's BAR0 returns (R247). The ISR status is cleared by `isrRead`. -/
def vfRead (s : State) (p offset : Nat) : Word64 :=
  let v := (partAt s p).virtio
  let at_ (bs : List Byte) (base : Nat) : Word64 := BitVec.ofNat 64 (fieldBytes bs (offset - base) 8)
  if offset < 64 then at_ (commonConfig v) 0
  else if offset = 0x2000 then v.isr.setWidth 64
  else if 0x3000 ≤ offset ∧ offset < 0x3010 then at_ (deviceConfig s p) 0x3000
  else if 0x8000 ≤ offset ∧ offset < 0x8030 then (v.msix.word ((offset - 0x8000) / 4)).setWidth 64
  else if offset = 0xC000 then v.msix.pendingWord 0
  else 0

end Sys2Proof.Machine
end

