-- ==== Sys2Proof/Tests/Slice0.lean ====
section
/-!
SUPPORT. Tests: terms that the well-formedness checks refuse, words of the manual that decode to their instructions, values
of its worked examples, and for each statement with hypotheses a concrete state and operands that meet them.
-/

set_option Elab.async false

namespace Sys2Proof.Tests

open Sys2Proof Sys2Proof.Machine

/-! ### Ill-formed instructions (R71, R93, R99, R101 to R104, R107, R213) -/

theorem test_bcc_condition_6_is_reserved : (Instr.bcc 0 6 0 0).wellFormed = false := by decide
theorem test_if_skips_forward : (Instr.ifm 0 1 0).wellFormed = false := by decide
theorem test_else_skips_forward : (Instr.els (-1) 0).wellFormed = false := by decide
theorem test_endl_goes_back : (Instr.endl 1 0).wellFormed = false := by decide
theorem test_run_of_0 : (Instr.run 0 0).wellFormed = false := by decide
theorem test_run_of_25 : (Instr.run 25 0).wellFormed = false := by decide
theorem test_runend_designator_32 : (Instr.runend 127 32 127 0).wellFormed = false := by decide
theorem test_runend_designator_e0 : (Instr.runend 120 127 127 0).wellFormed = false := by decide
theorem test_fence_scope_6 : (Instr.fence 6 0).wellFormed = false := by decide
theorem test_vlds_element_width : (Instr.vlds 0 3 0 0 0 0).wellFormed = false := by decide
theorem test_vsts_block_4 : (Instr.vsts 0 0 4 0 0 0).wellFormed = false := by decide
theorem test_atom_into_v31 : (Instr.atom 0 0 0 0 0 0 31 0).wellFormed = false := by decide
theorem test_ftotal_kind_10 : (Instr.ftotal 10 0 0 0).wellFormed = false := by decide
theorem test_ftotal_index_of_residue : (Instr.ftotal 2 1 0 0).wellFormed = false := by decide
theorem test_posting_token_in_s31 :
    [Instr.mxloop 0 0 31 0, .cpy 0 0 31 0, .bload 0 0 31 0, .cbld 0 0 31 0, .qfence 0 0 31 0, .nwri 0 0 31 0].all
      (fun i => !i.wellFormed) = true := by decide
theorem test_cpwait_of_s31 : (Instr.cpwait 31 0).wellFormed = false := by decide
theorem test_emit_channel_32 : (Instr.emit 0 32 0 0).wellFormed = false := by decide
theorem test_mxmma_format_6 : (Instr.mxmma 6 0 0 0 0).wellFormed = false := by decide
theorem test_mxmma_fragment_at_v49 : (Instr.mxmma 0 0 49 0 0).wellFormed = false := by decide
theorem test_vicmp_into_m0 : (Instr.vicmp 0 0 0 0 0 0).wellFormed = false := by decide
theorem test_vfcmp_into_m0 : (Instr.vfcmp 0 0 0 0 0 0).wellFormed = false := by decide
theorem test_vxcvt_14 : (Instr.vxcvt 0 14 0 0 0).wellFormed = false := by decide
theorem test_directed_rounding_0 :
    [Instr.vfaddDirected 0 0 0 0 0 0, .vfsubDirected 0 0 0 0 0 0, .vfmulDirected 0 0 0 0 0 0, .vffmaDirected 0 0 0 0 0 0].all
      (fun i => !i.wellFormed) = true := by decide
theorem test_vvote_mode_3 : (Instr.vvote 0 3 0 0 0).wellFormed = false := by decide
theorem test_vlred_operation_1 : (Instr.vlred 0 1 1 0 0 0).wellFormed = false := by decide
theorem test_vscan_nmin_of_f32 : (Instr.vscan 0 0 4 0 0 0).wellFormed = false := by decide
theorem test_mset_into_m0 : (Instr.mset 0 0 0).wellFormed = false := by decide
theorem test_mlog_into_m0 : (Instr.mlog 0 0 0 0 0).wellFormed = false := by decide

/-! ### Words (the manual's listings, and words laid out from R92 to R104)

A word written as a sum is its fields at their places, STALL at bit 1 and OP at bit 4. -/

theorem test_control_words :
    decodeTableWord 32 0x00000001 = some (.nop 0) ∧ decodeTableWord 32 0x0000C861 = some (.ifm 3 1 0) ∧
    decodeTableWord 32 0x00004071 = some (.els 1 0) ∧ decodeTableWord 32 0x00000081 = some (.endif 0) ∧
    decodeTableWord 32 0x00000091 = some (.loop 0) ∧ decodeTableWord 32 0x000000A1 = some (.brk 0 0) ∧
    decodeTableWord 32 0xFFFFC0C1 = some (.endl (-1) 0) ∧ decodeTableWord 32 0x000000E1 = some (.endw 0) := by decide
theorem test_branch_words :
    decodeTableWord 32 0xFFFFF011 = some (.bra (-2) 0) ∧ decodeTableWord 32 0x00093021 = some (.bcc 1 1 6 0) ∧
    decodeTableWord 32 0x00001031 = some (.call 2 0) ∧ decodeTableWord 32 0x0000F841 = some (.ret 31 0) ∧
    decodeTableWord 32 0x00003851 = some (.jmpr 7 0) := by decide
theorem test_run_words :
    decodeTableWord 32 (1 + 0x0F * 2 ^ 4 + 24 * 2 ^ 11) = some (.run 24 0) ∧
    decodeTableWord 32 (1 + 0x10 * 2 ^ 4 + 127 * 2 ^ 11 + 64 * 2 ^ 18 + 5 * 2 ^ 25) = some (.runend 5 64 127 0) := by decide
theorem test_trap_and_signature_words :
    decodeTableWord 32 (1 + 0x14 * 2 ^ 4 + 0xBEEF * 2 ^ 16) = some (.trap 0xBEEF 0) ∧
    decodeTableWord 32 (1 + 0x16 * 2 ^ 4 + 0x12345 * 2 ^ 11) = some (.sigchk 0x12345 0) ∧
    decodeTableWord 32 (1 + 0x13 * 2 ^ 4 + 6 * 2 ^ 11) = some (.waitk 6 0) := by decide
theorem test_csr_words :
    decodeTableWord 32 0x00023171 = some (.scsr 2 6 0) ∧
    decodeTableWord 32 (1 + 0x17 * 2 ^ 4 + 4 * 2 ^ 11 + 0x031 * 2 ^ 16 + 3 * 2 ^ 28) = some (.scsc 0x031 4 0) := by decide
theorem test_scalar_words :
    decodeTableWord 32 0x35284181 = some (.snmax 9 8 8 0) ∧ decodeTableWord 32 0x03E329D1 = some (.sst 31 3 5 0) ∧
    decodeTableWord 32 0x000651C1 = some (.sld 0 6 10 0) ∧
    decodeTableWord 32 (1 + 0x18 * 2 ^ 4 + 3 * 2 ^ 11 + 2 * 2 ^ 16 + 1 * 2 ^ 21 + 0x1E * 2 ^ 26) = some (.scmp 6 1 2 3 0) := by
  decide
theorem test_ordering_words :
    decodeTableWord 32 0x000001F1 = some (.sbar 0) ∧ decodeTableWord 32 0x00000A11 = some (.fence 1 0) ∧
    decodeTableWord 32 0x00002A11 = some (.fence 5 0) ∧ decodeTableWord 32 0x000002D1 = some (.wfence 0) ∧
    decodeTableWord 32 (1 + 0x22 * 2 ^ 4 + 9 * 2 ^ 11) = some (.qlock 9 0) ∧
    decodeTableWord 32 (1 + 0x24 * 2 ^ 4 + 3 * 2 ^ 11 + 63 * 2 ^ 17 + 2 * 2 ^ 29) = some (.send 2 63 3 0) := by decide
theorem test_memory_words :
    decodeTableWord 32 0x00020A61 = some (.abind 2 1 0) ∧ decodeTableWord 32 0x088E4A71 = some (.vld 0 1 1 7 9 0) ∧
    decodeTableWord 32 0x10881281 = some (.vst 0 2 1 4 2 0) ∧ decodeTableWord 32 0x77882A71 = some (.vld 3 2 15 4 5 0) ∧
    decodeTableWord 32 (1 + 0x29 * 2 ^ 4 + 5 * 2 ^ 11 + 4 * 2 ^ 17 + 0xB * 2 ^ 23 + 2 * 2 ^ 27) = some (.vlds 0 2 0xB 4 5 0) := by
  decide
theorem test_atomic_words :
    decodeTableWord 32 0x00414AB1 = some (.atom 0 0 0 0 2 1 9 0) ∧
    decodeTableWord 32 0x055362B1 = some (.atom 0 0 5 0 2 19 12 0) ∧
    decodeTableWord 32 (1 + 0x2F * 2 ^ 4 + 1 * 2 ^ 11 + 2 * 2 ^ 16 + 3 * 2 ^ 21 + 2 ^ 26 + 2 * 2 ^ 27 + 4 * 2 ^ 29) =
      some (.ratom 4 2 1 3 2 1 0) := by decide
theorem test_domain_words :
    decodeTableWord 32 0x20843B01 = some (.xfer 1 1 2 7 0) ∧ decodeTableWord 32 0x45043B11 = some (.xferx 2 10 2 7 0) ∧
    decodeTableWord 32 0x7000B321 = some (.ftotal 7 0 22 0) ∧
    decodeTableWord 32 (1 + 0x33 * 2 ^ 4 + 3 * 2 ^ 11 + 1 * 2 ^ 28) = some (.fbindSeal 3 0) := by decide
theorem test_engine_words :
    decodeTableWord 32 0x04044341 = some (.cpy 0 4 8 0) ∧ decodeTableWord 32 0x08044341 = some (.bload 0 4 8 0) ∧
    decodeTableWord 32 0x14044341 = some (.nwri 0 4 8 0) ∧ decodeTableWord 32 0x00004351 = some (.cpwait 8 0) ∧
    decodeTableWord 32 (1 + 0x36 * 2 ^ 4 + 7 * 2 ^ 11 + 31 * 2 ^ 17) = some (.emit 0 31 7 0) := by decide
theorem test_matrix_words :
    decodeTableWord 32 0x00000391 = some (.mxzero 0 0) ∧ decodeTableWord 32 0x05100381 = some (.mxmma 0 10 8 0 0) ∧
    decodeTableWord 32 (1 + 0x38 * 2 ^ 4 + 63 * 2 ^ 11 + 48 * 2 ^ 17 + 5 * 2 ^ 23 + 5 * 2 ^ 28) = some (.mxmma 5 5 48 63 0) ∧
    decodeTableWord 32 (1 + 0x3C * 2 ^ 4 + 2 * 2 ^ 11 + 3 * 2 ^ 17 + 15 * 2 ^ 23) = some (.mxrdz 15 3 2 0) := by decide
theorem test_vector_words :
    decodeTableWord 32 0x03041403 = some (.viadd 0 6 2 2 1) ∧ decodeTableWord 32 0x028014D1 = some (.vbfx 0 5 0 2 0) ∧
    decodeTableWord 32 0x038624E3 = some (.vbfi 0 7 3 4 1) ∧ decodeTableWord 32 0x43041CA3 = some (.vshl 2 6 2 3 1) ∧
    decodeTableWord 32 0x03801511 = some (.vmov 0 7 2 0) ∧ decodeTableWord 32 0x03126D71 = some (.vfkey 0 0 9 13 0) := by
  decide
theorem test_compare_words :
    decodeTableWord 32 0x010A8CF1 = some (.vicmp 0 2 5 2 1 0) ∧ decodeTableWord 32 0x048514F3 = some (.vicmp 0 9 2 4 2 1) ∧
    decodeTableWord 32 0x051014F1 = some (.vicmp 0 10 8 0 2 0) := by decide
theorem test_float_words :
    decodeTableWord 32 0x01882601 = some (.vfadd 0 3 4 4 0) ∧ decodeTableWord 32 0x41842603 = some (.vfadd 2 3 2 4 1) ∧
    decodeTableWord 32 0x91842681 = some (.vfaddDirected 2 1 3 2 4 0) ∧
    decodeTableWord 32 0x630A3D65 = some (.vxmul 3 6 5 7 2) := by decide
theorem test_cross_lane_words :
    decodeTableWord 32 0x03021711 = some (.vshfx 0 6 1 2 0) ∧ decodeTableWord 32 0x0F822F31 = some (.vballot 0 31 1 5 0) ∧
    decodeTableWord 32 0x069A8F51 = some (.vlred 0 1 5 13 17 0) ∧ decodeTableWord 32 0x00224771 = some (.vrdlane 0 17 8 0) := by
  decide
theorem test_mask_words :
    decodeTableWord 32 (1 + 0x7B * 2 ^ 4 + 4 * 2 ^ 11 + 1 * 2 ^ 14 + 2 * 2 ^ 17 + 3 * 2 ^ 20) = some (.mlog 3 2 1 4 0) ∧
    decodeTableWord 32 (1 + 0x79 * 2 ^ 4 + 7 * 2 ^ 11 + 30 * 2 ^ 16) = some (.mset 30 7 0) := by decide
theorem test_halfwords :
    decodeTableWord 16 0x1894 = some (.vfadd16 3 4) ∧ decodeTableWord 16 (0xF * 2 + 63 * 2 ^ 5 + 31 * 2 ^ 11) = some (.vxadd16 31 63) := by
  decide
theorem test_words_that_are_none :
    decodeTableWord 32 0x00000FF1 = none ∧ decodeTableWord 32 0x00000803 = none ∧ decodeTableWord 32 0xFFFFFFFF = none := by decide
/-! ### Small states -/

/-- The entries of a sparse array that are not zero, from a list in rising order. -/
def entries {w : Nat} (xs : List (Nat × BitVec w)) : Sparse w := xs.filter (fun e => e.2 != 0)

/-- A running wave of partition 0 and context 0 at user level, lanes 0 and 63 active. -/
def aWave : Wave :=
  { Wave.vacant with resident := true, wait := .running, active := 0x8000000000000001, pc := 0x40 }

/-- The device with that wave in the issuing place and no memory mapped. -/
def bare : State := { State.reset with wave := aWave }

/-- `bare` with v1, v2 and v3 of lane 0 set. -/
def lane0 (a b d : Word32) : State :=
  { bare with wave := { aWave with v := entries [(64, a), (128, b), (192, d)] } }

/-- `bare` with s1, s2 and s3 set. -/
def scalars (a b d : Word64) : State := { bare with wave := { aWave with s := entries [(1, a), (2, b), (3, d)] } }

/-- Whether an outcome is a next state. -/
def goes (o : Result) : Bool := match o with
  | .next _ => true
  | _ => false

/-- The next state of an outcome. -/
def after (o : Result) : State := match o with
  | .next t => t
  | _ => State.reset

/-- An outcome that goes on is a next state. -/
theorem goes_next {o : Result} (h : goes o = true) : o = .next (after o) := by
  cases o with
  | next t => rfl
  | _ => simp [goes] at h

/-- v3 of lane 0 and SATF after an instruction. -/
def gives (i : Instr) (s : State) : Word32 × Word64 :=
  let t := after (exec i s)
  (sget t.wave.v 192, t.wave.satf)

/-- s3 after an instruction. -/
def writes (i : Instr) (s : State) : Word64 := sget (after (exec i s)).wave.s 3

/-! ### Values from the manual's worked examples

FX32 (R114), conversions (R119), keys (spec/11), floating point (R115, R117), bit fields and integers. -/

theorem test_vxadd_saturates : gives (.vxadd 0 2 1 3 0) (lane0 0x7FFF0000 0x00020000 0) = (0x7FFFFFFF, flagS) := by
  decide +kernel
theorem test_vxmul_signed : gives (.vxmul 0 2 1 3 0) (lane0 0x00018000 0xFFFDC000 0) = (0xFFFCA000, 0) := by decide +kernel
theorem test_vxmul_tie_to_even : gives (.vxmul 0 2 1 3 0) (lane0 0x00000003 0x00008000 0) = (0x00000002, flagX) := by
  decide +kernel
theorem test_vxmul_tie_to_zero : gives (.vxmul 0 2 1 3 0) (lane0 0x00000001 0x00008000 0) = (0, flagX) := by decide +kernel
theorem test_vxmul_rz_negative : gives (.vxmulRz 0 2 1 3 0) (lane0 0xFFFFFFFD 0x00008000 0) = (0xFFFFFFFF, flagX) := by
  decide +kernel
theorem test_vfcvt_f16_saturates : gives (.vfcvt 0 5 1 3 0) (lane0 0x47C35000 0 0) = (0x7BFF, flagS ||| flagX) := by
  decide +kernel
theorem test_vfcvt_f8e4_to_minus_zero : gives (.vfcvt 0 6 1 3 0) (lane0 0xBA800000 0 0) = (0x80, flagX) := by decide +kernel
theorem test_vfcvt_f8e4_of_1000 : gives (.vfcvt 0 6 1 3 0) (lane0 0x447A0000 0 0) = (0x7E, flagS ||| flagX) := by
  decide +kernel
theorem test_vfcvt_f8e5_of_300 : gives (.vfcvt 0 7 1 3 0) (lane0 0x43960000 0 0) = (0x5D, flagX) := by decide +kernel
theorem test_vfcvt_bf16_of_nan : gives (.vfcvt 0 4 1 3 0) (lane0 0xFFC12345 0 0) = (0x7FC0, flagI) := by decide +kernel
theorem test_vfcvt_bf16_of_infinity : gives (.vfcvt 0 4 1 3 0) (lane0 0x7F800000 0 0) = (0x7F7F, flagS) := by decide +kernel
theorem test_vfkey_of_6_5 : (gives (.vfkey 0 0 1 3 0) (lane0 0x4680 0 0)).1 = 0xC680 := by decide +kernel
theorem test_vfkey_of_nan : (gives (.vfkey 0 0 1 3 0) (lane0 0xFE01 0 0)).1 = 0 := by decide +kernel
theorem test_vfkey_of_minus_zero : (gives (.vfkey 0 0 1 3 0) (lane0 0x8000 0 0)).1 = 0x7FFF := by decide +kernel
theorem test_vbfi_joins_key_and_index : (gives (.vbfi 0 2 1 3 0) (lane0 0xFFFFFFB2 0x1000 0xC6800000)).1 = 0xC680FFB2 := by
  decide +kernel
theorem test_vfadd_tie_to_even : gives (.vfadd 0 2 1 3 0) (lane0 0x3F800000 0x33800000 0) = (0x3F800000, flagX) := by
  decide +kernel
theorem test_vfadd_rp : gives (.vfaddDirected 0 2 2 1 3 0) (lane0 0x3F800000 0x33800000 0) = (0x3F800001, flagX) := by
  decide +kernel
theorem test_vfadd_rm_negative : gives (.vfaddDirected 0 3 2 1 3 0) (lane0 0xBF800000 0xB3800000 0) = (0xBF800001, flagX) := by
  decide +kernel
theorem test_vfmax_of_zeros : gives (.vfmax 0 2 1 3 0) (lane0 0x80000000 0 7) = (0, 0) := by decide +kernel
theorem test_vfmin_of_one_nan : gives (.vfmin 0 2 1 3 0) (lane0 0x7FC00001 0x3F800000 0) = (0x3F800000, 0) := by decide +kernel
theorem test_vfrcp_of_4 : gives (.vfrcp 0 1 3 0) (lane0 0x40800000 0 0) = (0x3E800000, 0) := by decide +kernel
theorem test_vflg2_of_8 : gives (.vflg2 0 1 3 0) (lane0 0x41000000 0 0) = (0x40400000, 0) := by decide +kernel
theorem test_vfexp_of_0 : gives (.vfexp 0 1 3 0) (lane0 0 0 0) = (0x3F800000, 0) := by decide +kernel
theorem test_viadd_wraps : gives (.viadd 0 2 1 3 0) (lane0 0xFFFFFFFF 2 0) = (1, 0) := by decide +kernel
theorem test_vimulh_signed : gives (.vimulh 0 2 1 3 0) (lane0 0xFFFFFFFF 2 0) = (0xFFFFFFFF, 0) := by decide +kernel
theorem test_vsar_takes_5_bits : gives (.vsar 0 2 1 3 0) (lane0 0x80000000 0x21 0) = (0xC0000000, 0) := by decide +kernel
theorem test_vabs_i32_saturates : gives (.vabsI32 0 1 3 0) (lane0 0x80000000 0 0) = (0x7FFFFFFF, flagS) := by decide +kernel
theorem test_vmovi_extends_sign : (gives (.vmovi 0x7FFF 3 0) bare).1 = 0xFFFFFFFF := by decide +kernel
theorem test_laneid_of_63 : sget (after (exec (.laneid 0 3 0) bare)).wave.v 255 = 63 := by decide +kernel
theorem test_visub16_subtracts_source : sget (after (exec (.visub16 2 1) (lane0 5 7 0))).wave.v 64 = 0xFFFFFFFE := by
  decide +kernel
theorem test_smovi_extends_sign : writes (.smovi 0xFFF0 3 0) bare = 0xFFFFFFFFFFFFFFF0 := by decide +kernel
theorem test_slui_shifts : writes (.slui 0x0FFF 3 0) (scalars 0 0 0xFFFFFFFFFFFFFFF0) = 0xFFFFFFFFFFF00FFF := by decide +kernel
theorem test_smulh_signed : writes (.smulh 2 1 3 0) (scalars 0xFFFFFFFFFFFFFFFF 2 0) = 0xFFFFFFFFFFFFFFFF := by decide +kernel
theorem test_ssub_order : writes (.ssub 2 1 3 0) (scalars 5 7 0) = 0xFFFFFFFFFFFFFFFE := by decide +kernel
theorem test_scmp_nge_unsigned : writes (.scmp 7 2 1 3 0) (scalars 0x8000000000000000 1 0) = 1 := by decide +kernel
theorem test_sclz_of_1 : writes (.sclz 1 3 0) (scalars 1 0 0) = 63 := by decide +kernel
theorem test_snmax_unsigned : writes (.snmax 2 1 3 0) (scalars 0xFFFFFFFFFFFFFFFF 1 0) = 0xFFFFFFFFFFFFFFFF := by decide +kernel
theorem test_call_links_next_block :
    let t := after (exec (.call 2 0) bare)
    t.wave.pc = 0xC0 ∧ sget t.wave.s 31 = 0x80 := by decide +kernel
theorem test_vicmp_equal_lanes : sget (after (exec (.vicmp 0 2 1 0 1 0) (lane0 5 5 0))).wave.m 1 = 0x8000000000000001 := by
  decide +kernel
theorem test_mlog_andn_of_m0 : sget (after (exec (.mlog 3 1 0 2 0) bare)).wave.m 2 = 0x8000000000000001 := by decide +kernel

/-! ### Witnesses

For each statement with hypotheses, a state and operands that meet them together; one for each clause. -/

/-- Whether a result is the one given. -/
def isOk {ε α : Type} [DecidableEq α] (a : α) (e : Except ε α) : Bool := match e with
  | .ok x => decide (x = a)
  | .error _ => false
/-- Whether a failure is the one given. -/
def isError {ε α : Type} [DecidableEq ε] (c : ε) (e : Except ε α) : Bool := match e with
  | .error x => decide (x = c)
  | .ok _ => false
/-- What `isOk` says. -/
theorem is_ok {ε α : Type} [DecidableEq α] {a : α} {e : Except ε α} (h : isOk a e = true) : e = .ok a := by
  cases e with
  | ok x => simpa [isOk] using h
  | error c => simp [isOk] at h
/-- What `isError` says. -/
theorem is_error {ε α : Type} [DecidableEq ε] {c : ε} {e : Except ε α} (h : isError c e = true) : e = .error c := by
  cases e with
  | error x => simpa [isError] using h
  | ok a => simp [isError] at h

/-- The bytes of a doubleword at an address, as memory lists them. -/
def dword (pa x : Nat) : Memory := entries ((leSplit 8 x).zipIdx.map (fun e => (pa + e.2, e.1)))

/-- Page tables that map, from virtual address 0, pages of 32 KiB: code; data; a transmit window; a conserved page of domain 1;
BF16 elements; scaled FP8 elements; a data page that may not be written; a device page. -/
def tables : Memory :=
  dword 0x40000 0x48001 ++ dword 0x48000 0x50001 ++ dword 0x50000 0x58001 ++ dword 0x58000 0x60143 ++
  dword 0x58010 0x6800F ++ dword 0x58020 0x7008F ++ dword 0x58030 0x78047 ++ dword 0x58038 0x2000 ++
  dword 0x58040 0x8000F ++ dword 0x58048 0x1 ++ dword 0x58050 0x8800F ++ dword 0x58058 0x13 ++ dword 0x58060 0x90007

/-- The leaf of the data page. -/
def dataLeaf : Leaf := ⟨0x68000, 0x8000, 0x6800F, 0⟩
/-- The leaf of the transmit window's page. -/
def windowLeaf : Leaf := ⟨0x70000, 0x8000, 0x7008F, 0⟩
/-- The leaf of the conserved page. -/
def cellsLeaf : Leaf := ⟨0x78000, 0x8000, 0x78047, 0x2000⟩

/-- Partition 0 with context 0 open. -/
def part0 : Partition :=
  { Partition.empty with owner := some 0, cset := 1, buffers := 4, quota := 100, ctxs := [(0, Ctx.opened 0x40000 0x10000 1 false 0)] }
/-- The wave's block, with 4 KiB of scratchpad. -/
def block0 : Block := ⟨⟨0, 0, 0, 0⟩, 0, 0, 0, [0], 0, 4096, entries [(0, 0x11), (8, 0x22)], [], 0, none, none, [], false⟩
/-- The wave's span. -/
def span0 : Span := ⟨⟨0, 0, 0, 0⟩, .live, [], true, 0, none, [], [], [0], [], []⟩

/-- A device in which a wave is placed and the pages of `tables` are mapped. -/
def device (w : Wave) (mem : Memory) : State :=
  { State.reset with
    wave := w, blocks := [block0], spans := [span0], parts := [(0, part0)], mem := tables ++ mem,
    islands := [(0, ⟨.active, 0, none, false⟩)] }

/-- The wave with s1 at the data page, s2 = 8, v1 (offsets 0 and 8 in lanes 0 and 63), v2 and v3 data, a1 bound to the data
page, and its trap frame at the end of that page. -/
def dataWave : Wave :=
  { aWave with
    s := entries [(1, 0x8000), (2, 8)], v := entries [(127, 8), (128, 3), (191, 5), (192, 7), (255, 9)],
    a := [(1, ⟨0x8000, 0x8000, 0x68000, 0x8000, 0x6800F, 0⟩)], trapframe := 0xFC00, trapvec := 0x80 }

/-- The device of `dataWave` with 0x55 and 0x66 in the data page. -/
def data : State := device dataWave (dword 0x68000 0x55 ++ dword 0x68008 0x66)

/-- A device that maps the data page alone. -/
def small : State :=
  { data with mem := dword 0x40000 0x48001 ++ dword 0x48000 0x50001 ++ dword 0x50000 0x58001 ++ dword 0x58010 0x6800F }

theorem witness_scalar : Claims.scalarResult (.sadd 1 2 3 0) data.wave = some (3, 1, 0x8008) ∧ acts (.sadd 1 2 3 0) data = true := by
  decide +kernel
theorem witness_vector_integer :
    (Claims.integerResult (.viadd 0 2 3 4 0) data.wave).isSome = true ∧ acts (.viadd 0 2 3 4 0) data = true := by decide +kernel
theorem witness_vector_float :
    (Claims.floatResult (.vfadd 0 2 3 4 0) data.wave).isSome = true ∧ acts (.vfadd 0 2 3 4 0) data = true := by decide +kernel
theorem witness_shuffle :
    (Claims.shuffleResult (.vshfl 0 2 3 4 0) data.wave).isSome = true ∧ acts (.vshfl 0 2 3 4 0) data = true := by decide +kernel
theorem witness_gathered :
    Claims.gatheredResult (.vballot 0 0 2 4 0) data.wave = some (4, 0x8000000000000001) ∧
    acts (.vballot 0 0 2 4 0) data = true := by decide +kernel
theorem witness_mask :
    (Claims.maskResult (.vicmp 0 2 3 7 1 0) data.wave).isSome = true ∧ acts (.vicmp 0 2 3 7 1 0) data = true := by decide +kernel
theorem witness_reduction_of_two_lanes :
    acts (.vlred 0 1 0 2 4 0) data = true ∧ data.wave.active &&& data.wave.mval 0 ≠ 0 ∧ acts (.vscan 0 1 0 2 4 0) data = true ∧
    data.wave.fuse = none := by decide +kernel
theorem witness_reduction_of_no_lane :
    let s : State := { data with wave := { dataWave with active := 0 } }
    acts (.vlred 0 1 0 2 4 0) s = true ∧ s.wave.active &&& s.wave.mval 0 = 0 := by decide +kernel
theorem witness_integer_sums : (List.replicate 64 (1 : Word32)).length = 64 := by decide
theorem witness_transfer :
    Claims.transfer (.ret 1 0) data.wave = some (0x8000, none) ∧ acts (.ret 1 0) data = true ∧
    Claims.transfer (.call 1 0) data.wave = some (0x80, some 0x80) ∧ acts (.call 1 0) data = true := by decide +kernel
theorem witness_unaligned_jump :
    acts (.ret 2 0) data = true ∧ acts (.jmpr 2 0) data = true ∧ (data.wave.sval 2).toNat % 64 ≠ 0 := by decide +kernel
theorem witness_structured :
    (Claims.structuredResult (.ifm 1 0 0) (Claims.masksOf data.wave) (data.wave.mval 0)).isSome = true ∧
    acts (.ifm 1 0 0) data = true := by decide +kernel
theorem witness_structured_traps :
    (Claims.structuredResult (.endif 0) (Claims.masksOf data.wave) (data.wave.mval 0)).isNone = true ∧
    acts (.endif 0) data = true ∧ Claims.structuredTrap (.endif 0) = some 0x01 := by decide +kernel
theorem witness_mask_depth :
    let s : State := { data with wave := { dataWave with stack := List.replicate 16 ⟨.loop, 1, 0, 0⟩ } }
    (Claims.structuredResult (.loop 0) (Claims.masksOf s.wave) (s.wave.mval 0)).isNone = true ∧
    acts (.loop 0) s = true ∧ Claims.structuredTrap (.loop 0) = some 0x03 := by decide +kernel
theorem witness_retired :
    let s : State := { data with wave := { dataWave with retired := 2, stack := List.replicate 15 ⟨.loop, 1, 0, 0⟩ } }
    ∃ t, exec (.loop 0) s = .next t ∧ acts (.loop 0) s = true ∧
      (Claims.structuredResult (.loop 0) (Claims.masksOf s.wave) (s.wave.mval 0)).isSome = true ∧
      Claims.retiredStay s.wave ∧ s.wave.stack.length ≤ 16 :=
  ⟨_, goes_next (by decide +kernel), by decide +kernel, by decide +kernel, by unfold Claims.retiredStay; decide +kernel,
    by decide +kernel⟩
theorem witness_nop_and_yield : acts (.nop 0) data = true ∧ acts (.yield 7) data = true := by decide +kernel
theorem witness_run :
    acts (.run 24 0) data = true ∧
    (let s : State := { data with wave := { dataWave with run := some ⟨24, 0⟩ } }
     acts (.runend 127 127 127 0) s = true ∧ s.wave.service = none) := by decide +kernel
theorem witness_end :
    acts (.endw 0) data = true ∧ data.locks.find? (fun l => l.holder == data.wave.id) = none ∧
    buffered data data.wave.span.part (waveSender data.wave.id) = false := by decide +kernel
theorem witness_sigchk :
    (let s : State := { data with wave := { dataWave with sigctl := 1, sig := 5 } }
     acts (.sigchk 5 0) s = true ∧ s.wave.sigctl.getLsbD 1 = false) ∧
    acts (.sigchk 5 0) data = true ∧ data.wave.sigctl.getLsbD 1 = false := by decide +kernel
theorem witness_csr_reads :
    acts (.scsr 0x020 3 0) data = true ∧ acts (.scsr 0x011 3 0) data = true ∧ ownerSpoilt data data.wave.core 0x020 = false ∧
    ownerSpoilt data data.wave.core 0x13F = false := by decide +kernel
theorem witness_csr_writes :
    let s : State := { data with wave := { dataWave with level := .supervisor } }
    (Claims.csrWrite (.scsw 0x100 2 0)).isSome = true ∧ acts (.scsw 0x100 2 0) s = true ∧
    (Claims.csrWrite (.scsc 0x031 2 0)).isSome = true ∧ acts (.scsc 0x031 2 0) data = true ∧
    (∀ n ∈ [0x031, 0x100, 0x13F], ownerSpoilt s s.wave.core n = false) ∧
    ∀ z < 64, ownStep (s.coreOf s.wave.core) s.wave.id z = false := by decide +kernel
theorem witness_csr_rights :
    Claims.csrAccess data.wave.level false 0x050 = false ∧ Claims.csrAccess data.wave.level true 0x010 = false := by
  decide +kernel

/-- The trap of a TRAP instruction. -/
def softTrap : Trap := ⟨0x17, 0, 0, true, [7], wordOf (.trap 7 0), 4⟩

/-- The data page is ordinary memory, so that no access to it waits. -/
theorem data_loads_freely (s : State) : Claims.loadsFreely s dataLeaf := .inl (by decide)
/-- See `data_loads_freely`. -/
theorem data_stores_freely (s : State) : Claims.storesFreely s dataLeaf := .inl (by decide)
/-- No register that a trap entry uses is poisoned. -/
theorem data_entry_clean : Claims.entryClean dataWave := by unfold Claims.entryClean; decide +kernel

theorem witness_trap_entry :
    data.wave.level = .user ∧ data.wave.service = none ∧ data.wave.fuse = none ∧ acts (.trap 7 0) data = true ∧
    access data data.wave.span.part data.wave.span.ctx .store data.wave.trapframe.toNat 1024 = .ok dataLeaf ∧
    Claims.entryClean data.wave ∧ Claims.storesFreely data dataLeaf :=
  ⟨rfl, rfl, rfl, by decide +kernel, is_ok (by decide +kernel), data_entry_clean, data_stores_freely _⟩

/-- `data` with its trap frame on the code page. -/
def codeFrame : State := { data with wave := { dataWave with trapframe := 0 } }
/-- `data` with its trap frame on the conserved page. -/
def cellFrame : State := { data with wave := { dataWave with trapframe := 0x18000 } }

theorem witness_trap_kills :
    data.findSpan data.wave.span = some span0 ∧ span0.phase = .live ∧ (tget data.parts data.wave.span.part).isSome = true ∧
    data.wave.fuse = none ∧ ({ data with wave := { dataWave with level := .supervisor } } : State).wave.level = .supervisor ∧
    (codeFrame.wave.level = .user ∧ codeFrame.wave.service = none ∧
     access codeFrame codeFrame.wave.span.part codeFrame.wave.span.ctx .store codeFrame.wave.trapframe.toNat 1024 =
      .error .perm) ∧
    (cellFrame.wave.level = .user ∧ cellFrame.wave.service = none ∧
     access cellFrame cellFrame.wave.span.part cellFrame.wave.span.ctx .store cellFrame.wave.trapframe.toNat 1024 =
      .error .conserved) ∧
    Claims.entryClean codeFrame.wave ∧ Claims.entryClean cellFrame.wave ∧
    ¬Claims.entryClean { dataWave with poisonC := entries [(0x050, 1)] } ∧
    ¬Claims.entryClean { dataWave with poisonC := entries [(0x051, 1)] } := by
  refine ⟨by decide +kernel, rfl, by decide +kernel, rfl, rfl, ⟨rfl, rfl, is_error (by decide +kernel)⟩,
    ⟨rfl, rfl, is_error (by decide +kernel)⟩, ?_, ?_, ?_, ?_⟩ <;> unfold Claims.entryClean <;> decide +kernel

/-- A device whose wave has entered its handler for `softTrap`, its frame in memory. -/
def frame : Memory :=
  dword 0x6FC40 0x17 ++ dword 0x6FC48 0x40 ++ dword 0x6FC50 0x44 ++ dword 0x6FC58 0x8000000000000001 ++ dword 0x6FC68 0x00070141 ++
  dword 0x6FC80 7
/-- `small` with the frame already in memory. -/
def framed : State := { small with mem := small.mem ++ frame }
/-- `framed` in its handler. -/
def handler : State :=
  { framed with wave := { dataWave with level := .supervisor, pc := 0x80, active := BitVec.allOnes 64 } }

theorem witness_eret :
    acts (.eret 0) handler = true ∧ handler.wave.level = .supervisor ∧ frameAccess handler handler.wave = .ok dataLeaf ∧
    Claims.unpoisoned handler dataLeaf handler.wave.trapframe.toNat 128 ∧
    Claims.frameRead dataLeaf handler 8 / 2 ^ 27 % 32 ≤ handler.wave.stack.length ∧
    Claims.frameRead dataLeaf handler 10 % 2 = 0 ∧ Claims.loadsFreely handler dataLeaf := by
  refine ⟨by decide +kernel, rfl, is_ok (by decide +kernel), ?_, by decide +kernel, by decide +kernel, data_loads_freely _⟩
  unfold Claims.unpoisoned; decide +kernel
theorem witness_return_undoes_entry :
    Claims.entered dataLeaf softTrap framed handler ∧ framed.wave.level = .user ∧ framed.wave.service = none ∧
    softTrap.code < 2 ^ 16 ∧ framed.wave.stack.length ≤ 16 ∧ framed.wave.run = none ∧ framed.wave.pc.getLsbD 0 = false ∧
    softTrap.length % 2 = 0 ∧ framed.wave.active &&& framed.wave.retired = 0 ∧
    acts (.eret 0) handler = true ∧ frameAccess handler handler.wave = .ok dataLeaf ∧
    Claims.unpoisoned handler dataLeaf handler.wave.trapframe.toNat 128 ∧ Claims.loadsFreely handler dataLeaf := by
  refine ⟨⟨?_, fun _ _ => rfl, rfl, rfl, rfl, rfl, rfl, rfl, rfl⟩, rfl, rfl, by decide, by decide, rfl, by decide, by decide,
    by decide, witness_eret.1, witness_eret.2.2.1, witness_eret.2.2.2.1, data_loads_freely _⟩
  decide +kernel

/-- The page-fault outcome of a lookup as a value; the default stands where it fails. -/
def taken {ε α : Type} (default : α) (e : Except ε α) : α := match e with
  | .ok x => x
  | .error _ => default
/-- Whether a lookup succeeds. -/
def found {ε α : Type} (e : Except ε α) : Bool := match e with
  | .ok _ => true
  | .error _ => false
/-- What `found` says. -/
theorem found_ok {ε α : Type} {d : α} {e : Except ε α} (h : found e = true) : e = .ok (taken d e) := by
  cases e with
  | ok x => rfl
  | error c => simp [found] at h

/-- `data` with s1, s2 and s3 set. -/
def dataWith (a b d : Word64) : State := { data with wave := { dataWave with s := entries [(1, a), (2, b), (3, d)] } }
/-- A command of queue 1, SEQ 0, of the wave's block. -/
def copy0 : Cmd := ⟨0, 1, [], ⟨0, 0, 0, 0⟩, 0, false, none, false, false, [], .waiting, 0, 0, 0, [], none, none⟩
/-- A device whose core 0 has issued SEQ 0 of queue 1, in a state and with status records. -/
def issued (s : State) (q : List Cmd) (done : List DoneRec) : State :=
  { s with cores := [(0, { Core.empty with queues := [(1, q)], nextSeq := [(1, 1)], done := done })] }

theorem witness_sleepu : acts (.sleepu 2 0) data = true ∧ (data.wave.sval 2).toNat % 2 ^ 32 = 8 := by decide +kernel
theorem witness_token_waits :
    let s := issued (dataWith 0x200 0 0) [] [⟨1, 0, 0, 3, none⟩]
    acts (.cpwait 1 0) s = true ∧ acts (.waitk 1 0) s = true ∧ Claims.ownToken s (s.wave.sval 1) ∧
    Claims.completed s (s.wave.sval 1) ∧ Claims.statusOf s (s.wave.sval 1) = some ⟨1, 0, 0, 3, none⟩ ∧ s.wave.refused = [] := by
  unfold Claims.ownToken Claims.completed; decide +kernel
theorem witness_token_late_and_early :
    (let s := issued (dataWith 0x200 0 0) [copy0] []
     acts (.cpwait 1 0) s = true ∧ Claims.ownToken s (s.wave.sval 1) ∧ ¬Claims.completed s (s.wave.sval 1) ∧
     (s.wave.sval 2).toNat ≤ s.cyc) ∧
    (let s := issued (dataWith 0x200 1 0) [copy0] []
     acts (.cpwait 1 0) s = true ∧ Claims.ownToken s (s.wave.sval 1) ∧ ¬Claims.completed s (s.wave.sval 1) ∧
     ¬(s.wave.sval 2).toNat ≤ s.cyc) := by
  unfold Claims.ownToken Claims.completed; decide +kernel
theorem witness_token_failed :
    let s := issued (dataWith 0x200 0 0) [] [⟨1, 0, 5, 0, none⟩]
    acts (.cpwait 1 0) s = true ∧ acts (.waitk 1 0) s = true ∧ Claims.ownToken s (s.wave.sval 1) ∧
    Claims.completed s (s.wave.sval 1) ∧ Claims.statusOf s (s.wave.sval 1) = some ⟨1, 0, 5, 0, none⟩ ∧ s.wave.refused = [] := by
  unfold Claims.ownToken Claims.completed; decide +kernel
theorem witness_waitk_notification :
    let p : Partition := { part0 with notif := [(2, [(0xAB, 7)])] }
    let s : State := { dataWith 0x20A00 0 0 with parts := [(0, p)] }
    acts (.waitk 1 0) s = true ∧ s.wave.refused = [] ∧ s.wave.sval 1 &&& ~~~(0x3F0E00#64) = 0 ∧
    tokenQueue (s.wave.sval 1) = 5 ∧ tget s.parts s.wave.span.part = some p ∧
    tgetD p.notif ((s.wave.sval 1).toNat / 2 ^ 16 % 64) [] = [(0xAB, 7)] := by decide +kernel
theorem witness_waitk_ratom :
    let s : State := { data with wave := { dataWave with s := entries [(1, 0xC00)], ratoms := 1, tokens := [(0, [⟨1, 1, 1, some 0, 0⟩])] } }
    acts (.waitk 1 0) s = true ∧ s.wave.refused = [] ∧ tokenQueue (s.wave.sval 1) = 6 ∧
    (s.wave.sval 1).toNat / 2 ^ 12 % 16 = 0 ∧ (s.wave.sval 1).toNat / 2 ^ 48 = 0 ∧ (s.wave.sval 1).toNat % 512 = s.wave.core ∧
    tokenSeq (s.wave.sval 1) < s.wave.ratoms ∧ tget s.wave.tokens (tokenSeq (s.wave.sval 1)) = some [⟨1, 1, 1, some 0, 0⟩] := by
  decide +kernel

theorem witness_abind :
    acts (.abind 1 2 0) data = true ∧ translate data 0 0 (data.wave.sval 1).toNat = .ok dataLeaf ∧ dataLeaf.key = 0 ∧
    acts (.abind 1 2 0) (dataWith 0x40000 0 0) = true ∧ translate (dataWith 0x40000 0 0) 0 0 0x40000 = .error .notPresent :=
  ⟨by decide +kernel, is_ok (by decide +kernel), by decide, by decide +kernel, is_error (by decide +kernel)⟩
theorem witness_sld :
    Claims.scalarAccess (.sld 1 1 3 0) data.wave = some (.load, 0x8008) ∧ acts (.sld 1 1 3 0) data = true ∧
    access data data.wave.span.part data.wave.span.ctx .load 0x8008 8 = .ok dataLeaf ∧
    Claims.unpoisoned data dataLeaf 0x8008 8 :=
  ⟨by decide +kernel, by decide +kernel, is_ok (by decide +kernel), by unfold Claims.unpoisoned; decide +kernel⟩
theorem witness_vld :
    acts (.vld 0 2 1 1 4 0) data = true ∧ ∀ l < 64, (data.wave.active &&& data.wave.mval 0).getLsbD l = true →
      accessVia data 0 0 .load (data.wave.areg 1) (data.wave.vval 1 l).toNat (2 ^ 2) = .ok dataLeaf ∧
      Claims.unpoisoned data dataLeaf ((data.wave.areg 1).va (data.wave.vval 1 l).toNat) (2 ^ 2) := by
  have h : ∀ l < 64, (data.wave.active &&& data.wave.mval 0).getLsbD l = true →
      isOk dataLeaf (accessVia data 0 0 .load (data.wave.areg 1) (data.wave.vval 1 l).toNat (2 ^ 2)) = true ∧
      Claims.unpoisoned data dataLeaf ((data.wave.areg 1).va (data.wave.vval 1 l).toNat) (2 ^ 2) := by
    unfold Claims.unpoisoned; decide +kernel
  exact ⟨by decide +kernel, fun l a b => ⟨is_ok (h l a b).1, (h l a b).2⟩⟩

/-- `data` with a1 bound to the page of BF16 elements. -/
def bf16Data : State :=
  { data with wave := { dataWave with a := [(1, ⟨0x20000, 0x8000, 0x80000, 0x8000, 0x8000F, 1⟩)] } }
/-- `data` with a1 bound to the page of scaled FP8 elements. -/
def scaledData : State :=
  { data with wave := { dataWave with a := [(1, ⟨0x28000, 0x8000, 0x88000, 0x8000, 0x8800F, 0x13⟩)] } }
/-- The element of a lane's offset in v1. -/
def elementOf (s : State) (k : AccessKind) (l : Nat) : Except (Nat × Cause) Element :=
  locate s 0 0 k (s.wave.areg 1) (s.wave.vval 1 l).toNat
/-- An element's place, where there is one. -/
def placeOf (s : State) (k : AccessKind) (l : Nat) : Element := taken ⟨[], none, 0⟩ (elementOf s k l)

theorem witness_vld_elements :
    acts (.vld 0 3 1 1 4 0) bf16Data = true ∧ ∀ l < 64, (bf16Data.wave.active &&& bf16Data.wave.mval 0).getLsbD l = true →
      elementOf bf16Data .load l = .ok (placeOf bf16Data .load l) ∧
      ∀ pa ∈ (placeOf bf16Data .load l).pas, sget bf16Data.poison (pa / 32) = 0 := by
  have h : ∀ l < 64, (bf16Data.wave.active &&& bf16Data.wave.mval 0).getLsbD l = true →
      found (elementOf bf16Data .load l) = true ∧
      ∀ pa ∈ (placeOf bf16Data .load l).pas, sget bf16Data.poison (pa / 32) = 0 := by decide +kernel
  exact ⟨by decide +kernel, fun l a b => ⟨found_ok (h l a b).1, (h l a b).2⟩⟩
theorem witness_sst :
    Claims.scalarAccess (.sst 0 1 2 0) data.wave = some (.store, 0x8000) ∧ acts (.sst 0 1 2 0) data = true ∧
    access data data.wave.span.part data.wave.span.ctx .store 0x8000 8 = .ok dataLeaf :=
  ⟨by decide +kernel, by decide +kernel, is_ok (by decide +kernel)⟩
theorem witness_vst :
    acts (.vst 0 0 1 1 2 0) data = true ∧ ∀ l < 64, (data.wave.active &&& data.wave.mval 0).getLsbD l = true →
      accessVia data 0 0 .store (data.wave.areg 1) (data.wave.vval 1 l).toNat 1 = .ok dataLeaf := by
  have h : ∀ l < 64, (data.wave.active &&& data.wave.mval 0).getLsbD l = true →
      isOk dataLeaf (accessVia data 0 0 .store (data.wave.areg 1) (data.wave.vval 1 l).toNat 1) = true := by decide +kernel
  exact ⟨by decide +kernel, fun l a b => is_ok (h l a b)⟩
theorem witness_vst_elements :
    acts (.vst 0 3 1 1 2 0) scaledData = true ∧
    ∀ l < 64, (scaledData.wave.active &&& scaledData.wave.mval 0).getLsbD l = true →
      elementOf scaledData .store l = .ok (placeOf scaledData .store l) ∧
      ∀ b, (placeOf scaledData .store l).scale = some b → sget scaledData.poison (b.1.pa b.2 / 32) = 0 := by
  have h : ∀ l < 64, (scaledData.wave.active &&& scaledData.wave.mval 0).getLsbD l = true →
      found (elementOf scaledData .store l) = true := by decide +kernel
  exact ⟨by decide +kernel, fun l a b => ⟨found_ok (h l a b), fun _ _ => rfl⟩⟩

/-- A transmit window over the page at 0x10000 to address 0x40000 of context 32 of device 1. -/
def window : EntryWords := ⟨0x00200101, 0x10000, 0x8000, 0x40000⟩
/-- Partition 0 with that window. -/
def windowPart : Partition := { part0 with txwin := [(0, window)] }
/-- `data` with that partition and s1 in the window. -/
def windowData : State := { dataWith 0x10000 7 0 with parts := [(0, windowPart)] }

theorem witness_window_store :
    Claims.scalarAccess (.sst 1 1 2 0) windowData.wave = some (.store, 0x10008) ∧ acts (.sst 1 1 2 0) windowData = true ∧
    access windowData 0 0 .store 0x10008 8 = .ok windowLeaf ∧ windowLeaf.cls = 2 ∧ Claims.loadsFreely windowData windowLeaf ∧
    tget windowData.parts 0 = some windowPart ∧ Claims.reflection windowData 0x10008 (Claims.bytesOf 8 7) =
      some (⟨1, 0, 0, false⟩, .store 32 0x40008 0x10008 [7, 0, 0, 0, 0, 0, 0, 0] 0) :=
  ⟨by decide +kernel, by decide +kernel, is_ok (by decide +kernel), by decide, .inl (by decide), rfl, by decide +kernel⟩
/-- `windowData` with a1 bound to the window's page. -/
def windowVector : State :=
  { windowData with wave := { windowData.wave with a := [(1, ⟨0x10000, 0x8000, 0x70000, 0x8000, 0x7008F, 0⟩)] } }
theorem witness_window_lanes :
    acts (.vst 0 2 1 1 2 0) windowVector = true ∧ tget windowVector.parts 0 = some windowPart ∧
    (windowVector.wave.active &&& windowVector.wave.mval 0).getLsbD 63 = true ∧
    ∀ l < 64, (windowVector.wave.active &&& windowVector.wave.mval 0).getLsbD l = true →
      accessVia windowVector 0 0 .store (windowVector.wave.areg 1) (windowVector.wave.vval 1 l).toNat 4 = .ok windowLeaf ∧
      windowLeaf.cls = 2 ∧ Claims.loadsFreely windowVector windowLeaf ∧
      (Claims.reflection windowVector ((windowVector.wave.areg 1).va (windowVector.wave.vval 1 l).toNat)
        (Claims.bytesOf 4 (windowVector.wave.vval 2 l).toNat)).isSome = true := by
  have h : ∀ l < 64, (windowVector.wave.active &&& windowVector.wave.mval 0).getLsbD l = true →
      isOk windowLeaf (accessVia windowVector 0 0 .store (windowVector.wave.areg 1) (windowVector.wave.vval 1 l).toNat 4) = true ∧
      (Claims.reflection windowVector ((windowVector.wave.areg 1).va (windowVector.wave.vval 1 l).toNat)
        (Claims.bytesOf 4 (windowVector.wave.vval 2 l).toNat)).isSome = true := by decide +kernel
  exact ⟨by decide +kernel, rfl, by decide +kernel, fun l a b => ⟨is_ok (h l a b).1, by decide, .inl (by decide), (h l a b).2⟩⟩
theorem witness_window_tile :
    acts (.mxstz 1 0 0) windowData = true ∧ (windowData.wave.sval 1).toNat % 64 = 0 ∧ Claims.slotReady windowData 0 ∧
    Claims.stepsRounded windowData 0 ∧ Claims.slotSound (windowData.coreOf 0) 0 ∧ windowLeaf.efmt = 0 ∧
    (∀ j < 64, access windowData 0 0 .store ((0x10000 + 64 * j) % 2 ^ 64) 64 = .ok windowLeaf) ∧
    ∀ k < 1024, (Claims.reflection windowData ((0x10000 + 64 * (k / 16)) % 2 ^ 64 + 4 * (k % 16)) (Claims.bytesOf 4 0)).isSome = true := by
  have h : ∀ j < 64, isOk windowLeaf (access windowData 0 0 .store ((0x10000 + 64 * j) % 2 ^ 64) 64) = true := by decide +kernel
  refine ⟨by decide +kernel, by decide +kernel, ?_, ⟨fun x hx => (by cases hx), fun x hx => (by cases hx)⟩, fun e he => (by cases he),
    by decide, fun j hj => is_ok (h j hj), by decide +kernel⟩
  unfold Claims.slotReady Claims.slotOwned Claims.ownerSound; decide +kernel
theorem witness_scratchpad :
    data.findBlock data.wave.span data.wave.block = some block0 ∧ block0.ended = false ∧
    (∀ l < 64, (data.wave.active &&& data.wave.mval 0).getLsbD l = true →
      (data.wave.vval 1 l).toNat % 2 ^ 2 = 0 ∧ (data.wave.vval 1 l).toNat + 2 ^ 2 ≤ block0.size) ∧
    acts (.vlds 0 2 0 1 4 0) data = true ∧ acts (.vsts 0 2 0 1 2 0) data = true ∧ block0.poison = [] := by decide +kernel
theorem witness_atomics :
    acts (.atom 0 0 0 0 1 1 2 0) data = true ∧ acts (.red 0 0 0 0 1 1 2 0) data = true ∧
    ∀ l < 64, (data.wave.active &&& data.wave.mval 0).getLsbD l = true →
      accessVia data 0 0 .atomic (data.wave.areg 1) (data.wave.vval 1 l).toNat 4 = .ok dataLeaf ∧
      Claims.unpoisoned data dataLeaf ((data.wave.areg 1).va (data.wave.vval 1 l).toNat) 4 ∧
      dataLeaf.pa ((data.wave.areg 1).va (data.wave.vval 1 l).toNat) % 4 = 0 ∧
      ∀ j < 4, dataLeaf.pa ((data.wave.areg 1).va (data.wave.vval 1 l).toNat + j) =
        dataLeaf.pa ((data.wave.areg 1).va (data.wave.vval 1 l).toNat) + j := by
  have h : ∀ l < 64, (data.wave.active &&& data.wave.mval 0).getLsbD l = true →
      isOk dataLeaf (accessVia data 0 0 .atomic (data.wave.areg 1) (data.wave.vval 1 l).toNat 4) = true ∧
      Claims.unpoisoned data dataLeaf ((data.wave.areg 1).va (data.wave.vval 1 l).toNat) 4 ∧
      dataLeaf.pa ((data.wave.areg 1).va (data.wave.vval 1 l).toNat) % 4 = 0 ∧
      ∀ j < 4, dataLeaf.pa ((data.wave.areg 1).va (data.wave.vval 1 l).toNat + j) =
        dataLeaf.pa ((data.wave.areg 1).va (data.wave.vval 1 l).toNat) + j := by
    unfold Claims.unpoisoned; decide +kernel
  exact ⟨by decide +kernel, by decide +kernel, fun l a b => ⟨is_ok (h l a b).1, (h l a b).2⟩⟩

/-- `data` with a1 bound to the conserved page. -/
def cellData : State :=
  { dataWith 0x18000 7 0 with wave := { (dataWith 0x18000 7 0).wave with a := [(1, ⟨0x18000, 0x8000, 0x78000, 0x8000, 0x78047, 0x2000⟩)] } }

/-- The vector accesses of the two lanes of `dataWave` that stop at a cause of one category, the lower of them first. -/
def stopsAt (i : Instr) (s : State) (x : Claims.VectorAccess) (va : Nat) (c : Cause) : Prop :=
  Claims.vectorAccess i = some x ∧ acts i s = true ∧ (s.wave.active &&& s.wave.mval x.mask.toNat).getLsbD 0 = true ∧
    Claims.laneStop s x 0 = some (va, c) ∧
    ∀ k < 64, (s.wave.active &&& s.wave.mval x.mask.toNat).getLsbD k = true →
      (Claims.laneStop s x k).all (fun e => Claims.categoryOf e.2 == Claims.categoryOf c) = true
/-- What is not on its way does not hold an access. -/
theorem free_of_traffic {s : State} {i : Instr} {x : Claims.VectorAccess} {m : Word64} (h : Claims.nothingInFlight s s.wave) :
    Claims.accessesFreely s i x m := .inl h
theorem witness_vector_access_traps :
    stopsAt (.vst 0 2 1 1 2 0) cellData ⟨.store, 0, 4, 1, 1⟩ 0x18000 .conserved ∧
    stopsAt (.atom 0 0 0 0 1 1 2 0) cellData ⟨.atomic, 0, 4, 1, 1⟩ 0x18000 .conserved ∧
    stopsAt (.red 0 0 0 0 1 1 2 0) cellData ⟨.atomic, 0, 4, 1, 1⟩ 0x18000 .conserved ∧
    stopsAt (.vld 0 3 1 1 4 0) data ⟨.load, 0, 0, 1, 1⟩ 0x8000 .format ∧ Claims.categoryOf .conserved ≤ 2 ∧
    Claims.categoryOf .format ≤ 2 ∧ Claims.nothingInFlight cellData cellData.wave ∧ Claims.nothingInFlight data data.wave := by
  have e (s : State) (h : s.parts = data.parts) (f : s.fabric = data.fabric) (u : s.unanswered = []) :
      Claims.nothingInFlight s s.wave := by
    refine ⟨fun p h' e he => ?_, fun o ho => ?_, by rw [u]; rfl⟩
    · rw [h] at h'
      have : tget data.parts s.wave.span.part = some p := h'
      simp only [data, device, tget, List.find?] at this
      split at this <;> cases this
      cases he
    · rw [f] at ho
      cases ho
  refine ⟨?_, ?_, ?_, ?_, by decide, by decide, e _ rfl rfl rfl, e _ rfl rfl rfl⟩ <;> refine ⟨rfl, ?_⟩ <;> decide +kernel
theorem witness_scalar_access_traps :
    Claims.scalarAccess (.sst 0 1 2 0) cellData.wave = some (.store, 0x18000) ∧ acts (.sst 0 1 2 0) cellData = true ∧
    access cellData 0 0 .store 0x18000 8 = .error .conserved ∧ Claims.categoryOf .conserved ≤ 2 ∧
    translate cellData 0 0 0x18000 = .ok cellsLeaf ∧ Claims.loadsFreely cellData cellsLeaf ∧
    Claims.scalarAccess (.sld 0 2 3 0) data.wave = some (.load, 8) ∧ access data 0 0 .load 9 8 = .error .align :=
  ⟨by decide +kernel, by decide +kernel, is_error (by decide +kernel), by decide, is_ok (by decide +kernel), .inl (by decide),
    by decide +kernel, is_error (by decide +kernel)⟩
theorem witness_resolvable_faults :
    (let s := dataWith 0x40000 0 0
     Claims.scalarAccess (.sld 0 1 3 0) s.wave = some (.load, 0x40000) ∧ acts (.sld 0 1 3 0) s = true ∧
     access s s.wave.span.part s.wave.span.ctx .load 0x40000 8 = .error .notPresent ∧ tget s.parts s.wave.span.part = some part0) ∧
    (let s := dataWith 0x30000 0 0
     Claims.scalarAccess (.sst 0 1 3 0) s.wave = some (.store, 0x30000) ∧ acts (.sst 0 1 3 0) s = true ∧
     access s s.wave.span.part s.wave.span.ctx .store 0x30000 8 = .error .perm) ∧
    part0.held = [] ∧ part0.ring = [] ∧ 0 < part0.buffers ∧
    (let s : State := { data with wave := { dataWave with a := [(1, TReg.unbound)], v := entries [(127, 8), (128, 3), (191, 5)] } }
     stopsAt (.atom 0 0 0 0 1 1 2 0) { s with wave := { s.wave with a := [(1, ⟨0x40000, 0, 0, 0, 0, 0⟩)] } } ⟨.atomic, 0, 4, 1, 1⟩
       0x40000 .notPresent) := by
  refine ⟨⟨by decide +kernel, by decide +kernel, is_error (by decide +kernel), rfl⟩,
    ⟨by decide +kernel, by decide +kernel, is_error (by decide +kernel)⟩, rfl, rfl, by decide, rfl, ?_⟩
  decide +kernel

/-! Locks, barriers, fences and channels. -/

/-- The lock on the word at 0x68000. -/
def lockOf (holder : Nat) (waiters : List Nat) : Lock := ⟨0x68000, 0, 0x8000, holder, 0, 0, waiters⟩
/-- Another wave of the same block. -/
def wave5 : Wave := { aWave with id := 5, index := 1, place := 1, wait := .locking 0x68000 0x8000 }

theorem witness_qlock_free :
    acts (.qlock 1 0) data = true ∧ access data 0 0 .lock (data.wave.sval 1).toNat 8 = .ok dataLeaf ∧
    findLock data 0 (dataLeaf.pa (data.wave.sval 1).toNat) = none ∧
    unitLoad data (lockUnit data 0 (dataLeaf.pa (data.wave.sval 1).toNat)) < 64 :=
  ⟨by decide +kernel, is_ok (by decide +kernel), by decide +kernel, by decide +kernel⟩
theorem witness_qlock_held :
    let s : State := { data with locks := [lockOf 5 []] }
    acts (.qlock 1 0) s = true ∧ access s 0 0 .lock (s.wave.sval 1).toNat 8 = .ok dataLeaf ∧
    findLock s 0 (dataLeaf.pa (s.wave.sval 1).toNat) = some (lockOf 5 []) ∧ (lockOf 5 []).holder ≠ s.wave.id ∧
    (lockOf 5 []).key < 4096 :=
  ⟨by decide +kernel, is_ok (by decide +kernel), by decide +kernel, by decide, by decide⟩
theorem witness_qunlock :
    (let s : State := { data with locks := [lockOf 0 []] }
     acts (.qunlock 1 0) s = true ∧ access s 0 0 .lock (s.wave.sval 1).toNat 8 = .ok dataLeaf ∧
     findLock s 0 (dataLeaf.pa (s.wave.sval 1).toNat) = some (lockOf 0 []) ∧ (lockOf 0 []).holder = s.wave.id ∧ s.lockQ = []) ∧
    (let s : State := { data with locks := [lockOf 0 [5]], waves := [wave5] }
     acts (.qunlock 1 0) s = true ∧ access s 0 0 .lock (s.wave.sval 1).toNat 8 = .ok dataLeaf ∧
     findLock s 0 (dataLeaf.pa (s.wave.sval 1).toNat) = some (lockOf 0 [5]) ∧ 5 ≠ s.wave.id ∧ s.wave.wait ≠ .vacant ∧
     s.waves.find? (fun x => x.id == 5) = some wave5) :=
  ⟨⟨by decide +kernel, is_ok (by decide +kernel), by decide +kernel, rfl, rfl⟩,
    ⟨by decide +kernel, is_ok (by decide +kernel), by decide +kernel, by decide, by decide, by decide +kernel⟩⟩
theorem witness_barriers :
    acts (.bar 0) data = true ∧ data.wave.satctl.getLsbD 0 = false ∧
    (∀ x ∈ data.waves, Claims.together .block data.wave x → ∃ n, x.wait = .barrier .block n) ∧
    (let s : State := { data with waves := [wave5] }
     acts (.sbar 0) s = true ∧ ¬∀ x ∈ s.waves, Claims.together .span s.wave x → ∃ n, x.wait = .barrier .span n) := by
  refine ⟨by decide +kernel, rfl, fun x hx => by simp [data, device, State.reset] at hx, by decide +kernel, fun h => ?_⟩
  obtain ⟨n, hn⟩ := h wave5 (List.mem_singleton.2 rfl) ⟨rfl, rfl, rfl, fun _ => rfl, fun h => by cases h⟩
  simp [wave5] at hn

/-- A launch of one block of one wave; a grid with the flag, or a graph node's. -/
def launch0 (gbar graph : Bool) : Launch :=
  ⟨56, 1, 1, gbar, false, graph, 0, 4096, [6, 6, 6, 6, 6], [1, 1, 1], 0x40, 0, 8, 1000, [3], 64, none, [], 0⟩
/-- `data` with that launch open. -/
def launched (gbar graph : Bool) : State :=
  { data with parts := [(0, { part0 with ctxs :=
      [(0, { Ctx.opened 0x40000 0x10000 1 false 0 with
        launches := [(0, launch0 gbar graph)], nodes := [(3, ⟨0, 0, [], 0, []⟩)] })] })] }

theorem witness_grid_barrier :
    acts (.gbar 0) (launched true false) = true ∧
    (∃ g, (launched true false).launchOf (launched true false).wave.span = some g ∧ g.gbar = true) ∧
    acts (.gbar 0) (launched false false) = true ∧
    (∀ g, (launched false false).launchOf (launched false false).wave.span = some g → g.gbar = false) := by
  refine ⟨by decide +kernel, ⟨launch0 true false, by decide +kernel, rfl⟩, by decide +kernel, fun g h => ?_⟩
  have e : (launched false false).launchOf (launched false false).wave.span = some (launch0 false false) := by decide +kernel
  rw [e] at h
  cases h
  rfl
theorem witness_barrier_traps :
    let s : State := { data with wave := { dataWave with satctl := 1 } }
    acts (.bar 0) s = true ∧ s.wave.satctl.getLsbD 0 = true := by decide +kernel

theorem nothing_in_flight : Claims.nothingInFlight data data.wave := by
  refine ⟨fun p h e he => ?_, fun o h => ?_, rfl⟩
  · cases h; cases he
  · cases h
theorem witness_fences :
    acts (.fence 5 0) data = true ∧ acts (.wfence 0) data = true ∧ Claims.nothingInFlight data data.wave ∧
    data.wave.refused = [] ∧
    (let s : State := { data with unanswered := [(0, 1)] }
     acts (.fence 4 0) s = true ∧ acts (.wfence 0) s = true ∧ ¬Claims.nothingInFlight s s.wave ∧ acts (.fence 3 0) s = true) :=
  ⟨by decide +kernel, by decide +kernel, nothing_in_flight, rfl, by decide +kernel, by decide +kernel,
    fun h => absurd h.2.2 (by decide +kernel), by decide +kernel⟩
theorem witness_channels :
    data.findSpan data.wave.span = some span0 ∧ (∀ w ∈ data.waves, ¬Claims.waitsOn data.wave.span 3 w) ∧
    ¬Claims.waitsOn data.wave.span 3 data.wave ∧ acts (.send 0 3 2 0) data = true ∧ acts (.recv 0 3 2 0) data = true ∧
    (Claims.channel data 3).length < 4 ∧
    (let s : State := { data with spans := [{ span0 with channels := [(3, [[], [], [], []])] }] }
     acts (.send 0 3 2 0) s = true ∧ acts (.recv 0 3 2 0) s = true ∧ Claims.channel s 3 = [[], [], [], []]) := by
  refine ⟨by decide +kernel, fun w h => (by cases h), ?_, by decide +kernel, by decide +kernel, by decide +kernel, by decide +kernel,
    by decide +kernel, by decide +kernel⟩
  rintro ⟨-, ⟨p, n, h⟩ | ⟨d, m, n, h⟩⟩ <;> simp [data, device, dataWave, aWave] at h

/-! Engine commands, records and tiles. -/

theorem witness_posting :
    Claims.posting (.cpy 0 1 3 0) = some (1, 0, 1, 3) ∧ acts (.cpy 0 1 3 0) data = true ∧ (data.wave.sval 1).toNat % 64 = 0 ∧
    (∀ j ∈ List.range (Claims.descriptorSize 1 / Claims.descriptorPiece 1),
      access data 0 0 .load (((data.wave.sval 1).toNat + 64 * j) % 2 ^ 64) (Claims.descriptorPiece 1) = .ok dataLeaf ∧
      Claims.unpoisoned data dataLeaf (((data.wave.sval 1).toNat + 64 * j) % 2 ^ 64) (Claims.descriptorPiece 1) ∧
      Claims.loadsFreely data dataLeaf) ∧
    ((data.coreOf 0).queue 1).length < 32 := by
  have h : ∀ j < 4, isOk dataLeaf (access data 0 0 .load (((data.wave.sval 1).toNat + 64 * j) % 2 ^ 64) 64) = true := by
    decide +kernel
  exact ⟨rfl, by decide +kernel, by decide +kernel,
    fun j hj => ⟨is_ok (h j (List.mem_range.1 hj)), fun _ _ => rfl, data_loads_freely _⟩, by decide +kernel⟩
theorem witness_posting_claims_its_successor :
    let s := issued (dataWith 0x8000 0x200 0) [{ copy0 with held := true }] []
    let x := s.wave.sval 2
    Claims.posting (.mxloop 2 1 3 0) = some (0, 2, 1, 3) ∧ acts (.mxloop 2 1 3 0) s = true ∧
    (Claims.slotOwned s 0 ∧ Claims.ownerSound s 0) ∧
    x.toNat / 2 ^ 12 % 16 = 0 ∧ x.toNat / 2 ^ 48 = 0 ∧ x.toNat % 512 = 0 ∧ tokenQueue x ≠ 0 ∧ tokenQueue x ≤ 4 ∧
    { copy0 with held := true } ∈ (s.coreOf 0).queue (tokenQueue x) ∧ tokenSeq x = 0 := by
  unfold Claims.slotOwned Claims.ownerSound
  refine ⟨rfl, by decide +kernel, by decide +kernel, by decide +kernel, by decide +kernel, by decide +kernel, by decide +kernel,
    by decide +kernel, by decide +kernel, by decide +kernel⟩
theorem witness_qfence :
    acts (.qfence 0 2 3 0) data = true ∧ (data.coreOf data.wave.core).fences = [] := by decide +kernel
theorem witness_emit :
    let s := launched false true
    let c : Ctx := { Ctx.opened 0x40000 0x10000 1 false 0 with
      launches := [(0, launch0 false true)], nodes := [(3, ⟨0, 0, [], 0, []⟩)] }
    acts (.emit 0 3 2 0) s = true ∧ s.launchOf s.wave.span = some (launch0 false true) ∧ (launch0 false true).graph = true ∧
    (s.wave.sval 3).toNat ≤ 15 ∧ (launch0 false true).succ.getD (s.wave.sval 3).toNat 0xFFFF = 3 ∧
    s.findCtx 0 0 = some c ∧ tget c.nodes 3 = some ⟨0, 0, [], 0, []⟩ ∧ s.findBlock s.wave.span s.wave.block = some block0 ∧
    block0.emitted + (Claims.lanesIn (s.wave.active &&& s.wave.mval 0)).length ≤ (launch0 false true).emitMax := by
  decide +kernel
theorem witness_recin :
    let b : Block := { block0 with records := some [[1, 2, 3]] }
    let s : State := { data with blocks := [b] }
    acts (.recin 0 4 0) s = true ∧ s.findBlock s.wave.span s.wave.block = some b ∧ b.records = some [[1, 2, 3]] := by
  decide +kernel

theorem witness_tile_moves :
    Claims.slotReady small 0 ∧ acts (.mxzero 0 0) small = true ∧ acts (.mxrdz 0 4 0 0) small = true ∧
    (small.coreOf 0).poisonZ = [] ∧ acts (.mxldz 1 0 0) small = true ∧ (small.wave.sval 1).toNat % 64 = 0 ∧
    ∀ j < 64, access small 0 0 .load (((small.wave.sval 1).toNat + 64 * j) % 2 ^ 64) 64 = .ok dataLeaf ∧ dataLeaf.efmt = 0 ∧
      Claims.unpoisoned small dataLeaf (((small.wave.sval 1).toNat + 64 * j) % 2 ^ 64) 64 := by
  have h : ∀ j < 64, isOk dataLeaf (access small 0 0 .load (((small.wave.sval 1).toNat + 64 * j) % 2 ^ 64) 64) = true := by
    decide +kernel
  refine ⟨?_, by decide +kernel, by decide +kernel, by decide +kernel, by decide +kernel, by decide +kernel,
    fun j hj => ⟨is_ok (h j hj), by decide, fun _ _ => rfl⟩⟩
  unfold Claims.slotReady Claims.slotOwned Claims.ownerSound; decide +kernel
theorem witness_mxstz :
    Claims.slotReady small 0 ∧ acts (.mxstz 1 0 0) small = true ∧ (small.wave.sval 1).toNat % 64 = 0 ∧
    Claims.slotSound (small.coreOf 0) 0 ∧
    ∀ j < 64, access small 0 0 .store (((small.wave.sval 1).toNat + 64 * j) % 2 ^ 64) 64 = .ok dataLeaf ∧ dataLeaf.efmt = 0 := by
  have h : ∀ j < 64, isOk dataLeaf (access small 0 0 .store (((small.wave.sval 1).toNat + 64 * j) % 2 ^ 64) 64) = true := by
    decide +kernel
  exact ⟨witness_tile_moves.1, by decide +kernel, by decide +kernel, fun e he => (by cases he),
    fun j hj => ⟨is_ok (h j hj), by decide⟩⟩

/-- `data` with line 0 of the tile store tagged for FP8 and INT8 steps. -/
def lined (tag : BitVec 4) : State :=
  { data with cores := [(0, { Core.empty with tags := (List.range 32).map (fun j => (j, tag)) })] }

theorem witness_mxmma :
    Claims.slotReady (lined 5) 0 ∧ acts (.mxmma 4 0 8 0 0) (lined 5) = true ∧ ((lined 5).wave.sval 0).toNat ≤ 3071 ∧
    (∀ j < 32, tagAccepted 4 (sget ((lined 5).coreOf 0).tags (32 * ((lined 5).wave.sval 0).toNat + j)).toNat = true) ∧
    Claims.slotSound ((lined 5).coreOf 0) 0 ∧
    (∀ k < 64, sget ((lined 5).coreOf 0).poisonT (64 * ((lined 5).wave.sval 0).toNat + k) = 0) := by
  refine ⟨?_, by decide +kernel, by decide +kernel, by decide +kernel, fun e he => (by cases he), fun _ _ => rfl⟩
  unfold Claims.slotReady Claims.slotOwned Claims.ownerSound; decide +kernel
theorem witness_mxchk :
    Claims.slotReady data 0 ∧ acts (.mxchk 1 3 0 0) data = true ∧ Claims.slotSound (data.coreOf 0) 0 ∧
    ∀ column index, checkSlot (data.coreOf 0) 0 ≠ .mismatch column index := by
  have h : checkSlot (data.coreOf 0) 0 = .agree := by decide +kernel
  exact ⟨witness_tile_moves.1, by decide +kernel, fun e he => (by cases he), fun c i => by rw [h]; simp⟩
theorem witness_posting_chained :
    let s := issued (dataWith 0x8000 0x200 0) [] []
    Claims.posting (.cbld 2 1 3 0) = some (3, 2, 1, 3) ∧ acts (.cbld 2 1 3 0) s = true ∧
    (∀ k ∈ (s.coreOf 0).queue (tokenQueue (s.wave.sval 2)), k.seq ≠ tokenSeq (s.wave.sval 2)) := by
  refine ⟨rfl, by decide +kernel, by decide +kernel⟩

/-! Conserved domains and remote access. -/

/-- Domain 1: two cells on the conserved page, one account that holds 100, a link to domain 5 of device 1. -/
def domain1 : Domain := ⟨0, 0x18000, 2, 10, [100], 0, [⟨true, 1, 5, 0, 0, 0, 0⟩], [(3, cellsLeaf)], []⟩
/-- The wave bound to domain 1, its lanes with amounts 3 and 2 in v3, sources (account 0, cell 0) in v1, destination cell 1 in v2. -/
def boundWave : Wave :=
  { dataWave with
    xdom := 0x8000000000018001, a := [(15, ⟨0x18000, 0x8000, 0x78000, 0x8000, 0x78047, 0x2000⟩)],
    v := entries [(64, 0x80000000), (128, 1), (191, 1), (192, 3), (255, 2)] }
/-- Partition 0 with domain 1. -/
def domainPart : Partition := { part0 with domains := [(1, domain1)] }
/-- A device with domain 1 sealed, its first cell holding 10, in a domain of devices 0 and 1. -/
def sealed : State :=
  { device boundWave (dword 0x78000 10) with
    parts := [(0, domainPart)], marks := [(15, (0, 1))], fabric := ⟨some 0, [0, 1], [], [], [], [], [], [], []⟩ }
/-- `sealed` with destinations over link 0 to the peer's cell 9, and cell sources. -/
def crossed : State :=
  { sealed with wave := { boundWave with v := entries [(64, 0x80000000), (128, 9), (191, 9), (192, 3), (255, 2)] } }

theorem witness_fbind :
    (let s := dataWith 64 0 0
     acts (.fbind 1 0) s = true ∧ 64 ≤ (s.wave.sval 1).toNat ∧ (s.wave.sval 1).toNat < 128) ∧
    (let s : State := { sealed with wave := { boundWave with s := entries [(1, 1)] } }
     acts (.fbind 1 0) s = true ∧ (s.wave.sval 1).toNat < 64 ∧ findDomain s 0 (s.wave.sval 1).toNat = some domain1 ∧
     translate s 0 0 domain1.base = .ok cellsLeaf) :=
  ⟨by decide +kernel, by decide +kernel, by decide +kernel, by decide +kernel, is_ok (by decide +kernel)⟩

/-- A seal record at 0x8000: domain 1 with one account of 5, two cells at 0x18000, link 0 to domain 5 of device 1. -/
def sealBytes : Memory :=
  dword 0x58030 0x78047 ++ dword 0x58038 0x2000 ++ dword 0x68000 0x101 ++ dword 0x68008 0x18000 ++ dword 0x68010 2 ++
  dword 0x68040 5 ++ dword 0x680C0 0x10501 ++ dword 0x78000 10
/-- A device with that record and its cells. -/
def sealRecord : State := { small with mem := small.mem ++ sealBytes }

theorem witness_seal :
    acts (.fbindSeal 1 0) sealRecord = true ∧ tget sealRecord.parts 0 = some part0 ∧ (sealRecord.wave.sval 1).toNat = 0x8000 ∧
    (∀ j < 5, access sealRecord 0 0 .load ((0x8000 + 64 * j) % 2 ^ 64) 64 = .ok dataLeaf ∧
      Claims.unpoisoned sealRecord dataLeaf ((0x8000 + 64 * j) % 2 ^ 64) 64) ∧
    Claims.recordFits (fun k => ((List.range 40).map (fun k => loadLe sealRecord dataLeaf ((0x8000 + 64 * (k / 8)) % 2 ^ 64 + 8 * (k % 8)) 8)).getD k 0) ∧
    tget part0.domains 1 = none ∧
    ∀ c < 2, cellLeaf sealRecord 0 0 1 (0x18000 + 4 * c) = .ok cellsLeaf ∧
      tget sealRecord.marks (cellsLeaf.pa (0x18000 + 4 * c) / 2 ^ 15) = none ∧
      0 ≤ Claims.content sealRecord cellsLeaf (0x18000 + 4 * c) := by
  have h : ∀ j < 5, isOk dataLeaf (access sealRecord 0 0 .load ((0x8000 + 64 * j) % 2 ^ 64) 64) = true := by decide +kernel
  have g : ∀ c < 2, isOk cellsLeaf (cellLeaf sealRecord 0 0 1 (0x18000 + 4 * c)) = true ∧
      0 ≤ Claims.content sealRecord cellsLeaf (0x18000 + 4 * c) := by decide +kernel
  exact ⟨by decide +kernel, rfl, by decide +kernel, fun j hj => ⟨is_ok (h j hj), fun _ _ => rfl⟩,
    by unfold Claims.recordFits; decide +kernel, rfl,
    fun c hc => ⟨is_ok (g c hc).1, rfl, (g c hc).2⟩⟩
theorem witness_ftotal :
    acts (.ftotal 1 0 3 0) sealed = true ∧ boundDomain sealed sealed.wave = some (1, domain1) ∧ 0 < domain1.bal.length ∧
    acts (.ftotal 7 0 3 0) sealed = true ∧ acts (.ftotal 9 0 3 0) sealed = true := by decide +kernel

/-- The lanes of a transfer of `boundWave`. -/
def lanesOf (s : State) : List XferLane := Claims.transferLanes s.wave (s.wave.active &&& s.wave.mval 0) 2 1 3

theorem witness_xfer :
    acts (.xfer 0 2 1 3 0) sealed = true ∧ boundDomain sealed sealed.wave = some (1, domain1) ∧
    Claims.namedCells false (lanesOf sealed) = [1, 0] ∧
    (∀ c ∈ [1, 0], c < domain1.ncell ∧ cellVia sealed sealed.wave (sealed.wave.areg 15) 1 domain1.base c = .ok cellsLeaf ∧
      Claims.unpoisoned sealed cellsLeaf (domain1.base + 4 * c) 4 ∧ cellsLeaf.pa (domain1.base + 4 * c) % 4 = 0 ∧
      (∀ j < 4, cellsLeaf.pa (domain1.base + 4 * c + j) = cellsLeaf.pa (domain1.base + 4 * c) + j) ∧
      0 ≤ Claims.content sealed cellsLeaf (domain1.base + 4 * c) + Claims.delta false (lanesOf sealed) c ∧
      Claims.content sealed cellsLeaf (domain1.base + 4 * c) + Claims.delta false (lanesOf sealed) c < 2 ^ 31) ∧
    (∀ r ∈ lanesOf sealed, ∀ x ∈ Claims.named false r, 2 ^ 31 ≤ x → x < 2 ^ 31 + 16 ∧ x < 2 ^ 31 + domain1.bal.length) ∧
    domain1.bal.getD 0 0 + Claims.delta false (lanesOf sealed) (2 ^ 31) = 97 := by
  have h : ∀ c ∈ [1, 0], c < domain1.ncell ∧
      isOk cellsLeaf (cellVia sealed sealed.wave (sealed.wave.areg 15) 1 domain1.base c) = true ∧
      cellsLeaf.pa (domain1.base + 4 * c) % 4 = 0 ∧
      (∀ j < 4, cellsLeaf.pa (domain1.base + 4 * c + j) = cellsLeaf.pa (domain1.base + 4 * c) + j) ∧
      0 ≤ Claims.content sealed cellsLeaf (domain1.base + 4 * c) + Claims.delta false (lanesOf sealed) c ∧
      Claims.content sealed cellsLeaf (domain1.base + 4 * c) + Claims.delta false (lanesOf sealed) c < 2 ^ 31 := by
    decide +kernel
  exact ⟨by decide +kernel, by decide +kernel, by decide +kernel,
    fun c hc => ⟨(h c hc).1, is_ok (h c hc).2.1, fun _ _ => rfl, (h c hc).2.2⟩, by decide +kernel, by decide +kernel⟩
theorem witness_xferx :
    acts (.xferx 0 2 1 3 0) crossed = true ∧ boundDomain crossed crossed.wave = some (1, domain1) ∧
    Claims.namedCells true (lanesOf crossed) = [0] ∧
    cellVia crossed crossed.wave (crossed.wave.areg 15) 1 domain1.base 0 = .ok cellsLeaf ∧
    0 ≤ Claims.content crossed cellsLeaf domain1.base + Claims.delta true (lanesOf crossed) 0 ∧
    (∀ r ∈ lanesOf crossed, 0 ≤ r.amount.toInt ∧
      domain1.links[Claims.linkOf r]? = some ⟨true, 1, 5, 0, 0, 0, 0⟩) ∧ reachable crossed 1 = true :=
  ⟨by decide +kernel, by decide +kernel, by decide +kernel, is_ok (by decide +kernel), by decide +kernel, by decide +kernel,
    by decide +kernel⟩
theorem witness_transfers_conserve :
    (∃ t, exec (.xfer 0 2 1 3 0) sealed = .next t) ∧ (∃ t, exec (.xferx 0 2 1 3 0) crossed = .next t) ∧
    boundDomain sealed sealed.wave = some (1, domain1) ∧ boundDomain crossed crossed.wave = some (1, domain1) :=
  ⟨⟨_, goes_next (by decide +kernel)⟩, ⟨_, goes_next (by decide +kernel)⟩, by decide +kernel, by decide +kernel⟩
theorem witness_domain_faults :
    boundDomain data data.wave = none ∧ data.wave.poisonV = [] ∧ acts (.xfer 0 2 1 3 0) data = true ∧
    acts (.xferx 0 2 1 3 0) data = true ∧ acts (.ftotal 2 0 3 0) data = true ∧
    (let s := dataWith 128 0 0
     acts (.fbind 1 0) s = true ∧ 128 ≤ (s.wave.sval 1).toNat) ∧
    acts (.fbind 2 0) data = true ∧ (data.wave.sval 2).toNat < 64 ∧ findDomain data 0 (data.wave.sval 2).toNat = none := by
  decide +kernel

/-- Remote-access entry 2: context 32, window at 0x100000 of 256 bytes, replies at the data page. -/
def ratWords : EntryWords := ⟨0x00200001, 0x100000, 0x100, 0x8000⟩
/-- `data` in a domain of devices 0 and 1 with entry 2, and a peer value in s2. -/
def remote (peer : Word64) : State :=
  { dataWith 0x8000 peer 0 with
    parts := [(0, { part0 with rat := [(2, ratWords)] })], fabric := ⟨some 0, [0, 1], [], [], [], [], [], [], []⟩ }
/-- The lanes of a request of `remote`. -/
def peerLanes (s : State) : List PeerLane := Claims.remoteLanes s.wave (s.wave.active &&& s.wave.mval 0) false 2 1 2

theorem witness_remote :
    acts (.rst 0 0 2 1 2 0) (remote 0x201) = true ∧ acts (.ratom 0 0 0 2 1 2 0) (remote 0x201) = true ∧
    ∀ r ∈ peerLanes (remote 0x201), Claims.peerGood (remote 0x201) true r ratWords := by
  have e : peerLanes (remote 0x201) = [⟨0, 0x201, 0, 3⟩, ⟨63, 0x201, 8, 5⟩] := by decide +kernel
  refine ⟨by decide +kernel, by decide +kernel, fun r hr => ?_⟩
  rw [e] at hr
  rcases List.mem_cons.1 hr with rfl | hr
  · exact ⟨by decide, fun h => (by cases h), by decide +kernel, by decide +kernel, by decide, by decide,
      fun _ => ⟨dataLeaf, is_ok (by decide +kernel)⟩⟩
  · cases List.mem_singleton.1 hr
    exact ⟨by decide, fun h => (by cases h), by decide +kernel, by decide +kernel, by decide, by decide,
      fun _ => ⟨dataLeaf, is_ok (by decide +kernel)⟩⟩
theorem witness_remote_faults :
    (acts (.rst 0 0 2 1 2 0) (remote 0x4201) = true ∧
      peerLanes (remote 0x4201) = [] ++ ⟨0, 0x4201, 0, 3⟩ :: [⟨63, 0x4201, 8, 5⟩] ∧ (0x4201#64 &&& ~~~0x3F3FFF#64) ≠ 0) ∧
    (peerLanes (remote 0x301) = [] ++ ⟨0, 0x301, 0, 3⟩ :: [⟨63, 0x301, 8, 5⟩] ∧ ratEntry (remote 0x301) 0 3 = none) ∧
    (peerLanes (remote 0x202) = [] ++ ⟨0, 0x202, 0, 3⟩ :: [⟨63, 0x202, 8, 5⟩] ∧
      (ratEntry (remote 0x202) 0 2).isSome = true ∧ reachable (remote 0x202) 2 = false) := by decide +kernel

/-! Events: resets, boot, islands, the host window and the error banks. -/

/-- The device in the boot ROM at a stage. -/
def booting (stage : Nat) (waiting : Bool) : State :=
  { State.reset with boot := { State.reset.boot with stage := stage, waiting := waiting } }

theorem witness_resets :
    State.reset.boot.warm = false ∧ State.reset.host.failed = false ∧ (0xA5C30001#32).toNat / 2 ^ 16 = 0xA5C3 ∧
    (0xA5C30001#32).toNat % 2 = 1 ∧ (0xA5C40001#32).toNat / 2 ^ 16 ≠ 0xA5C3 ∧ State.reset.host.portUp.length = 2 ∧
    (partAt data 0).owner = some 0 ∧ frontLive data = true ∧ data.host.portUp.getD 0 false = true ∧
    (partAt { data with parts := [(0, { part0 with ctxs := [] })] } 0).ctxs = [] := by decide +kernel
theorem witness_boot_rom :
    Claims.romAt (booting 0 false) 0 ∧ Claims.romAt (booting 3 false) 3 ∧ Claims.romAt (booting 4 false) 4 ∧
    Claims.romAt (booting 5 false) 5 ∧ Claims.romAt (booting 7 false) 7 ∧ (booting 3 true).boot.waiting = true ∧
    2 ^ 26 + 7539 < 2 ^ 26 + 7540 ∧ leValue (((booting 5 false).boot.image ++ [1, 2, 3, 4]).take 4) ≠ 0x57514854 ∧
    leValue ((((booting 5 false).boot.image ++ [1, 2, 3, 4]).drop 16).take 8) ≤ 2 ^ 26 := by
  unfold Claims.romAt; decide
theorem witness_islands :
    (let s : State := { data with power := ⟨[], true, 0, []⟩ }
     s.power.above = true ∧ (islandAt s 0).state = .active ∧ (islandAt s 0).point = 0) ∧
    (let s : State := { data with power := ⟨[], false, 0, [(0, 0)]⟩, cyc := 10000 }
     tget s.power.hot (0 / 8) = some 0 ∧ s.cyc ≤ 0 + 10000 ∧ (islandAt s 0).point < 1) ∧
    (let s : State := { data with power := ⟨[], false, 0, [(0, 0)]⟩, cyc := 10001 }
     ¬(s.power.above = true ∨ ∃ x ∈ tget s.power.hot (0 / 8), s.cyc ≤ x + 10000)) ∧
    State.reset.power.above = false ∧ (∀ b ∈ data.blocks, islandOf b.core = 7 → b.ended = true) ∧
    (let q : Partition := { part0 with slots := [(0, ⟨0x1011, 0⟩)] }
     let s : State := { data with parts := [(0, q)] }
     (0, q) ∈ s.parts ∧ (0, ⟨0x1011, 0⟩) ∈ q.slots ∧ (0x1011#64).getLsbD 0 = true ∧
     (islandAt s (islandOf ((0x1011#64).toNat / 2 % 512))).state = .idle ∧ s.host.failed = false) := by decide +kernel
theorem witness_waking_island :
    (islandAt { data with islands := [(1, ⟨.off, 0, none, true⟩)] } 1).waking = true := by decide +kernel
theorem witness_semaphores :
    (semOrder State.reset 15).count .port1 = 1 ∧ (sget State.reset.host.sem 15).toNat % 2 = 0 ∧
    (let s : State := { State.reset with host := { State.reset.host with sem := [(15, 5)] } }
     (semOrder s 15).count .port1 = 1 ∧ (sget s.host.sem 15).toNat % 2 = 1 ∧ (sget s.host.sem 15).toNat / 2 % 4 = 2) := by
  decide +kernel
theorem witness_window_and_errors :
    (0x8000000000000000#64).getLsbD 63 = true ∧ 8 ≤ State.reset.boot.stage ∧ sectorPoisoned data 0x68000 = false ∧
    sectorPoisoned { data with poison := [(0x3400, 1)] } 0x68000 = true ∧ (0x68000 : Nat) < 0x9000000000 := by decide +kernel

/-! Events: waves, spans and the scheduler. -/

/-- An open page request of the wave, for the doubleword at 0x8008. -/
def load8008 : Service :=
  ⟨.sload 3 0x8008, .sld 1 1 3 0, 0, [.s 3], [], dataWave.checkpoint, 7, 64, 0x8008, 2, 0, false⟩
/-- `data` with that request, resident or not, at a CYC. -/
def serving (resident : Bool) (faults : List OpenFault) (cyc : Nat) : State :=
  { data with
    wave := { dataWave with service := some load8008, resident := resident }, cyc := cyc,
    parts := [(0, { part0 with faults := faults })] }

/-- Whether an attempt performs its accesses. -/
def performs (a : Attempt) : Bool := match a with
  | .performed _ => true
  | _ => false
/-- What `performs` says. -/
theorem performs_some {a : Attempt} (h : performs a = true) : ∃ u, a = .performed u := by
  cases a with
  | performed t => exact ⟨t, rfl⟩
  | _ => simp [performs] at h

theorem witness_replay :
    let s := serving true [] 0
    s.findWave 0 = some (focus s 0).wave ∧ (focus s 0).wave.service = some load8008 ∧ (focus s 0).wave.resident = true ∧
    load8008.declined = false ∧ coreRuns s 0 = true ∧ faultOpen s 0 7 = false ∧ (∃ u, replayAttempt load8008 (focus s 0) = .performed u) ∧
    access (focus s 0) 0 0 .load 0x8008 8 = .ok dataLeaf :=
  ⟨by decide +kernel, by decide +kernel, by decide +kernel, rfl, by decide +kernel, by decide +kernel, performs_some (by decide +kernel),
    is_ok (by decide +kernel)⟩
theorem witness_waiting_trap :
    let s : State := { data with wave := { dataWave with trap := some softTrap } }
    s.findWave 0 = some (focus s 0).wave ∧ (focus s 0).wave.trap = some softTrap ∧ (focus s 0).wave.service = none ∧
    (focus s 0).wave.resident = true ∧ coreRuns s (focus s 0).wave.core = true ∧ (focus s 0).wave.level = .user ∧
    access (focus s 0) 0 0 .store (focus s 0).wave.trapframe.toNat 1024 = .ok dataLeaf ∧ Claims.entryClean (focus s 0).wave ∧
    Claims.storesFreely (focus s 0) dataLeaf :=
  ⟨by decide +kernel, by decide +kernel, by decide +kernel, by decide +kernel, by decide +kernel, by decide +kernel,
    is_ok (by decide +kernel), by unfold Claims.entryClean; decide +kernel, data_stores_freely _⟩
theorem witness_sleep_ends :
    let w : Wave := { dataWave with wait := .sleeping 5 }
    let s : State := { data with wave := w, cyc := 5 }
    s.findWave 0 = some w ∧ w.wait = .sleeping 5 ∧ 5 ≤ s.cyc := by decide +kernel

/-- A wave that waits for SEQ 0 of queue 1 at a CPWAIT of s1. -/
def promised : State :=
  issued { device { dataWave with wait := .retryToken 0x200 (some 3) } (dword 0x60040 0x00000B51) with cyc := 3 } [copy0] []

theorem witness_promise_expires :
    let f := focus promised 0
    let g := { (f.onWave (Wave.resumed f)) with fresh := f.fresh + 1 }
    promised.findWave 0 = some f.wave ∧ f.wave.wait = .retryToken 0x200 (some 3) ∧ f.wave.resident = true ∧ 3 ≤ promised.cyc ∧
    tokenPending promised f.wave 0x200 = true ∧ instrAt promised f.wave f.wave.pc.toNat = some (.cpwait 1 0) ∧
    coreRuns promised f.wave.core = true ∧ f.wave.level = .user ∧ f.wave.service = none ∧ f.wave.fuse = none ∧
    access g 0 0 .store g.wave.trapframe.toNat 1024 = .ok dataLeaf ∧ Claims.entryClean g.wave ∧ Claims.storesFreely g dataLeaf :=
  ⟨by decide +kernel, by decide +kernel, by decide +kernel, by decide +kernel, by decide +kernel, by decide +kernel,
    by decide +kernel, by decide +kernel, by decide +kernel, by decide +kernel, is_ok (by decide +kernel),
    by unfold Claims.entryClean; decide +kernel, data_stores_freely _⟩
theorem witness_save_and_relaunch :
    (let w : Wave := { dataWave with halting := some 0 }
     let s : State := { data with wave := w, cyc := 50000 }
     s.findWave 0 = some w ∧ w.halting = some 0 ∧ 0 + s.fw.preemptTimeout ≤ s.cyc) ∧
    (launched true false).launchOf ⟨0, 0, 0, 0⟩ = some (launch0 true false) ∧
    ((launched true false).spans.map (·.id)).Nodup := by decide +kernel
theorem witness_fault_times_out :
    (let s := serving false [⟨7, .wave 0, 0⟩] 10000000
     findFault s 0 7 = some ⟨7, .wave 0, 0⟩ ∧ 0 + s.fw.faultTimeout ≤ s.cyc ∧ s.findWave 0 = some s.wave ∧
     s.wave.service = some load8008 ∧ load8008.fault = 7 ∧ s.wave.resident = false) ∧
    coreRuns { serving true [⟨7, .wave 0, 0⟩] 10000000 with islands := [] } 0 = false ∧
    (let s := serving true [⟨7, .wave 0, 0⟩] 10000000
     let g := rewound load8008 (focus (closeFault s 0 7) 0)
     findFault s 0 7 = some ⟨7, .wave 0, 0⟩ ∧ s.wave.resident = true ∧ coreRuns s s.wave.core = true ∧ g.wave.level = .user ∧
     access g 0 0 .store g.wave.trapframe.toNat 1024 = .ok dataLeaf ∧ Claims.entryClean g.wave ∧ Claims.storesFreely g dataLeaf) :=
  ⟨by decide +kernel, by decide +kernel, by decide +kernel, by decide +kernel, by decide +kernel, by decide +kernel,
    is_ok (by decide +kernel), by unfold Claims.entryClean; decide +kernel, data_stores_freely _⟩

/-- Context 0 as it stands in `data`. -/
def ctx0 : Ctx := Ctx.opened 0x40000 0x10000 1 false 0

theorem witness_slices_and_aging :
    data.findCtx 0 0 = some ctx0 ∧ ctx0.leaving = none ∧ ctx0.closing = none ∧ ctxLive data 0 0 = true ∧
    (let c : Ctx := { ctx0 with launches := [(0, launch0 false true)], nodes := [(3, ⟨0, 0, [], 1, [(0, [[1]])]⟩)] }
     let s : State := { data with parts := [(0, { part0 with ctxs := [(0, c)] })], cyc := 20000000 }
     s.findCtx 0 0 = some c ∧ readyWork s 0 0 = true ∧ c.paused = none ∧ c.agedAt + 20000000 ≤ s.cyc) := by decide +kernel
theorem witness_dispatch :
    let s := launched false false
    let written : List BindWords := [⟨0x1003, 1⟩]
    let r : Bind := ⟨1, 0, true, [0, 0, 0, 0, 0, 0, 0, 0], 0, 0, 1, 0, 0⟩
    let a := onPart s 0 (fun q => written.foldl writeSlot q)
    frontLive s = true ∧ nextSpan (partAt a 0) = some [(0, r)] ∧ spanFailure a 0 [(0, r)] = none ∧
    (∀ w ∈ written, ∀ x ∈ s.findSpan ((bindOf w).id 0), x.phase ≠ .again) ∧ (partAt s 0).gathered.length ≤ (partAt s 0).slotHead ∧
    a.launchOf (r.id 0) = some (launch0 false false) ∧ mayDispatch a 0 (launch0 false false) [r] (r.id 0) = true ∧
    a.findSpan (r.id 0) = none := by decide +kernel
theorem witness_dispatch_fails :
    let s := launched false false
    let a := onPart s 0 (fun q => [⟨0x1011, 1⟩].foldl writeSlot q)
    let r : Bind := ⟨8, 0, true, [0, 0, 0, 0, 0, 0, 0, 0], 0, 0, 1, 0, 0⟩
    nextSpan (partAt a 0) = some [(0, r)] ∧ spanFailure a 0 [(0, r)] = some (0, 1) := by decide +kernel
theorem witness_node_flush :
    let n : Node := ⟨0, 0, [[1]], 0, []⟩
    let c : Ctx := { ctx0 with launches := [(0, launch0 false true)], nodes := [(3, n)] }
    let s : State := { data with parts := [(0, { part0 with ctxs := [(0, c)] })], cyc := 1000 }
    s.findCtx 0 (3 / 256) = some c ∧ tget c.nodes (3 % 256) = some n ∧ tget c.launches n.launch = some (launch0 false true) ∧
    n.queue ≠ [] ∧ n.since + (launch0 false true).flush ≤ s.cyc := by decide +kernel
theorem witness_scrub :
    (partAt { data with parts := [(0, { part0 with scrubs := [⟨0, 0, true, 0, 0, 0, true, false, 0, 0, 1, 0⟩] })] } 0).scrubs.find?
      (·.running) = some ⟨0, 0, true, 0, 0, 0, true, false, 0, 0, 1, 0⟩ := by decide +kernel

/-! Events: commands of a virtual function and of the management function. -/

/-- The bytes of doublewords. -/
def dwords (xs : List Nat) : List Byte := xs.flatMap (leSplit 8)

theorem data_command_acts : Claims.commandActs data 0 0 ctx0 := by
  unfold Claims.commandActs; decide +kernel
/-- `data` with context 0 paused at GTIME 5. -/
def pausedCtx : Ctx := { ctx0 with paused := some (5, 0) }
/-- See `pausedCtx`. -/
def pausedData : State := { data with parts := [(0, { part0 with ctxs := [(0, pausedCtx)] })] }
theorem witness_context_commands :
    (frontLive data = true ∧ (partAt data 0).owner.isSome = true ∧ data.findCtx 0 1 = none ∧ 0x48000 % 2 ^ 15 = 0) ∧
    Claims.commandActs data 0 0 ctx0 ∧ ctx0.paused = none ∧ scrubCovers data (partAt data 0) = false ∧
    Claims.commandActs pausedData 0 0 pausedCtx ∧ pausedCtx.paused = some (5, 0) := by
  refine ⟨by decide +kernel, data_command_acts, rfl, by decide +kernel, ?_, rfl⟩
  unfold Claims.commandActs; decide +kernel

/-- The code and data pages, with a launch header at 0x8040 and for a graph node a descriptor at 0x80C0. -/
def headed (graph : Bool) : Memory :=
  dword 0x40000 0x48001 ++ dword 0x48000 0x50001 ++ dword 0x50000 0x58001 ++ dword 0x58000 0x60143 ++ dword 0x58010 0x6800F ++
  dword 0x68040 (if graph then 0x41110 else 0x1110) ++ dword 0x68058 0x40 ++
  (if graph then dword 0x68068 0x80C0 ++ dword 0x680C0 1 else [])
/-- `small` with that memory. -/
def coded (graph : Bool) : State := { small with mem := headed graph }
/-- Whether a front-end read gives bytes. -/
def reads (bs : List Byte) (r : FrontRead) : Bool := decide (r = .got bs)
/-- What `reads` says. -/
theorem reads_got {bs : List Byte} {r : FrontRead} (h : reads bs r = true) : r = .got bs := by simpa [reads] using h
/-- The header's bytes. -/
def headerBytes (graph : Bool) : List Byte := dwords [if graph then 0x41110 else 0x1110, 0, 0, 0x40, 0, if graph then 0x80C0 else 0, 0, 0]
/-- The launch that the header gives. -/
def headedLaunch (graph : Bool) : Launch :=
  if graph then (headerLaunch (headerBytes true) (some 7)).described (dwords [1, 0, 0, 0, 0, 0, 0, 0])
  else headerLaunch (headerBytes false) none

theorem witness_launch : Claims.commandActs (coded false) 0 0 ctx0 ∧ Claims.launchRead (coded false) 0 0 0x8040 none (headedLaunch false) := by
  constructor
  · unfold Claims.commandActs; decide +kernel
  · unfold Claims.launchRead
    refine ⟨headerBytes false, [], by decide, reads_got (by decide +kernel), by decide +kernel, is_ok (by decide +kernel),
      by decide +kernel, reads_got (by decide +kernel), fun _ => by decide +kernel, fun h => ?_⟩
    exact absurd h (by decide +kernel)
theorem witness_node :
    Claims.commandActs (coded true) 0 0 ctx0 ∧ Claims.launchRead (coded true) 0 0 0x8040 (some 7) (headedLaunch true) ∧
    (headedLaunch true).graph = true ∧ tget ctx0.nodes 7 = none := by
  refine ⟨?_, ?_, by decide +kernel, rfl⟩
  · unfold Claims.commandActs; decide +kernel
  · unfold Claims.launchRead
    refine ⟨headerBytes true, [], by decide, reads_got (by decide +kernel), by decide +kernel, is_ok (by decide +kernel),
      by decide +kernel, reads_got (by decide +kernel), fun h => ?_, fun _ => ?_⟩
    · exact absurd h (by decide +kernel)
    · exact ⟨dwords [1, 0, 0, 0, 0, 0, 0, 0], reads_got (by decide +kernel), by decide +kernel, by decide +kernel⟩
/-- Context 0 with a node 3 of a graph launch. -/
def nodeCtx : Ctx := { ctx0 with launches := [(0, launch0 false true)], nodes := [(3, ⟨0, 0, [], 0, []⟩)] }
theorem witness_records :
    let s := launched false true
    Claims.commandActs s 0 0 nodeCtx ∧ tget nodeCtx.nodes 3 = some ⟨0, 0, [], 0, []⟩ ∧
    frontRead s 0 0 0x8000 (16 * 1) = .got (dwords [0x55, 0x66]) ∧ (partAt s 0).charged + 1 ≤ (partAt s 0).quota := by
  refine ⟨?_, rfl, reads_got (by decide +kernel), by decide +kernel⟩
  unfold Claims.commandActs; decide +kernel

/-- The fields of a flow to port 5 of a peer. -/
def flow5 : FlowFields := ⟨1, 2, 5, 6, 0, 7, 0, 9, 0⟩
theorem witness_tables :
    Claims.commandActs data 0 0 ctx0 ∧ windowOk (partAt data 0) 255 window = true ∧ window.w0.getLsbD 0 = true ∧
    ratOk ratWords = true ∧ ratWords.w0.getLsbD 0 = true ∧ flowOk flow5 = true ∧ findFault data 0 7 = none ∧
    tget (partAt (remote 0x201) 0).rat 2 = some ratWords ∧ (remote 0x201).fabric.outs = [] ∧
    (let o : OutPath := ⟨⟨1, 0, 258, false⟩, 1, [⟨0, 0, none, ⟨⟨1, 0, 258, false⟩, 0, .remoteStore 32 [⟨0, 0x100000, 7⟩] 0⟩⟩]⟩
     o.key.part = 0 ∧ o.key.number = 256 + 2 ∧ o.key.reverse = false ∧ ∃ k ∈ o.unacked, k.packet.payload =
       .remoteStore 32 [⟨0, 0x100000, 7⟩] 0) := by
  exact ⟨data_command_acts, by decide +kernel, by decide, by decide +kernel, by decide, by decide, by decide +kernel, by decide +kernel,
    by decide +kernel, by decide +kernel⟩
/-- `sealed` with the wave not bound, and an open request of that wave. -/
def released : State :=
  { sealed with wave := dataWave, parts := [(0, { domainPart with faults := [⟨7, .wave 0, 0⟩] })] }
theorem witness_domain_release :
    Claims.commandActs released 0 0 ctx0 ∧ findDomain released 0 1 = some domain1 ∧ domainBound released 0 1 = false ∧
    (∀ l ∈ domain1.links, l.sent = l.acked + l.refunded) ∧ recordComing released 0 1 = false ∧
    findFault released 0 7 = some ⟨7, .wave 0, 0⟩ := by
  refine ⟨?_, by decide +kernel, by decide +kernel, by decide +kernel, by decide +kernel, by decide +kernel⟩
  unfold Claims.commandActs; decide +kernel
/-- `sealed` with a domain of one cell, which is lost, its sector poisoned; monitor 64; and granted keys 9 and 10. -/
def broken : State :=
  { sealed with
    poison := [(0x3C00, 1)], keys := [(10, List.replicate 64 1)],
    parts := [(0, { part0 with
      domains := [(1, { domain1 with ncell := 1, lost := [0] })], grants := [9, 10],
      monitors := [(64, ⟨.level 5 0 3, [], 0, 0, true⟩)] })] }
theorem witness_upkeep :
    Claims.commandActs broken 0 0 ctx0 ∧ findDomain broken 0 1 = some { domain1 with ncell := 1, lost := [0] } ∧
    (∀ c < 1, domain1.homes.find? (fun h => h.1 == (domain1.base + 4 * c) / 2 ^ 15) =
      some ((domain1.base + 4 * c) / 2 ^ 15, cellsLeaf)) ∧
    monitorOk 79 (.level 6 0 31) = true ∧
    monitorOk 63 (.range 0x8000 0x8000 none) = true ∧ (tget (partAt broken 0).monitors 64).isSome = true ∧
    (partAt broken 0).grants.contains 9 = true ∧ tget broken.keys 9 = none ∧ (List.replicate 64 (1 : Byte)).length = 64 ∧
    (partAt broken 0).grants.contains 10 = true ∧ (broken.lineKey.map (·.1)).Nodup ∧
    (∀ e ∈ broken.array, e.1 = 0xF00 → e.2.key ≠ 10) := by
  unfold Claims.commandActs; decide +kernel
theorem witness_queues :
    Claims.commandActs data 0 0 ctx0 ∧ (partAt data 0).queue0 = [] ∧ (partAt data 0).held.length < 256 ∧
    (partAt data 0).ring = [] ∧ (partAt data 0).held.length ≤ (partAt data 0).buffers + 1 ∧
    (let s : State := { data with parts := [(0, { part0 with held := List.replicate 256 ⟨false, 0, 0, 0, 0, [], 0⟩ })] }
     frontLive s = true ∧ 256 ≤ (partAt s 0).held.length) ∧
    (let q : Partition := { part0 with ring := [⟨true, 5, 0, 0, 0, [], 0⟩] }
     q.queue0 = [] ∧ q.declined = 0 ∧ q.unlogged = 0 ∧ (q.held ++ q.ring).length ≤ q.buffers + 0) :=
  ⟨data_command_acts, by decide +kernel, by decide +kernel, by decide +kernel, by decide +kernel, by decide +kernel, by decide⟩
theorem witness_monitors :
    tget (partAt broken 0).monitors 64 = some ⟨.level 5 0 3, [], 0, 0, true⟩ ∧
    (let q : Partition := { part0 with monitors := [(0, ⟨.range 0 0x8000 none, [], 0, 0, false⟩)] }
     tget q.monitors 0 = some ⟨.range 0 0x8000 none, [], 0, 0, false⟩) := by decide +kernel
theorem witness_admin :
    Claims.adminActs data 0 ∧ (partAt data 31).owner = none ∧ (∀ e ∈ data.parts, e.2.meets 1 127 0x80000000 = false) ∧
    (∀ b ∈ data.blocks, b.ended = false → ¬(1 ≤ b.core / 4 ∧ b.core / 4 ≤ 127)) ∧
    (let s : State := { data with parts := [(0, { part0 with ctxs := [] })] }
     Claims.adminActs s 0 ∧ (partAt s 0).owner = some 0 ∧ (partAt s 0).ctxs = [] ∧ scrubCovers s (partAt s 0) = false) := by
  unfold Claims.adminActs; decide +kernel

/-! Events: the fabric and the network. -/

/-- The path of window 5 from device 1, partition 0. -/
def path5 : PathKey := ⟨1, 0, 5, false⟩
/-- The leaf of a page that may be received into. -/
def recvLeaf : Leaf := ⟨0x98000, 0x8000, 0x980CF, 0⟩
/-- A device with a receive page at 0x38000 and a payload at the head of a path. -/
def arriving (path : PathKey) (x : Payload) : State :=
  { device dataWave (dword 0x58070 0x980CF ++ dword 0x98000 40) with
    fabric := ⟨some 0, [0, 1], [], [], [], [], [⟨path, 1, [], [⟨path, 0, x⟩], none⟩], [], []⟩ }
/-- `sealed` with a payload at the head of a path, wave 0 having sent one record. -/
def sealedArriving (path : PathKey) (x : Payload) : State :=
  { sealed with
    fabric := ⟨some 0, [0, 1], [], [], [], [], [⟨path, 1, [], [⟨path, 0, x⟩], none⟩], [], []⟩, unanswered := [(0, 1)] }

/-- A store of two bytes. -/
def store2 : Payload := .store 0 0x38000 0x10000 [1, 2] 0
/-- A device that takes its events: its queue 1 has a buffer, and nothing is held. -/
theorem takes_events : tget data.parts 0 = some part0 ∧ part0.held = [] ∧ part0.ring = [] ∧ 0 < part0.buffers ∧
    part0.owner.isSome = true := by decide +kernel
/-- A packet that waits for its acknowledgement since CYC 0. -/
def sentPacket (path : PathKey) : Sent Packet := ⟨0, 0, none, ⟨path, 3, store2⟩⟩
theorem witness_packets :
    path5.number < 320 ∧ (512 ≤ 1535 ∧ 1535 < 1536) ∧ (320 ≤ 511 ∧ 511 < 512) ∧
    (inPath data path5).expected = 0 ∧ (inPath data path5).held = [] ∧ ((7#32) - (inPath data path5).expected).toNat < 2 ^ 31 ∧
    (let path : PathKey := ⟨1, 0, 319, false⟩
     let s : State := { data with cyc := 100000000, fabric := ⟨some 0, [0, 1], [], [], [], [⟨path, 4, [sentPacket path]⟩], [], [], []⟩ }
     unackedOn s path = sentPacket path :: [] ∧ path.number ≤ 319 ∧ 256 ≤ path.number ∧ 0 + 100000000 ≤ s.cyc) ∧
    (let q : Partition := { part0 with combining := [(path5, store2)] }
     let s : State := { data with parts := [(0, q)], fabric := ⟨some 0, [0, 1], [], [], [], [], [], [], []⟩ }
     tget s.parts 0 = some q ∧ q.combining = [] ++ (path5, store2) :: [] ∧ path5.number = 5 ∧ reachable s 1 = true ∧
     s.fabric.number = some 0 ∧ (0 : Nat) ≠ 2 ∧ (0 : Nat) / 16 = 2 / 16 ∧ (2 : Nat) % 16 ∉ s.fabric.down ∧ path5.part = 0) := by
  decide +kernel
theorem witness_stores :
    (nextPayload (arriving path5 store2) path5 = some store2 ∧ asidOpen (arriving path5 store2) 0 = true ∧
      arriveOne (arriving path5 store2) 0 0x38000 = .ok recvLeaf) ∧
    (let lanes : List RemoteLane := [⟨0, 0x38000, 7⟩, ⟨63, 0x38000, 8⟩]
     let s := arriving ⟨1, 0, 258, false⟩ (.remoteStore 0 lanes 0)
     nextPayload s ⟨1, 0, 258, false⟩ = some (.remoteStore 0 lanes 0) ∧ asidOpen s 0 = true ∧
     ∀ r ∈ lanes, arriveOne s 0 r.va = .ok recvLeaf) ∧
    (let s : State := { data with fabric := ⟨some 0, [0, 1], [], [], [], [], [⟨path5, 1, [], [⟨path5, 0, store2⟩], some 7⟩], [], []⟩ }
     (inPath s path5).fault = some 7 ∧ (inPath s path5).ready = ⟨path5, 0, store2⟩ :: [] ∧
     s.fabric.number ≠ some path5.peer ∧ tget s.parts (0 / 16) = some part0) := by
  have h : ∀ r ∈ ([⟨0, 0x38000, 7⟩, ⟨63, 0x38000, 8⟩] : List RemoteLane),
      isOk recvLeaf (arriveOne (arriving ⟨1, 0, 258, false⟩ (.remoteStore 0 [⟨0, 0x38000, 7⟩, ⟨63, 0x38000, 8⟩] 0)) 0 r.va) = true := by
    decide +kernel
  exact ⟨⟨by decide +kernel, by decide +kernel, is_ok (by decide +kernel)⟩,
    ⟨by decide +kernel, by decide +kernel, fun r hr => is_ok (h r hr)⟩, by decide +kernel⟩

/-- The path of remote-access entry 2. -/
def path258 : PathKey := ⟨1, 0, 258, false⟩
/-- Additions of 2 and of 3 to the word at 0x38000. -/
def twice : List RemoteLane := [⟨0, 0x38000, 2⟩, ⟨63, 0x38000, 3⟩]
/-- Their request. -/
def add2 : Payload := .remoteAtomic 0 0 twice 2 0x600 0x10202 0
theorem witness_remote_atomics :
    (nextPayload (arriving path258 add2) path258 = some add2 ∧ asidOpen (arriving path258 add2) 0 = true ∧
      ∀ r ∈ twice, arriveOne (arriving path258 add2) 0 r.va = .ok recvLeaf ∧
        Claims.unpoisoned (arriving path258 add2) recvLeaf r.va 4 ∧ recvLeaf.pa r.va % 4 = 0 ∧
        (∀ j < 4, recvLeaf.pa (r.va + j) = recvLeaf.pa r.va + j) ∧
        (40#32).toNat = loadLe (arriving path258 add2) recvLeaf r.va 4) ∧
    ((Claims.remoteWords 0 (fun r => recvLeaf.pa r.va) twice (fun _ => 40)).1 = [40, 42] ∧
      (Claims.remoteWords 0 (fun r => recvLeaf.pa r.va) twice (fun _ => 40)).2 0x98000 = 45) ∧
    (let back : PathKey := { path258 with reverse := true }
     let reply : Payload := .atomicReply 0 [⟨0, 0x38000, 40⟩] 0 0x600 0x10202 0
     let g : RatomGroup := ⟨0x10202, 1, 1, none, 0⟩
     let w : Wave := { dataWave with tokens := [(0x600, [g])] }
     let s : State := { remote 0x201 with
       wave := w, fabric := ⟨some 0, [0, 1], [], [], [], [], [⟨back, 1, [], [⟨back, 0, reply⟩], none⟩], [], []⟩ }
     nextPayload s back = some reply ∧ s.findWave (0 / 2) = some w ∧ tget w.tokens 0x600 = some [g] ∧
     ratEntry s back.part (0x10202 / 2 ^ 8 % 64) = some ratWords ∧ access s back.part 0 .store (0x8000 + 256 * 1) 4 = .ok dataLeaf) := by
  have h : ∀ r ∈ twice, isOk recvLeaf (arriveOne (arriving path258 add2) 0 r.va) = true ∧ recvLeaf.pa r.va % 4 = 0 ∧
      (∀ j < 4, recvLeaf.pa (r.va + j) = recvLeaf.pa r.va + j) ∧
      (40#32).toNat = loadLe (arriving path258 add2) recvLeaf r.va 4 := by decide +kernel
  exact ⟨⟨by decide +kernel, by decide +kernel, fun r hr => ⟨is_ok (h r hr).1, fun _ _ => rfl, (h r hr).2⟩⟩,
    ⟨by decide +kernel, by decide +kernel⟩, by decide +kernel, by decide +kernel, by decide +kernel,
    by decide +kernel, is_ok (by decide +kernel)⟩

/-- A path of records from domain 5 of device 1. -/
def pathOfRecords : PathKey := ⟨1, 0, 517, false⟩
/-- Whether a payload stands at the head of a path, and domain 1 is there. -/
def heads (path : PathKey) (x : Payload) : Bool :=
  decide (nextPayload (sealedArriving path x) path = some x ∧ findDomain (sealedArriving path x) path.part 1 = some domain1)
theorem witness_records_apply :
    heads pathOfRecords (.record 1 5 0 1 0 0x80000000 7 3) = true ∧ linkNaming domain1 1 5 = some 0 ∧
    0x80000000 / 2 ^ 4 % 2 ^ 23 = 0 ∧ 0x80000000 % 16 < domain1.bal.length ∧
    findDomain (sealedArriving pathOfRecords (.record 1 5 0 9 0 0 7 3)) 0 9 = none ∧
    (let x : Payload := .record 1 5 0 1 0 0 7 3
     heads pathOfRecords x = true ∧ 0 % 2 ^ 27 < domain1.ncell ∧
     cellLeaf (sealedArriving pathOfRecords x) 0 domain1.ctx 1 domain1.base = .ok cellsLeaf ∧
     Claims.unpoisoned (sealedArriving pathOfRecords x) cellsLeaf domain1.base 4 ∧
     -(2 ^ 31) ≤ cellValue (sealedArriving pathOfRecords x) cellsLeaf domain1.base + 7 ∧
     cellValue (sealedArriving pathOfRecords x) cellsLeaf domain1.base + 7 < 2 ^ 31) ∧
    (let x : Payload := .recordAck 1 0 7 0
     heads { pathOfRecords with reverse := true } x = true ∧ 0 < domain1.links.length) ∧
    (let x : Payload := .recordRefusal 1 0 0x80000000 9 7 1 0
     heads { pathOfRecords with reverse := true } x = true ∧ 0x80000000 % 16 < domain1.bal.length ∧
     (sealedArriving { pathOfRecords with reverse := true } x).findWave 0 = some boundWave) :=
  ⟨by decide +kernel, by decide +kernel, by decide, by decide, by decide +kernel,
    ⟨by decide +kernel, by decide, is_ok (by decide +kernel), fun _ _ => rfl, by decide +kernel, by decide +kernel⟩,
    by decide +kernel, by decide +kernel⟩

/-- A packet of flow 3 with PSN 9, two bytes for 0x38000 and an immediate for queue 4; its checksum is worked out by hand. -/
def netPacket : NetPacket :=
  { header := ⟨88, 0, false, true, false, 64, 0, 0, 2, 1, 6, 45170, 0x80B4, 1, 1, 0, 2⟩, flow := 3, asid := 0, psn := 9,
    va := 0x38000, payload := [1, 2], immediate := some (0xAB, 4) }
/-- A flow that expects PSN 9, with one packet of its own that is not acknowledged, and two packets received since the last one it
sent. -/
def flowState : Flow := ⟨flow5, 1000, [⟨0, 0, none, netPacket⟩], 9, [], 2, 0, [], [], 0, [], 0, 0, none⟩
/-- A device with a flow as flow 3. -/
def flowing (f : Flow) : State :=
  { device dataWave (dword 0x58070 0x980CF) with parts := [(0, { part0 with flows := [(3, f)] })], cyc := 100000000 }
/-- The same flow of that device. -/
def networked : State := flowing flowState

/-- Whether a packet's frame and header are good. -/
def good (x : NetPacket) : Prop := Claims.goodFrame x.header (Claims.dataDatagram x) ∧ Claims.goodHeader x
theorem test_checksum_of_a_datagram : udpChecksum netPacket.header (datagramBytes netPacket) = 0x80B4 := by decide +kernel
theorem good_packet : good netPacket := by
  unfold good Claims.goodFrame Claims.goodHeader Claims.checksumRight; decide +kernel
theorem witness_packet_dropped :
    ¬good { netPacket with flow := 4 } ∧ findFlow networked 0 4 = none := by
  unfold good Claims.goodFrame Claims.goodHeader Claims.checksumRight; decide +kernel
theorem witness_packet_taken :
    findFlow networked 0 netPacket.flow = some flowState ∧ good netPacket ∧
    (netPacket.psn - flowState.expected).toNat = 0 ∧ netPacket.psn ∉ flowState.beyond ∧ flowState.fault = none ∧
    (∀ e ∈ flowState.bad, e.1 ≠ netPacket.psn) ∧ flowState.expected ∉ flowState.beyond ∧
    (∀ e, netPacket.immediate = some e → queueLoad networked 0 (e.2 % 64) < 1024) ∧ netPacket.asid / 16 = 0 ∧
    asidOpen networked netPacket.asid = true ∧
    (∀ e ∈ payloadParts netPacket.va netPacket.payload, arriveOne networked netPacket.asid e.1 = .ok recvLeaf) ∧
    flowState.beyond = [] ∧ flowState.holding = [] ∧ flowState.spoiled = 0 ∧ firstListener networked 0 4 = none := by
  have h : ∀ e ∈ payloadParts netPacket.va netPacket.payload, isOk recvLeaf (arriveOne networked netPacket.asid e.1) = true := by
    decide +kernel
  exact ⟨by decide +kernel, good_packet, by decide, by decide, rfl, by decide, by decide,
    fun e he => by cases he; decide +kernel, by decide, by decide +kernel, fun e he => is_ok (h e he), rfl, rfl, rfl,
    by decide +kernel⟩
theorem witness_packet_without_an_immediate :
    let x : NetPacket := { netPacket with header := { netPacket.header with kind := 0, checksum := 0x2CBD }, immediate := none }
    let f : Flow := { flowState with sinceAck := 15 }
    good x ∧ findFlow (flowing f) 0 x.flow = some f ∧ x.psn = f.expected ∧ 16 ≤ f.sinceAck + 1 := by
  unfold good Claims.goodFrame Claims.goodHeader Claims.checksumRight; decide +kernel
theorem witness_packets_out_of_turn :
    (let f : Flow := { flowState with expected := 10 }
     findFlow (flowing f) 0 netPacket.flow = some f ∧ 2 ^ 15 ≤ (netPacket.psn - f.expected).toNat) ∧
    (let f : Flow := { flowState with expected := 8, beyond := [9] }
     findFlow (flowing f) 0 netPacket.flow = some f ∧ netPacket.psn ∈ f.beyond) ∧
    (let f : Flow := { flowState with expected := 8 }
     findFlow (flowing f) 0 netPacket.flow = some f ∧ (netPacket.psn - f.expected).toNat = 1 ∧ f.expected ∉ f.beyond) ∧
    (let f : Flow := { flowState with expected := 9 - 8192 }
     findFlow (flowing f) 0 netPacket.flow = some f ∧ (netPacket.psn - f.expected).toNat = 8192 ∧ netPacket.psn ∉ f.beyond) ∧
    (let f : Flow := { flowState with fault := some (7, 9) }
     findFlow (flowing f) 0 netPacket.flow = some f ∧ (netPacket.psn - f.expected).toNat < 2 ^ 15 ∧ netPacket.psn ∉ f.beyond ∧
     f.fault.isSome = true) := by decide +kernel
theorem witness_packet_refused :
    let x : NetPacket := { netPacket with asid := 1 }
    good x ∧ findFlow networked 0 x.flow = some flowState ∧ asidOpen networked x.asid = false ∧
    x.psn = flowState.expected := by
  unfold good Claims.goodFrame Claims.goodHeader Claims.checksumRight; decide +kernel
theorem witness_flows :
    findFlow networked 0 3 = some flowState ∧ findFlow networked 0 4 = none ∧ flowState.unacked = ⟨0, 0, none, netPacket⟩ :: [] ∧
    0 + 100000000 ≤ networked.cyc ∧ flowState.heard + 100000000 ≤ networked.cyc ∧ flowState.sinceAck ≠ 0 ∧
    flowState.ackedAt + 2000 ≤ networked.cyc ∧ ({ flowState with sinceAck := 0 } : Flow).sinceAck = 0 ∧
    networked.cyc < ({ flowState with ackedAt := 99998001 } : Flow).ackedAt + 2000 := by decide +kernel
/-- The header of an acknowledgement to flow 3; its checksum is worked out by hand. -/
def ackHeader : NetHeader := ⟨98, 0, false, true, false, 64, 0, 0, 2, 1, 6, 45170, 0x2F23, 1, 2, 0, 0⟩
theorem witness_acknowledgement :
    Claims.goodFrame ackHeader (Claims.ackDatagram ⟨⟨ackHeader, 3⟩, 10, 1, 0⟩) ∧ Claims.goodAck ackHeader ∧
    ¬Claims.goodAck { ackHeader with length := 1 } := by
  unfold Claims.goodFrame Claims.goodAck Claims.checksumRight; decide +kernel

/-! Events: the engines. -/

/-- A command at the head of a queue. -/
def queued (q : Nat) (c : Cmd) (k : Core) (s : State) : State :=
  { s with cores := [(0, { k with queues := [(q, [c])], nextSeq := [(q, 1)] })] }
/-- A copy of one word from offset 0 of the scratchpad to offset 0x100. -/
def copyWord : Cmd := { copy0 with desc := dwords ([0x2844, 0, 0x100, 0, 1] ++ List.replicate 27 0) }
/-- One step of an MXLOOP with INT8 operands. -/
def loop0 : Cmd := { copy0 with fn := 0, desc := dwords [0x100000040, 0, 0, 0] }
theorem witness_commands_start :
    (let c := { copy0 with chain := true }
     headCmd (queued 1 c Core.empty data) 0 1 = some c ∧ mayStart ((queued 1 c Core.empty data).coreOf 0) c = true) ∧
    (let c := { copyWord with desc := dwords (0x8002844 :: List.replicate 31 0) }
     headCmd (queued 1 c Core.empty data) 0 1 = some c ∧ c.reservedOk = false ∧
     mayStart ((queued 1 c Core.empty data).coreOf 0) c = true) ∧
    (headCmd (queued 0 loop0 Core.empty data) 0 0 = some loop0 ∧ loop0.reservedOk = true ∧ loop0.loopOk = true ∧
     mayStart ((queued 0 loop0 Core.empty data).coreOf 0) loop0 = true ∧
     tileInService (queued 0 loop0 Core.empty data) 0 loop0.tile = false) ∧
    (let s := queued 1 copyWord Core.empty data
     headCmd s 0 1 = some copyWord ∧ mayStart (s.coreOf 0) copyWord = true ∧ copyWord.reservedOk = true ∧ copyWord.copyOk = true ∧
     copyWord.dims = [(1, 0, 0)] ∧ copyWord.head 13 2 = 1 ∧ copyWord.head 2 2 = 1 ∧
     s.findBlock copyWord.span copyWord.block = some block0 ∧ copyWord.dword 1 = 0 ∧ copyWord.dword 2 = 0x100 ∧
     2 ^ copyWord.head 10 3 = 4 ∧ block0.poison = []) := by decide +kernel
theorem witness_commands_complete :
    let c := { copyWord with phase := .finished 0 1 none }
    let s := queued 1 c Core.empty data
    headCmd s 0 1 = some c ∧ inFlight s 0 (commandSender (cmdToken 0 1 0)) = false ∧ firstPoster s 0 1 = none := by decide +kernel
/-! Rules stated whole, encodings and the step. -/

theorem witness_port_reset :
    let s : State := { State.reset with host := { State.reset.host with sem := [(3, 0x50003)] } }
    (sget s.host.sem 3).getLsbD 0 = true ∧ (sget s.host.sem 3).toNat / 2 % 4 = 0 + 1 ∧
    (sget s.host.sem 4).getLsbD 0 = false := by decide +kernel
theorem witness_extremes :
    acts (.vfmin 0 2 1 4 0) data = true ∧ acts (.vfmax 0 2 1 4 0) data = true ∧ acts (.vfmin16 2 3) data = true ∧
    acts (.vfmax16 2 3) data = true ∧ acts (.vfcmp 0 2 1 7 1 0) data = true := by decide +kernel
theorem witness_extremes_of_nans : Claims.notNumber 0x7FC00001 ∧ ¬Claims.notNumber 0x7F800000 ∧ ¬Claims.notNumber 0x80000000 := by
  unfold Claims.notNumber; decide
theorem witness_encode :
    (Instr.saddi 5 0xFFFF 0).wellFormed = true ∧ (encode (.saddi 5 0xFFFF 0)).isSome = true ∧
    (Instr.vmov16 31 63).wellFormed = true ∧ (encode (.vmov16 31 63)).isSome = true := by decide +kernel
theorem witness_decode : isOk (Instr.yield 0, [7]) (decode [0x11, 1, 0, 0, 7]) = true := by decide +kernel

/-- A code page with a word at the wave's PC. -/
def coding (w : Nat) : Memory :=
  dword 0x40000 0x48001 ++ dword 0x48000 0x50001 ++ dword 0x50000 0x58001 ++ dword 0x58000 0x60143 ++ dword 0x60040 w
/-- A device with that memory, and no move of the agenda left. -/
def fetching (w : Nat) : State := { small with mem := coding w, agenda := [] }
/-- What stands in an option that is not empty. -/
theorem some_getD {α : Type} {d : α} {o : Option α} (h : o.isSome = true) : o = some (o.getD d) := by
  cases o with
  | some x => rfl
  | none => simp at h
/-- Its state at the start of the next step. -/
def begun (s : State) : State := after (startStep s.pace s)
/-- That state with the wave that issues. -/
def issuing (s : State) : State := (nextIssue (begun s)).getD s
theorem witness_step :
    (let s := fetching 0x00000111
     s.agenda = [] ∧ startStep s.pace s = .next (begun s) ∧ nextIssue (begun s) = some (issuing s) ∧
     fetchBytes (issuing s) (issuing s).wave (issuing s).wave.pc.toNat = .ok [0x11, 1, 0, 0] ∧
     decode [0x11, 1, 0, 0] = .ok (.yield 0, [])) ∧
    (let s := fetching 0x00000801
     startStep s.pace s = .next (begun s) ∧ nextIssue (begun s) = some (issuing s) ∧
     fetchBytes (issuing s) (issuing s).wave (issuing s).wave.pc.toNat = .ok [1, 8, 0, 0] ∧ (∃ e, decode [1, 8, 0, 0] = .error e)) ∧
    (let s := { small with agenda := [] }
     startStep s.pace s = .next (begun s) ∧ nextIssue (begun s) = some (issuing s) ∧
     fetchBytes (issuing s) (issuing s).wave (issuing s).wave.pc.toNat = .error (0x40, .notPresent)) ∧
    (startStep State.reset.pace State.reset = .next (begun State.reset) ∧ nextIssue (begun State.reset) = none ∧
      State.reset.agenda = []) ∧
    (let s : State := { data with agenda := [] }
     startStep s.pace s = .next (begun s)) := by
  refine ⟨⟨rfl, goes_next (by decide +kernel), some_getD (by decide +kernel), is_ok (by decide +kernel), is_ok (by decide +kernel)⟩,
    ⟨goes_next (by decide +kernel), some_getD (by decide +kernel), is_ok (by decide +kernel), ?_⟩,
    ⟨goes_next (by decide +kernel), some_getD (by decide +kernel), is_error (by decide +kernel)⟩,
    ⟨goes_next (by decide +kernel), by decide +kernel, by decide +kernel⟩, goes_next (by decide +kernel)⟩
  have h : isOk (Instr.yield 0, []) (decode [1, 8, 0, 0]) = false ∧ found (decode [1, 8, 0, 0]) = false := by decide +kernel
  cases hd : decode [1, 8, 0, 0] with
  | ok x => rw [hd] at h; exact absurd h.2 (by simp [found])
  | error e => exact ⟨e, rfl⟩
theorem witness_canonical : Memory.wf State.reset.mem = true ∧ Memory.wf data.mem = true ∧ goes (step data) = true := by
  decide +kernel

/-! Statements on combining lanes, on the signature, on the checks before an instruction acts, and on the order of memory. -/

theorem witness_combinations :
    Claims.combines 0 0 ∧ Claims.combines 3 0 ∧ Claims.combines 0 1 ∧ Claims.combines 7 1 ∧ Claims.combines 3 2 ∧
    ¬Claims.combines 1 1 ∧ ¬Claims.combines 4 2 ∧ (List.replicate 64 (1 : Word32)).length = 64 := by
  unfold Claims.combines; decide

/-- `data` with SIGCTL and SIG. -/
def signed (ctl : Word64) (level : Level) : State := { data with wave := { dataWave with sigctl := ctl, sig := 5, level := level } }
theorem witness_signature :
    acts (.sadd 1 2 3 0) (signed 1 .user) = true ∧ (∃ t, exec (.sadd 1 2 3 0) (signed 1 .user) = .next t) ∧
    Claims.plain (.sadd 1 2 3 0) (signed 1 .user).wave ∧
    acts (.nop 0) (signed 1 .user) = true ∧ (∃ t, exec (.nop 0) (signed 1 .user) = .next t) ∧
    Claims.plain (.nop 0) (signed 1 .user).wave ∧ Claims.hashes (signed 1 .user).wave ∧ ¬Claims.hashes (signed 0 .user).wave ∧
    ¬Claims.hashes (signed 1 .supervisor).wave ∧ acts (.sadd 1 2 3 0) (signed 1 .supervisor) = true ∧
    ∃ t, exec (.sadd 1 2 3 0) (signed 1 .supervisor) = .next t :=
  ⟨by decide +kernel, ⟨_, goes_next (by decide +kernel)⟩, Or.inl (by decide +kernel), by decide +kernel,
    ⟨_, goes_next (by decide +kernel)⟩, by right; right; right; right; right; right; right; exact ⟨0, Or.inl rfl⟩,
    by unfold Claims.hashes; decide +kernel, by unfold Claims.hashes; decide +kernel, by unfold Claims.hashes; decide +kernel,
    by decide +kernel, ⟨_, goes_next (by decide +kernel)⟩⟩
theorem witness_signature_of_transfers :
    let s := signed 1 .user
    acts (.bra 1 0) s = true ∧ (∃ t, exec (.bra 1 0) s = .next t) ∧ (Claims.transfer (.bra 1 0) s.wave).isSome = true ∧
    acts (.bcc 1 0 1 0) s = true ∧ (∃ t, exec (.bcc 1 0 1 0) s = .next t) ∧
    (Claims.transfer (.bcc 1 0 1 0) s.wave).isSome = true :=
  ⟨by decide +kernel, ⟨_, goes_next (by decide +kernel)⟩, by decide +kernel, by decide +kernel, ⟨_, goes_next (by decide +kernel)⟩,
    by decide +kernel⟩
theorem witness_signature_of_structured :
    let s := signed 1 .user
    let taken : Claims.Masks := ⟨dataWave.active, 0, [⟨.ifThen, dataWave.active, dataWave.active, 0⟩]⟩
    acts (.ifm 1 0 0) s = true ∧ (∃ t, exec (.ifm 1 0 0) s = .next t) ∧
    Claims.structuredResult (.ifm 1 0 0) (Claims.masksOf s.wave) (s.wave.mval 0) = some (taken, false) ∧
    Claims.structuredHash (.ifm 1 0 0) (Claims.masksOf s.wave) taken = some (0x06, 0) :=
  ⟨by decide +kernel, ⟨_, goes_next (by decide +kernel)⟩, rfl, by decide +kernel⟩

theorem witness_trap_codes : (1 ≤ softTrap.code ∧ softTrap.code ≤ 0x17) ∧
    1 ≤ ({ softTrap with code := 1 } : Trap).code ∧ ({ softTrap with code := 1 } : Trap).code ≤ 0x17 := by decide
/-- `data` with the table entry of the frame's page poisoned. -/
def poisonedFrame : State := { data with poison := [(0x2C00, 1)] }
theorem witness_trap_frame_poisoned :
    poisonedFrame.findSpan poisonedFrame.wave.span = some span0 ∧ poisonedFrame.wave.level = .user ∧
    access poisonedFrame 0 0 .store poisonedFrame.wave.trapframe.toNat 1024 = .error (.poison 0x58010) :=
  ⟨by decide +kernel, rfl, is_error (by decide +kernel)⟩
theorem witness_mismatch :
    (let s := signed 3 .user
     acts (.sigchk 4 0) s = true ∧ s.wave.sigctl.getLsbD 0 = true ∧ s.wave.sigctl.getLsbD 1 = true ∧
     (4#21).toNat ≠ (s.wave.sig.toNat % 2 ^ 21) ^^^ (s.wave.sig.toNat / 2 ^ 21 % 2 ^ 11) ∧
     s.findSpan s.wave.span = some span0 ∧ (tget s.parts s.wave.span.part).isSome = true) ∧
    acts (.sigchk 4 0) (signed 3 .supervisor) = true := by decide +kernel

/-- `data` with another wave. -/
def waving (f : Wave → Wave) : State := { data with wave := f dataWave }
theorem witness_forms_refused :
    (encode (.bcc 0 6 0 0)).isSome = true ∧ Claims.formRefused (.bcc 0 6 0 0) data.wave ∧
    (encode (.runend 127 127 127 0)).isSome = true ∧ Claims.formRefused (.runend 127 127 127 0) data.wave ∧
    Claims.formRefused (.nop 0) (waving (fun w => { w with run := some ⟨4, 0⟩ })).wave ∧
    Claims.formRefused (.bra 0 0) (waving (fun w => { w with run := some ⟨4, 2⟩ })).wave ∧
    Claims.formRefused (.viadd 0 2 3 55 0) (waving (fun w => { w with regs := 55 })).wave ∧
    Claims.formRefused (.recin 0 53 0) (waving (fun w => { w with regs := 56 })).wave ∧
    Claims.formRefused (.gbar 0) (waving (fun w => { w with level := .supervisor })).wave := by
  refine ⟨by decide, Or.inl (by decide), by decide, Or.inr (Or.inl ⟨127, 127, 127, 0, rfl, fun p h => (by cases h)⟩),
    Or.inr (Or.inr (Or.inl ⟨fun _ _ _ _ h => (by cases h), ⟨4, 0⟩, rfl, Or.inl rfl⟩)),
    Or.inr (Or.inr (Or.inl ⟨fun _ _ _ _ h => (by cases h), ⟨4, 2⟩, rfl, Or.inr (by decide)⟩)),
    Or.inr (Or.inr (Or.inr (Or.inl ⟨55, by decide, by decide, by decide⟩))),
    Or.inr (Or.inr (Or.inr (Or.inr (Or.inl ⟨56, by decide, by decide⟩)))),
    Or.inr (Or.inr (Or.inr (Or.inr (Or.inr ⟨rfl, 1, 0, 0, by decide⟩))))⟩
theorem witness_waits_for_service :
    let sv : Service := ⟨.sload 3 0x8008, .sld 1 1 3 0, 0, [.s 3], [], dataWave.checkpoint, 7, 64, 0x8008, 2, 0, false⟩
    let s := waving (fun w => { w with service := some sv })
    (encode (.sadd 3 2 4 0)).isSome = true ∧ illegal (.sadd 3 2 4 0) s.wave = false ∧ s.wave.service = some sv ∧
    RegId.s 3 ∈ sv.writes ∧ RegId.s 3 ∈ (Instr.sadd 3 2 4 0).reads ++ (Instr.sadd 3 2 4 0).writes ∧
    illegal (.sst 0 1 2 0) s.wave = false ∧ ordered (.sst 0 1 2 0) = true := by decide +kernel
theorem witness_stall_short :
    let p : Pend := ⟨.s 2, 9, [], false, []⟩
    let s := waving (fun w => { w with pend := [p], sbchk := 1 })
    illegal (.sadd 2 1 3 0) s.wave = false ∧ s.wave.holdsBack (.sadd 2 1 3 0) = false ∧ early (.sadd 2 1 3 0) s = false ∧
    s.wave.sbchk.getLsbD 0 = true ∧ s.wave.fuse = none ∧ Claims.shortOf (.sadd 2 1 3 0) s.wave (.s 2) := by
  refine ⟨by decide +kernel, by decide +kernel, by decide +kernel, by decide +kernel, rfl,
    [.s 1], [], by decide, ⟨_, [], [], rfl, ⟨rfl, by decide⟩, rfl, fun q h => (by cases h)⟩, ?_⟩
  rintro x hx ⟨q, l, m, hp, hq, -⟩
  cases List.mem_singleton.1 hx
  cases l with
  | nil => cases hp; cases hq.1
  | cons a l => simp [waving, data, device] at hp
theorem witness_poison_consumed :
    (let s := waving (fun w => { w with poisonV := [(128, 1)] })
     illegal (.viadd 0 2 3 4 0) s.wave = false ∧ early (.viadd 0 2 3 4 0) s = false ∧
     s.findSpan s.wave.span = some span0 ∧ (tget s.parts s.wave.span.part).isSome = true ∧
     ∃ e ∈ (Instr.viadd 0 2 3 4 0).readLanes s.wave, e.2.getLsbD 0 = true ∧ s.wave.badLane e.1 0 = true) ∧
    (let s := waving (fun w => { w with poisonS := [(1, 1)] })
     illegal (.sadd 1 2 3 0) s.wave = false ∧ s.wave.sbchk.getLsbD 0 = false ∧
     (∀ l < 64, ¬∃ e ∈ (Instr.sadd 1 2 3 0).readLanes s.wave, e.2.getLsbD l = true ∧ s.wave.badLane e.1 l = true) ∧
     ∃ r ∈ (Instr.sadd 1 2 3 0).firstReads s.wave, s.wave.tainted r = true) := by decide +kernel
theorem witness_ratom_tokens :
    (1 : Nat) ≤ 0 + 257 ∧ (257 : Nat) ≤ 0 + 257 ∧ ∃ g ∈ ([⟨1, 1, 1, some 0, 2⟩] : List RatomGroup), (258 : Nat) ≤ g.heard + 256 := by
  decide

theorem witness_free_order :
    Claims.loadsFreely data dataLeaf ∧ Claims.storesFreely data dataLeaf ∧ Claims.allStoreFreely data (fun l => l = dataLeaf) ∧
    Claims.loadsFreely windowData windowLeaf ∧ Claims.allStoreFreely data (fun l => ⟨0, 0, 0x3F, 0⟩ = l) :=
  ⟨Or.inl (by decide), Or.inl (by decide), Or.inl (fun l h => by subst h; decide), Or.inl (by decide),
    Or.inr ⟨nothing_in_flight, fun l h => by subst h; decide⟩⟩
/-- A strongly ordered page at 0x48000, and a strongly ordered window page at 0x50000. -/
def strongData (va : Word64) : State :=
  { device { dataWave with s := entries [(1, va), (2, 8)] } (dword 0x58090 0xA003F ++ dword 0x580A0 0xA80BF) with
    parts := [(0, { part0 with txwin := [(0, ⟨0x00200101, 0x50000, 0x8000, 0x40000⟩)] })] }
/-- The leaf of the first of those pages. -/
def strongLeaf : Leaf := ⟨0xA0000, 0x8000, 0xA003F, 0⟩
/-- The leaf of the second. -/
def strongWindow : Leaf := ⟨0xA8000, 0x8000, 0xA80BF, 0⟩
theorem strong_quiet (va : Word64) : Claims.nothingInFlight (strongData va) (strongData va).wave := by
  refine ⟨fun p h e he => ?_, fun o h => ?_, rfl⟩
  · cases h; cases he
  · cases h
theorem witness_strong_store :
    let s := strongData 0x50000
    Claims.scalarAccess (.sst 1 1 2 0) s.wave = some (.store, 0x50008) ∧ acts (.sst 1 1 2 0) s = true ∧
    access s 0 0 .store 0x50008 8 = .ok strongWindow ∧ strongWindow.cls = 2 ∧ strongWindow.mt = 3 ∧
    Claims.loadsFreely s strongWindow ∧ windowOf s 0 0x50008 = some (0, ⟨0x00200101, 0x50000, 0x8000, 0x40000⟩) :=
  ⟨by decide +kernel, by decide +kernel, is_ok (by decide +kernel), by decide, by decide, Or.inr (strong_quiet _), by decide +kernel⟩
theorem witness_system_order :
    (let s : State := { data with unanswered := [(0, 1)] }
     acts (.atom 0 2 0 1 1 1 2 0) s = true ∧ acts (.red 0 3 0 1 1 1 2 0) s = true ∧ ¬Claims.nothingInFlight s s.wave) ∧
    (let s : State := { strongData 0x48000 with unanswered := [(0, 1)] }
     acts (.sld 0 1 3 0) s = true ∧ ¬Claims.nothingInFlight s s.wave ∧
     Claims.scalarAccess (.sld 0 1 3 0) s.wave = some (.load, 0x48000) ∧ translate s 0 0 0x48000 = .ok strongLeaf ∧ strongLeaf.mt = 3) :=
  ⟨⟨by decide +kernel, by decide +kernel, fun h => absurd h.2.2 (by decide +kernel)⟩,
    by decide +kernel, fun h => absurd h.2.2 (by decide +kernel), by decide +kernel, is_ok (by decide +kernel), by decide⟩
theorem witness_faults_in_free_order :
    (∀ k < 64, (cellData.wave.active &&& cellData.wave.mval 0).getLsbD k = true →
      ∀ leaf, Claims.laneLeaf cellData ⟨.store, 0, 4, 1, 1⟩ k = some leaf → Claims.loadsFreely cellData leaf) ∧
    (∀ leaf, translate (dataWith 0x30000 0 0) 0 0 0x30000 = .ok leaf → Claims.loadsFreely (dataWith 0x30000 0 0) leaf) := by
  have h : ∀ k < 64, (cellData.wave.active &&& cellData.wave.mval 0).getLsbD k = true →
      Claims.laneLeaf cellData ⟨.store, 0, 4, 1, 1⟩ k = some cellsLeaf := by decide +kernel
  have g : translate (dataWith 0x30000 0 0) 0 0 0x30000 = .ok ⟨0x90000, 0x8000, 0x90007, 0⟩ := is_ok (by decide +kernel)
  refine ⟨fun k a b leaf e => ?_, fun leaf e => ?_⟩
  · rw [h k a b] at e; cases e; exact Or.inl (by decide)
  · rw [g] at e; cases e; exact Or.inl (by decide)

/-- `launched` with a grid of two blocks, one of which has started. -/
def halfGrid : State :=
  { data with parts := [(0, { part0 with ctxs :=
      [(0, { Ctx.opened 0x40000 0x10000 1 false 0 with launches := [(0, { launch0 true false with grid := [2, 1, 1] })] })] })] }
theorem witness_whole_grid :
    Claims.gridWhole (launched true false) ⟨0, 0, 0, 0⟩ ∧ ¬Claims.gridWhole halfGrid ⟨0, 0, 0, 0⟩ ∧ acts (.gbar 0) halfGrid = true := by
  have a : (launched true false).launchOf ⟨0, 0, 0, 0⟩ = some (launch0 true false) := by decide +kernel
  have b : halfGrid.launchOf ⟨0, 0, 0, 0⟩ = some { launch0 true false with grid := [2, 1, 1] } := by decide +kernel
  refine ⟨fun g h hn => ?_, fun h => ?_, by decide +kernel⟩
  · rw [a] at h; cases h; decide +kernel
  · exact absurd (h _ b rfl) (by decide +kernel)

/-! The matrix engine, checksums, and the traps of operations. -/

/-- A K-step of wave 0 on slot 0: INT8 rows of one element each, and line 0 of `lined 5`. -/
def kstep : StepInput :=
  { wave := 0, span := ⟨0, 0, 0, 0⟩, slot := 0, fmt := 4, first := 8, rows := List.replicate 32 [(63, 1)],
    lines := [Claims.lineOf ((lined 5).coreOf 0) 0], gone := false }
/-- `data` with a core 0. -/
def coring (k : Core) : State := { data with cores := [(0, k)], cyc := 1000 }

theorem witness_engine_step :
    let s := coring { Core.empty with steps := [{ kstep with wave := 1 }, kstep] }
    (s.coreOf 0).steps = [{ kstep with wave := 1 }] ++ kstep :: [] ∧ (∀ y ∈ [{ kstep with wave := 1 }], kstep.wave < y.wave) ∧
    (s.coreOf 0).queue 0 = [] ∧ coreRuns s 0 = true ∧ (s.coreOf 0).stepAt ≤ s.cyc ∧
    (coring { Core.empty with steps := [kstep], queues := [(0, [loop0])], lastLoop := true }).coreOf 0 =
      { Core.empty with steps := [kstep], queues := [(0, [loop0])], lastLoop := true } := by decide +kernel
theorem kstep_fits : Claims.stepFits kstep ∧ Claims.stepFits { kstep with slot := 63, lines := kstep.lines ++ kstep.lines.map (fun l => (3071, l.2)), rows := List.replicate 32 [(127, 1)] } := by
  unfold Claims.stepFits; decide +kernel
theorem witness_step_rounds :
    (let s := coring { Core.empty with flight := [⟨false, 968, kstep⟩] }
     (s.coreOf 0).flight = ⟨false, 968, kstep⟩ :: [] ∧ coreRuns s 0 = true ∧ 968 + nanosIn s 0 32 ≤ s.cyc) ∧
    kstep.gone = false ∧ ({ kstep with gone := true } : StepInput).gone = true ∧
    (let c : Cmd := { loop0 with phase := .running, started := 1 }
     let s := coring { Core.empty with flight := [⟨true, 900, kstep⟩], queues := [(0, [c])] }
     (s.coreOf 0).flight = ⟨true, 900, kstep⟩ :: [] ∧ headCmd s 0 0 = some c ∧ c.phase = .running ∧ c.stall = none ∧
     c.step + 1 = c.dword 0 / 2 ^ 32 % 2 ^ 16) := by decide +kernel
theorem witness_integer_step :
    let s := coring { Core.empty with flight := [⟨false, 900, kstep⟩] }
    (∃ t, exec (.matrixStepRound 0) s = .next t) ∧ kstep.fmt = 4 ∧ kstep.rows.length = 32 ∧ checkSlot (s.coreOf 0) 0 = .agree ∧
    (tgetD (s.coreOf 0).checks 0 Check.rebased).kind = .none ∧
    (let k : Core := { Core.empty with flight := [⟨false, 900, kstep⟩], checks := [(0, { Check.rebased with kind := .integer })] }
     checkSlot k 0 = .agree ∧ ∃ t, exec (.matrixStepRound 0) (coring k) = .next t) :=
  ⟨⟨_, goes_next (by decide +kernel)⟩, rfl, by decide, by decide +kernel, by decide +kernel, by decide +kernel,
    ⟨_, goes_next (by decide +kernel)⟩⟩
theorem witness_checksum :
    let s := coring { Core.empty with acc := [(0, 5)], checks := [(0, { Check.rebased with kind := .integer })] }
    Claims.slotReady s 0 ∧ Claims.stepsRounded s 0 ∧ acts (.mxchk 1 3 0 0) s = true ∧ Claims.slotSound (s.coreOf 0) 0 ∧
    checkSlot (s.coreOf 0) 0 = .mismatch 0 0 ∧ s.findSpan s.wave.span = some span0 ∧
    (tget s.parts s.wave.span.part).isSome = true := by
  unfold Claims.slotReady Claims.slotOwned Claims.ownerSound Claims.stepsRounded Claims.slotSound; decide +kernel
theorem witness_tiles_rounded : Claims.stepsRounded small 0 ∧ Claims.stepsRounded data 0 := by
  unfold Claims.stepsRounded; decide +kernel

/-- A core whose slot 0 belongs to context 1, BUSY or not. -/
def otherOwner (busy : Bool) : Core := { Core.empty with accown := [(0, if busy then 0x601 else 0x201)] }
theorem witness_matrix_traps :
    (let s := queued 0 { loop0 with phase := .running } Core.empty data
     acts (.mxmma 4 0 8 0 0) s = true ∧ loopOn s 0 0 = true ∧ Claims.slotNamed (.mxmma 4 0 8 0 0) = some 0) ∧
    (let s := coring { Core.empty with steps := [kstep] }
     acts (.mxrdz 0 4 0 0) s = true ∧ loopOn s 0 0 = false ∧ ¬Claims.stepsRounded s 0 ∧ acts (.mxzero 0 0) s = true ∧
     Claims.slotReady s 0) ∧
    (let s := coring { Core.empty with poisonO := [(0, 1)] }
     acts (.mxzero 0 0) s = true ∧ loopOn s 0 0 = false ∧ ¬Claims.ownerSound s 0 ∧ s.findSpan s.wave.span = some span0 ∧
     (tget s.parts s.wave.span.part).isSome = true) ∧
    (let s := coring (otherOwner false)
     acts (.mxzero 0 0) s = true ∧ loopOn s 0 0 = false ∧ Claims.stepsRounded s 0 ∧ ¬Claims.slotOwned s 0 ∧ Claims.ownerSound s 0 ∧
     (sget (s.coreOf 0).accown 0).getLsbD 10 = false) ∧
    (let s := coring (otherOwner true)
     acts (.mxchk 1 3 0 0) s = true ∧ ¬Claims.slotOwned s 0 ∧ (sget (s.coreOf 0).accown 0).getLsbD 10 = true) ∧
    acts (.mxmma 4 1 8 0 0) { lined 5 with wave := { dataWave with s := [(1, 3072)] } } = true ∧
    acts (.mxmma 4 1 8 0 0) { lined 1 with wave := { dataWave with s := [(1, 0)] } } = true ∧
    Claims.slotReady (lined 1) 0 ∧ tagAccepted 4 (sget ((lined 1).coreOf 0).tags 0).toNat = false := by
  unfold Claims.slotReady Claims.slotOwned Claims.ownerSound Claims.stepsRounded; decide +kernel
theorem witness_loop_owner :
    let s := coring (otherOwner false)
    Claims.posting (.mxloop 0 1 3 0) = some (0, 0, 1, 3) ∧ acts (.mxloop 0 1 3 0) s = true ∧ (s.wave.sval 1).toNat = 0x8000 ∧
    access s 0 0 .load 0x8000 32 = .ok dataLeaf ∧ Claims.unpoisoned s dataLeaf 0x8000 32 ∧
    (∀ l, translate s 0 0 0x8000 = .ok l → Claims.loadsFreely s l) ∧
    ¬Claims.slotOwned s (((loadBytes s dataLeaf 0x8000 32).getD 1 0).toNat % 64) ∧
    Claims.ownerSound s (((loadBytes s dataLeaf 0x8000 32).getD 1 0).toNat % 64) := by
  have h : translate (coring (otherOwner false)) 0 0 0x8000 = .ok dataLeaf := is_ok (by decide +kernel)
  refine ⟨rfl, by decide +kernel, by decide +kernel, is_ok (by decide +kernel), fun _ _ => rfl, fun l e => ?_, ?_, Or.inr rfl⟩
  · rw [h] at e; cases e; exact Or.inl (by decide)
  · unfold Claims.slotOwned; decide +kernel
/-- `data` with v1 of lane 0 an offset, and nothing else in the vector registers. -/
def offset (x : Word32) : State := waving (fun w => { w with v := [(64, x)], active := 1 })
theorem witness_scratch_traps :
    acts (.vlds 0 2 0 1 4 0) (offset 2) = true ∧ ((offset 2).wave.vval 1 0).toNat % 2 ^ 2 ≠ 0 ∧
    acts (.vsts 0 2 0 1 2 0) (offset 4096) = true ∧ ((offset 4096).wave.vval 1 0).toNat % 2 ^ 2 = 0 ∧
    (offset 4096).findBlock ⟨0, 0, 0, 0⟩ 0 = some block0 ∧ block0.ended = false ∧ block0.size = 4096 ∧
    acts (.vlds 0 2 0xA 1 4 0) (offset 4) = true ∧ (offset 4).findBlock ⟨0, 0, 0, 0⟩ 2 = none ∧
    ((offset 4096).wave.active &&& (offset 4096).wave.mval 0).getLsbD 0 = true := by decide +kernel
theorem witness_lock_traps :
    (let s : State := { data with locks := [lockOf 0 []] }
     access s 0 0 .lock (s.wave.sval 1).toNat 8 = .ok dataLeaf ∧ acts (.qlock 1 0) s = true ∧
     findLock s 0 (dataLeaf.pa (s.wave.sval 1).toNat) = some (lockOf 0 []) ∧ (lockOf 0 []).holder = s.wave.id ∧
     acts (.endw 0) s = true ∧ ∃ l ∈ s.locks, l.holder = s.wave.id) ∧
    (access data 0 0 .lock (data.wave.sval 1).toNat 8 = .ok dataLeaf ∧ acts (.qunlock 1 0) data = true ∧
     findLock data 0 (dataLeaf.pa (data.wave.sval 1).toNat) = none) ∧
    (let s : State := { data with parts := [(0, { part0 with combining := [(path5, store2)] })] }
     acts (.endw 0) s = true ∧ (∀ l ∈ s.locks, l.holder ≠ s.wave.id) ∧ buffered s 0 (waveSender 0) = true) :=
  ⟨⟨is_ok (by decide +kernel), by decide +kernel, by decide +kernel, by decide, by decide +kernel, by decide +kernel⟩,
    ⟨is_ok (by decide +kernel), by decide +kernel, by decide +kernel⟩, by decide +kernel⟩
/-- A state with s3 set. -/
def s3 (x : Word64) (s : State) : State := { s with wave := { s.wave with s := entries [(3, x)] } }
theorem witness_graph_traps :
    (acts (.emit 0 3 2 0) (launched false false) = true ∧
      (launched false false).launchOf (launched false false).wave.span = some (launch0 false false)) ∧
    (acts (.emit 0 3 2 0) (s3 16 (launched false true)) = true ∧ 15 < ((s3 16 (launched false true)).wave.sval 3).toNat) ∧
    (acts (.emit 0 3 2 0) (s3 15 (launched false true)) = true ∧ (launch0 false true).succ.getD 15 0xFFFF = 0xFFFF) ∧
    (let b : Block := { block0 with emitted := 63 }
     let s : State := { launched false true with blocks := [b] }
     acts (.emit 0 3 2 0) s = true ∧ s.launchOf s.wave.span = some (launch0 false true) ∧
     (s.findCtx 0 0).isSome = true ∧ s.findBlock s.wave.span s.wave.block = some b ∧
     (Claims.lanesIn (s.wave.active &&& s.wave.mval 0)).length = 2 ∧ (launch0 false true).emitMax < 63 + 2) ∧
    (acts (.recin 0 4 0) data = true ∧ data.findBlock data.wave.span data.wave.block = some block0 ∧ block0.records = none) := by
  decide +kernel
/-- `data` with a RATOM token in s1, its groups, and how many RATOMs the wave has issued. -/
def ratom (n : Nat) (gs : List RatomGroup) : State :=
  waving (fun w => { w with s := entries [(1, 0xC00)], ratoms := n, tokens := [(0, gs)] })
theorem witness_outcome_traps :
    (let r : RefusedXfer := ⟨1, 2, 0, 7, 1⟩
     let s := { ratom 1 [⟨1, 1, 1, some 0, 0⟩] with wave := { (ratom 1 [⟨1, 1, 1, some 0, 0⟩]).wave with refused := [r] } }
     s.wave.refused = r :: [] ∧ acts (.wfence 0) s = true ∧ acts (.waitk 1 0) s = true ∧ s.wave.inWait = false ∧
     waitkIllegal s s.wave (s.wave.sval 1) = false) ∧
    (let s := ratom 1 [⟨1, 1, 1, none, 0⟩]
     acts (.waitk 1 0) s = true ∧ tokenQueue (s.wave.sval 1) = 6 ∧ waitkIllegal s s.wave (s.wave.sval 1) = false ∧
     tget s.wave.tokens (tokenSeq (s.wave.sval 1)) = some [⟨1, 1, 1, none, 0⟩]) ∧
    (let gs : List RatomGroup := [⟨1, 1, 1, some 0, 1⟩]
     let s := ratom 258 gs
     acts (.waitk 1 0) s = true ∧ tokenSeq (s.wave.sval 1) + 257 < s.wave.ratoms ∧ ∀ g ∈ gs, g.heard + 256 < s.wave.ratoms) ∧
    (let gs : List RatomGroup := [⟨1, 1, 1, some 0, 1⟩, ⟨2, 2, 2, some 3, 1⟩]
     let s := ratom 257 gs
     acts (.waitk 1 0) s = true ∧ ¬(tokenSeq (s.wave.sval 1) + 257 < s.wave.ratoms) ∧ ∀ g ∈ gs, g.status ≠ none) ∧
    (let gs : List RatomGroup := [⟨1, 1, 1, some 0, 1⟩, ⟨2, 2, 2, some 1, 1⟩]
     let s := ratom 2 gs
     acts (.waitk 1 0) s = true ∧ (∀ g ∈ gs, g.status ≠ some 3) ∧ waitkIllegal s s.wave (s.wave.sval 1) = false) := by
  decide +kernel
theorem witness_refused_in_order : Claims.nothingInFlight data { dataWave with refused := [⟨1, 2, 0, 7, 1⟩] } := by
  refine ⟨fun p h e he => ?_, fun o h => ?_, rfl⟩
  · cases h; cases he
  · cases h

/-! The checks of seals, transfers and remote access. -/

theorem witness_operands_unpoisoned :
    (∀ r ∈ [(3 : Nat), 1, 2], ∀ l < 64, sealed.wave.badLane r l = false) ∧ sealed.wave.tainted (.m 0) = false ∧
    sealed.wave.tainted (.a 15) = false := by decide +kernel

/-- `small` with a seal record whose first word, cell address and first cells are given. -/
def sealing (w0 base cells : Nat) : State :=
  { small with
    mem := small.mem ++ dword 0x58030 0x78047 ++ dword 0x58038 0x2000 ++ dword 0x68000 w0 ++ dword 0x68008 base ++
      dword 0x68010 2 ++ dword 0x68040 5 ++ dword 0x680C0 0x10501 ++ dword 0x78000 cells }
/-- A doubleword of that record. -/
def sealWord (s : State) (k : Nat) : Nat := loadLe s dataLeaf ((0x8000 + 64 * (k / 8)) % 2 ^ 64 + 8 * (k % 8)) 8
theorem witness_seal_read :
    (∀ s ∈ [sealing 0x101 0x18000 10, sealing 0x141 0x18000 10],
      acts (.fbindSeal 1 0) s = true ∧ tget s.parts 0 = some part0 ∧ (s.wave.sval 1).toNat = 0x8000 ∧
      ∀ j < 5, isOk dataLeaf (access s 0 0 .load ((0x8000 + 64 * j) % 2 ^ 64) 64) = true) ∧
    Claims.recordFits (sealWord (sealing 0x101 0x18000 10)) ∧
    ¬Claims.recordFits (sealWord (sealing 0x141 0x18000 10)) ∧
    ¬Claims.recordFits (sealWord (sealing 0x2101 0x18000 10)) ∧
    ¬Claims.recordFits (sealWord (sealing 0x1 0x18000 10)) ∧
    ¬Claims.recordFits (sealWord (sealing 0x101 0x18004 10)) := by
  refine ⟨by decide +kernel, ?_, ?_, ?_, ?_, ?_⟩ <;> (unfold Claims.recordFits; decide +kernel)
theorem witness_seal_checks :
    (let s := sealing 0x101 0x18000 10
     isOk cellsLeaf (cellLeaf s 0 0 1 0x18000) = true ∧ isOk cellsLeaf (cellLeaf s 0 0 1 0x18004) = true ∧
     tget s.marks (cellsLeaf.pa 0x18000 / 2 ^ 15) = none ∧ tget part0.domains 1 = none) ∧
    isError .cls (cellLeaf (sealing 0x101 0x8000 10) 0 0 1 0x8000) = true ∧
    Claims.recordFits (sealWord (sealing 0x101 0x8000 10)) ∧
    (let s := { sealing 0x101 0x18000 10 with marks := [(15, (0, 2))] }
     isOk cellsLeaf (cellLeaf s 0 0 1 0x18000) = true ∧ tget s.marks (cellsLeaf.pa 0x18000 / 2 ^ 15) = some (0, 2)) ∧
    (let s := sealing 0x101 0x18000 0x8000000000000000
     isOk cellsLeaf (cellLeaf s 0 0 1 0x18004) = true ∧ Claims.content s cellsLeaf 0x18004 < 0 ∧ 0 ≤ Claims.content s cellsLeaf 0x18000 ∧
     Claims.unpoisoned s cellsLeaf 0x18004 4) ∧
    tget domainPart.domains 1 = some domain1 := by
  unfold Claims.recordFits Claims.unpoisoned; decide +kernel

/-- `sealed` with one lane that moves an amount between designators, the two cells, and the balance of the account. -/
def moving (amount source dest : Word32) (cells : Nat) (bal : Int) : State :=
  { device { boundWave with v := entries [(64, source), (128, dest), (192, amount)], active := 1 } (dword 0x78000 cells) with
    parts := [(0, { part0 with domains := [(1, { domain1 with bal := [bal] })] })], marks := [(15, (0, 1))],
    fabric := ⟨some 0, [0, 1], [], [], [], [], [], [], []⟩ }
/-- The lanes, and that a transfer acts on a bound domain whose named cells can be reached. -/
def moves (s : State) (cross : Bool) (bal : Int) : Prop :=
  acts (if cross then .xferx 0 2 1 3 0 else .xfer 0 2 1 3 0) s = true ∧
  boundDomain s s.wave = some (1, { domain1 with bal := [bal] }) ∧
  ∀ c ∈ Claims.namedCells cross (lanesOf s), isOk cellsLeaf (cellVia s s.wave (s.wave.areg 15) 1 domain1.base c) = true
theorem witness_transfer_faults :
    (let s := moving 3 0 2 10 100
     moves s false 100 ∧ lanesOf s = [] ++ ⟨0, 3, 0, 2, false, false, false⟩ :: [] ∧
     Claims.beyondCells domain1 false ⟨0, 3, 0, 2, false, false, false⟩ 2) ∧
    (let s := moving 3 0x80000001 0 10 100
     moves s false 100 ∧ Claims.namedCells false (lanesOf s) = [0] ∧ 2 ^ 31 ≤ (0x80000001 : Nat) ∧
     ¬((0x80000001 : Nat) < 2 ^ 31 + 16 ∧ 0x80000001 < 2 ^ 31 + domain1.bal.length) ∧
     (0x80000001 : Nat) ∈ Claims.named false ⟨0, 3, 0x80000001, 0, false, false, false⟩) ∧
    (let s := moving 3 0 0x08000000 10 100
     moves s true 100 ∧ lanesOf s = [] ++ ⟨0, 3, 0, 0x08000000, false, false, false⟩ :: [] ∧
     domain1.links[Claims.linkOf ⟨0, 3, 0, 0x08000000, false, false, false⟩]? = none) ∧
    (let s := moving 0xFFFFFFFF 0 9 10 100
     moves s true 100 ∧ (0xFFFFFFFF#32).toInt < 0 ∧
     domain1.links[Claims.linkOf ⟨0, 0xFFFFFFFF, 0, 9, false, false, false⟩]? = some ⟨true, 1, 5, 0, 0, 0, 0⟩) := by
  unfold moves Claims.beyondCells; decide +kernel
theorem witness_transfer_results :
    (let s := moving 11 0 1 10 100
     moves s false 100 ∧ Claims.content s cellsLeaf 0x18000 + Claims.delta false (lanesOf s) 0 = -1 ∧
     Claims.unpoisoned s cellsLeaf 0x18000 4) ∧
    (let s := moving 1 0 1 0x7FFFFFFF00000001 100
     moves s false 100 ∧ Claims.content s cellsLeaf 0x18004 + Claims.delta false (lanesOf s) 1 = 2 ^ 31 ∧
     Claims.content s cellsLeaf 0x18000 + Claims.delta false (lanesOf s) 0 = 0) ∧
    (let s := moving 1 0 0x80000000 10 (2 ^ 63 - 1)
     moves s false (2 ^ 63 - 1) ∧ (2 ^ 63 - 1 : Int) + Claims.delta false (lanesOf s) (2 ^ 31 + 0) = 2 ^ 63) := by
  unfold moves Claims.unpoisoned; decide +kernel

theorem witness_remote_checks :
    (peerLanes (remote 0x010201) = [] ++ ⟨0, 0x010201, 0, 3⟩ :: [⟨63, 0x010201, 8, 5⟩] ∧ acts (.rst 0 0 2 1 2 0) (remote 0x010201) = true ∧
      (0x010201#64 &&& ~~~0x3F3FFF#64) = 0 ∧ (0x010201 : Nat) / 2 ^ 16 % 64 ≠ 0) ∧
    (let lanes (x : Word32) := Claims.remoteLanes ({ (remote 0x201).wave with v := [(64, x)], active := 1 } : Wave) 1 false 2 1 2
     let s (x : Word32) : State := { remote 0x201 with wave := { (remote 0x201).wave with v := [(64, x)], active := 1 } }
     lanes 2 = [] ++ ⟨0, 0x201, 2, 0⟩ :: [] ∧ acts (.rst 0 0 2 1 2 0) (s 2) = true ∧ reachable (s 2) 1 = true ∧ (2 : Nat) % 4 ≠ 0 ∧
     ratEntry (s 2) 0 2 = some ratWords ∧
     lanes 0x100 = [] ++ ⟨0, 0x201, 0x100, 0⟩ :: [] ∧ acts (.ratom 0 0 0 2 1 2 0) (s 0x100) = true ∧ (0x100 : Nat) % 4 = 0 ∧
     ratWords.w2.toNat % 2 ^ 32 < 0x100 + 4) := by decide +kernel
theorem witness_fbind_walk :
    (∀ pa, translate sealed 0 0 domain1.base ≠ .error (.device pa)) ∧ ∀ pa, translate sealed 0 0 domain1.base ≠ .error (.poison pa) := by
  have h : translate sealed 0 0 domain1.base = .ok cellsLeaf := is_ok (by decide +kernel)
  rw [h]; exact ⟨fun _ e => (by cases e), fun _ e => (by cases e)⟩

/-! Events: what the boot ROM checks, power, semaphores, the window, and errors. -/

/-- The boot ROM in its transfer, with a block size and the bytes received. -/
def transfer (blksize : Nat) (image : List Byte) : State :=
  { State.reset with boot := { State.reset.boot with stage := 5, blksize := blksize, image := image } }
theorem witness_transfer_blocks :
    Claims.romAt (transfer 0 []) 5 ∧ (transfer 0 []).boot.blksize = 0 ∧ 2 ^ 26 + 7539 < 2 ^ 26 + 7540 ∧
    (∀ m, (some (2 ^ 26 + 7539) : Option Nat) = some m → m ≤ 2 ^ 26 + 7539) ∧ (511 < 512 ∨ 8192 < 511) ∧ (8193 < 512 ∨ 8192 < 8193) ∧
    512 = (none : Option Nat).getD 512 ∧ (List.replicate 512 (0 : Byte)).length = 512 ∧
    Claims.romAt (transfer 512 []) 5 ∧ (transfer 512 []).boot.blksize ≠ 0 ∧
    (List.replicate 512 (0 : Byte)).length = (transfer 512 []).boot.blksize ∧
    (let fw : Firmware := ⟨2000000, 10000, 10000000, 15, 50000, 3000000⟩
     10000 ≤ fw.preemptTimeout ∧ fw.preemptTimeout ≤ 10000000 ∧ fw.relaunchLimit ≤ 15 ∧ fw.powerCap ≤ 3000000) := by
  refine ⟨by unfold Claims.romAt; decide, rfl, by decide, fun m h => by cases h; decide, by decide, by decide, rfl, List.length_replicate,
    by unfold Claims.romAt; decide, by decide, by decide +kernel, by decide⟩
/-- An image of one payload byte, with a payload length and an SVN: a header, the keys, the payload and the signatures all zero. -/
def image (len svn : Nat) : List Byte :=
  leSplit 4 0x57514854 ++ leSplit 4 1 ++ leSplit 4 svn ++ leSplit 4 0 ++ leSplit 8 len ++ List.replicate (0x0B00 - 24 + 1 + 4627 + 96) 0
theorem witness_image_checks :
    (let im := image (2 ^ 26 + 1) 0
     Claims.romAt (transfer 512 []) 5 ∧ 2 ^ 26 < leValue ((im.drop 0x10).take 8)) ∧
    (let im := image 2 0
     leValue ((im.drop 0x10).take 8) ≤ 2 ^ 26 ∧ im.length ≠ 0x0B00 + 2 + 4627 + 96) ∧
    (let im := image 1 3
     let f (pos n : Nat) : Nat := leValue ((im.drop pos).take n)
     f 0x10 8 = 1 ∧ f 0 4 = 0x57514854 ∧ f 4 4 = 1 ∧ f 0x0C 4 = 0 ∧ f 0x18 8 < 1 ∧ f 0x20 32 = 0 ∧ f 0x0AC0 64 = 0 ∧
     im.length = 0x0B00 + 1 + 4627 + 96 ∧ f 8 4 = 3 ∧ (im.drop 7000).length < (transfer 8192 (im.take 7000)).boot.blksize) := by
  unfold Claims.romAt; decide +kernel
/-- The same image where the fuses hold its keys, and where its SVN is below the rollback counter or not. -/
theorem witness_image_keys :
    let im := image 1 3
    let s (rollback : Nat) : State := { transfer 8192 [] with
      boot := { (transfer 8192 []).boot with
        mlHash := Config.sha384 ((im.drop 0x40).take 2592), ecHash := Config.sha384 ((im.drop 0x0A60).take 96),
        rollback := rollback } }
    Config.sha384 ((im.drop 0x40).take 2592) = (s 3).boot.mlHash ∧ Config.sha384 ((im.drop 0x0A60).take 96) = (s 3).boot.ecHash ∧
    3 < (s 4).boot.rollback ∧ (s 3).boot.rollback ≤ 3 := ⟨rfl, rfl, by decide, by decide⟩

/-- `data` above its cap. -/
def hot : State := { data with power := ⟨[], true, 0, []⟩, cyc := 4000 }
theorem witness_gated_next :
    Claims.mayGate hot 0 ∧ Claims.gatedNext hot (fun j => j < 64) 0 ∧ hot.power.above = true ∧
    Claims.mayGate { hot with islands := [(0, ⟨.active, 0, some 0, false⟩)] } 0 ∧
    ¬Claims.mayGate { hot with islands := [(0, ⟨.active, 0, some 1, false⟩)] } 0 ∧ hot.power.samples.length < 100 := by
  have h : ∀ j < 64, (islandAt hot j).state = .active → j = 0 := by decide +kernel
  have g : Claims.mayGate hot 0 := by
    refine ⟨by decide +kernel, by decide +kernel, fun x hx => ?_⟩
    have e : (islandAt hot 0).gatedAt = none := by decide +kernel
    rw [e] at hx; cases hx
  refine ⟨g, ⟨by decide, g, fun j hj hm hn => absurd (h j hj hm.1) hn⟩, rfl, ⟨by decide +kernel, by decide +kernel, fun x hx => ?_⟩,
    fun hm => ?_, by decide⟩
  · have e : (islandAt { hot with islands := [(0, ⟨.active, 0, some 0, false⟩)] } 0).gatedAt = some 0 := by decide +kernel
    rw [e] at hx; cases hx; decide
  · have e : (islandAt { hot with islands := [(0, ⟨.active, 0, some 1, false⟩)] } 0).gatedAt = some 1 := by decide +kernel
    exact absurd (hm.2.2 1 e) (by decide)
theorem witness_island_of_a_saved_span :
    let s : State := { data with spans := [{ span0 with phase := .saved }] }
    ∀ b ∈ s.blocks, islandOf b.core = 0 → b.ended = true ∨ ∀ x, s.findSpan b.span = some x → x.phase ≠ .live := by
  have h : ({ data with spans := [{ span0 with phase := .saved }] } : State).findSpan block0.span = some { span0 with phase := .saved } := by
    decide +kernel
  intro s b hb _
  cases List.mem_singleton.1 hb
  exact Or.inr (fun x hx => by rw [h] at hx; cases hx; decide)
theorem witness_semaphores_rotate :
    semOrder State.reset 15 = [] ++ .port0 :: [.port1] ++ .management :: [] ∧ (semOrder State.reset 15).Nodup ∧
    semOrder State.reset 0 = [.port0] ++ .port1 :: [] ++ .management :: [] := by decide +kernel
theorem witness_window_writes :
    (21 : Nat) < 22 ∧ (0x2540 : Nat) ≠ 0x1080 ∧ (∀ k < 22, (0x2580 : Nat) ≠ 0x2000 + 0x40 * k) ∧
    (∀ k < 22, (0x2008 : Nat) ≠ 0x2000 + 0x40 * k) ∧
    ∀ offset ∈ [0x0FF8, 0x1040, 0x0014, 0x2008, 0x2580], offset ≠ 0x1080 ∧ offset ≠ 0x0010 ∧ ¬(0x1000 ≤ offset ∧ offset < 0x1040) ∧
      ∀ k < 22, offset ≠ 0x2000 + 0x40 * k := by decide
theorem witness_errors :
    (7 : Nat) < 8 ∧ (0x8FFFFFFFFF : Nat) < 0x9000000000 ∧ 8 + Config.hbmStack 0x68000 % 12 < 22 ∧
    (let x : ErrLoc := ⟨3, 0, 1, 2, 0, 0⟩
     let y : ErrLoc := ⟨3, 0, 0, 4, 0, 0⟩
     x.core < y.core ∨ (x.core = y.core ∧ x.unit < y.unit)) ∧
    exec (.errstatClear 7 (1#64 <<< 63)) State.reset = .next (after (exec (.errstatClear 7 (1#64 <<< 63)) State.reset)) :=
  ⟨by decide, by decide, by omega, by decide, goes_next (by decide +kernel)⟩

/-! Events: replays, slices, and the policy. -/

theorem witness_replay_in_order :
    Claims.nothingInFlight (focus (serving true [] 0) 0) (focus (serving true [] 0) 0).wave ∧
    (∀ fn t va succ, load8008.req ≠ .post fn t va succ) ∧ (∀ z va, load8008.req ≠ .mxldz z va ∧ load8008.req ≠ .mxstz z va) ∧
    ∀ u : State, load8008.req.strong u u.wave = false ∨ load8008.req.strong u u.wave = true := by
  refine ⟨⟨fun p h e he => ?_, fun o h => ?_, by decide +kernel⟩, fun _ _ _ _ h => (by cases h),
    fun _ _ => ⟨fun h => (by cases h), fun h => (by cases h)⟩, fun u => by cases load8008.req.strong u u.wave <;> simp⟩
  · have g : tget (focus (serving true [] 0) 0).parts (focus (serving true [] 0) 0).wave.span.part = some { part0 with faults := [] } := by
      decide +kernel
    rw [g] at h; cases h; cases he
  · have g : (focus (serving true [] 0) 0).fabric.outs = [] := by decide +kernel
    rw [g] at h; cases h

/-- Two contexts, of which context 1 has work that waits, at a CYC. -/
def rivals (prio cyc : Nat) : State :=
  { data with
    cyc := cyc,
    parts := [(0, { part0 with ctxs :=
      [(0, { ctx0 with launches := [(0, launch0 false false)] }), (1, { ctx0 with launches := [(0, { launch0 false false with prio := prio })] })] })] }
theorem witness_slice_over :
    sliceOver (rivals 1 2000000) 0 0 { ctx0 with launches := [(0, launch0 false false)] } = true ∧
    (rivals 1 2000000).findCtx 0 0 = some { ctx0 with launches := [(0, launch0 false false)] } ∧
    ctxLive (rivals 1 2000000) 0 0 = true ∧ (rivals 1 1999999).cyc < ctx0.placedAt + (rivals 1 1999999).fw.slice := by
  decide +kernel
/-- A grid of two spans, one of them live, with the flag or without. -/
def grid2 (gbar : Bool) (spans : List Span) : State :=
  { data with
    spans := spans,
    parts := [(0, { part0 with ctxs := [(0, { ctx0 with launches := [(0, { launch0 gbar false with grid := [2, 1, 1] })] })] })] }
theorem witness_dispatch_allowed :
    let s := grid2 false [span0]
    let written : List BindWords := [⟨0x1003, 1⟩]
    let r : Bind := ⟨1, 0, true, [0, 0, 0, 0, 0, 0, 0, 0], 0, 0, 1, 0, 0⟩
    let a := onPart s 0 (fun q => written.foldl writeSlot q)
    frontLive s = true ∧ (∀ w ∈ written, policyAllows s 0 (bindOf w).ctx (bindOf w).lrec = true) ∧
    nextSpan (partAt a 0) = some [(0, r)] ∧ spanFailure a 0 [(0, r)] = none ∧
    a.launchOf (r.id 0) = some { launch0 false false with grid := [2, 1, 1] } ∧
    mayDispatch a 0 { launch0 false false with grid := [2, 1, 1] } [r] (r.id 0) = true ∧ a.findSpan (r.id 0) = none := by
  decide +kernel
theorem witness_barrier_grid :
    let s := grid2 true []
    let written : List BindWords := [⟨0x1003, 1⟩]
    let r : Bind := ⟨1, 0, true, [0, 0, 0, 0, 0, 0, 0, 0], 0, 0, 1, 0, 0⟩
    let a := onPart s 0 (fun q => written.foldl writeSlot q)
    (∀ w ∈ written, policyAllows s 0 (bindOf w).ctx (bindOf w).lrec = true) ∧ nextSpan (partAt a 0) = some [(0, r)] ∧
    (∀ w ∈ written, ∀ x ∈ s.findSpan ((bindOf w).id 0), x.phase ≠ .again) ∧ (partAt a 0).gathered = [] ∧
    spanFailure a 0 [(0, r)] = none ∧ (partAt a 0).slotTail = (partAt a 0).slotHead + 1 ∧
    a.launchOf (r.id 0) = some { launch0 true false with grid := [2, 1, 1] } ∧
    (launch0 true false).finished + 2 ≤ [2, 1, 1].foldl (· * ·) 1 := by decide +kernel
theorem witness_policy :
    (let s := rivals 1 0
     ((partAt s 0).ctxs.map (·.1)).Pairwise (· < ·) ∧ (bindOf ⟨0x1003, 1⟩).ctx = 0 ∧ (bindOf ⟨0x1003, 1⟩).lrec = 0 ∧
     launchReady s 0 1 0 { launch0 false false with prio := 1 } { ctx0 with launches := [(0, { launch0 false false with prio := 1 })] } = true ∧
     min 7 ((launch0 false false).prio + ctx0.raised) < min 7 (1 + ctx0.raised)) ∧
    (let s : State := { rivals 0 0 with spans := [] }
     launchReady s 0 0 0 (launch0 false false) { ctx0 with launches := [(0, launch0 false false)] } = true ∧
     (bindOf ⟨0x1003, 0x1000000000000⟩).ctx = 1 ∧ tget (partAt s 0).turns 0 = none) := by decide +kernel
theorem witness_placement :
    let x : Span := { span0 with phase := .again, badCores := [0] }
    let s : State := { data with
      spans := [x], blocks := [],
      parts := [(0, { part0 with climit := 1, ctxs := [(0, { ctx0 with launches := [(0, launch0 false false)] })] })] }
    s.findSpan ((bindOf ⟨0x1001, 0⟩).id 0) = some x ∧ (bindOf ⟨0x1001, 0⟩).core ∈ x.badCores ∧
    s.launchOf ((bindOf ⟨0x1001, 0⟩).id 0) = some (launch0 false false) ∧ placementOff s 0 (launch0 false false) x.badCores = true := by
  decide +kernel
theorem witness_relaunch_of_a_plain_launch : (launch0 true false).node = none := rfl

/-! Events: levels, links, flits and records. -/

/-- Partition 0 on one island, with level monitor 64. -/
def levels (source count : Nat) : Partition :=
  { part0 with
    notif := [(2, [(0xAB, 7), (0xAC, 7)]), (3, [(0xAD, 7)])],
    monitors := [(64, ⟨.level source 0 0, [(0, 5), (4, count)], 1, 3, true⟩)] }
theorem witness_levels :
    (let q := levels 4 (2 ^ 16 - 2)
     tget q.monitors 64 = some ⟨.level 4 0 0, [(0, 5), (4, 2 ^ 16 - 2)], 1, 3, true⟩ ∧
     (q.notif.map (fun e => e.2.length)).sum = 3 ∧ min 15 ((3 - 0) / 2 ^ 0) = 3 ∧ (5 : Nat) + 1 < 2 ^ 64 - 1 ∧
     tgetD [(0, 5), (4, 2 ^ 16 - 2)] (3 + 1) 0 < 2 ^ 16 - 1 ∧ tgetD [(0, 5), (4, 2 ^ 16 - 2)] (3 + 1) 0 + 1 = 2 ^ 16 - 1) ∧
    (let q := levels 5 0
     q.cbase / 2 = q.climit / 2 ∧ q.cbase / 2 < 64 ∧ tgetD [(0, 5), (4, 0)] 1 0 + 1 < 2 ^ 16 - 1) := by decide +kernel

/-- `data` in a domain of four devices of two enclosures, with direct link 1 down or not, at a CYC. -/
def fabrics (down upDown : List Nat) (x : LinkState) (cyc : Nat) : State :=
  { data with cyc := cyc, fabric := ⟨some 0, [0, 1, 2, 17], down, upDown, [(1, x)], [], [], [], []⟩ }
theorem witness_links :
    (let x : LinkState := ⟨16, 5, none⟩
     tgetD (fabrics [] [] x 5).fabric.links 1 ⟨0, 0, none⟩ = x ∧ 16 ≤ x.fails) ∧
    (let x : LinkState := ⟨15, 5, none⟩
     x.flit + 10000 ≤ (fabrics [] [] x 10005).cyc ∧ ¬(16 ≤ x.fails ∨ x.flit + 10000 ≤ (fabrics [] [] x 10004).cyc)) ∧
    (let x : LinkState := ⟨0, 1000000, some 5⟩
     x.since = some 5 ∧ ¬(16 ≤ x.fails ∨ x.flit + 10000 ≤ (fabrics [1] [] x 1000005).cyc) ∧
     5 + 1000000 ≤ (fabrics [1] [] x 1000005).cyc ∧ (fabrics [1] [] x 1000004).cyc < 5 + 1000000) := by decide
theorem witness_routes :
    let x : LinkState := ⟨0, 0, none⟩
    (∀ peer ∈ [0, 1, 2, 17], peer ∈ (fabrics [1] [3] x 0).fabric.members) ∧ (fabrics [1] [3] x 0).fabric.number = some 0 ∧
    (1 : Nat) % 16 ∈ (fabrics [1] [3] x 0).fabric.down ∧ (2 : Nat) % 16 ∉ (fabrics [1] [3] x 0).fabric.down ∧
    (2 % 16 ≠ 0 % 16 ∧ 16 * (0 / 16) + 2 ∈ (fabrics [1] [3] x 0).fabric.members ∧ 2 ∉ (fabrics [1] [3] x 0).fabric.down) ∧
    (3 + 0) % 16 ∈ (fabrics [1] [3] x 0).fabric.upDown ∧ (3 + 1) % 16 ∉ (fabrics [1] [3] x 0).fabric.upDown := by decide

/-- A path of window 5 from device 1 on which a sequence number is expected, with packets held. -/
def incoming (expected : BitVec 32) (held : List Packet) : State :=
  { data with fabric := ⟨some 0, [0, 1, 2], [], [], [], [], [⟨path5, expected, held, [], none⟩], [], []⟩ }
/-- A packet of that path. -/
def packet5 (seq : BitVec 32) : Packet := ⟨path5, seq, store2⟩
theorem witness_flits :
    ((320 : Nat) < 512 ∧ (511 : Nat) < 512 ∧ 1536 ≤ (1536 : Nat) ∧ ¬((320 ≤ 319 ∧ 319 < 512) ∨ 1536 ≤ 319) ∧
     ¬((320 ≤ 512 ∧ 512 < 512) ∨ 1536 ≤ (512 : Nat)) ∧ ¬((320 ≤ 1535 ∧ 1535 < 512) ∨ 1536 ≤ (1535 : Nat))) ∧
    (let s := incoming 7 []
     s.fabric.number = some 0 ∧ (packet5 7).path = path5 ∧ (packet5 7).seq = (inPath s path5).expected ∧ (inPath s path5).held = [] ∧
     (packet5 9).seq ≠ (inPath s path5).expected ∧ ((packet5 9).seq - (inPath s path5).expected).toNat < 2 ^ 31 ∧
     2 ^ 31 ≤ ((packet5 6).seq - (inPath s path5).expected).toNat) ∧
    (let s := incoming 7 [packet5 8]
     (inPath s path5).held = [packet5 8] ∧ (packet5 8).seq = (inPath s path5).expected + 1) ∧
    (0 ≠ 2 ∧ 0 / 16 = 2 / 16 ∧ 2 % 16 ∉ (incoming 7 []).fabric.down) := by decide +kernel
theorem witness_record_sums :
    -(2 ^ 63) ≤ domain1.bal.getD (0x80000000 % 16) 0 + 7 ∧ domain1.bal.getD (0x80000000 % 16) 0 + 7 < 2 ^ 63 ∧
    (100 : Int) + (2 ^ 63 - 101) < 2 ^ 63 ∧ 2 ^ 31 ≤ (0x80000000 : Nat) := by decide

/-! Events: engine commands. -/

/-- A device whose command stands at the head of its queue on core 0. -/
def running (q : Nat) (c : Cmd) : State := queued q c Core.empty data
theorem witness_commands_wait :
    (let c := { copyWord with held := true }
     headCmd (running 1 c) 0 1 = some c ∧ c.held = true) ∧
    (let c := { copyWord with behind := [4] }
     let k : Core := { Core.empty with fences := [⟨4, ⟨0, 0, 0, 0⟩, 0, 2, [(1, 9)], none, false⟩] }
     headCmd (queued 1 c k data) 0 1 = some c ∧ ∃ n ∈ c.behind, ∃ f ∈ ((queued 1 c k data).coreOf 0).fences, f.seq = n) := by
  decide +kernel
theorem witness_commands_may_run :
    Claims.mayRun (running 1 { copy0 with chain := true }) 0 1 { copy0 with chain := true } ∧
    Claims.mayRun (running 1 copyWord) 0 1 copyWord ∧ Claims.mayRun (running 0 loop0) 0 0 loop0 ∧
    (∀ x ∈ ((running 0 loop0).coreOf 0).steps, x.slot ≠ loop0.tile) ∧ coreRuns (running 1 copyWord) 0 = true := by
  unfold Claims.mayRun; decide +kernel
/-- A copy with its header, source, destination, count and strides. -/
def copying (h src dst count from_ onto_ : Nat) : Cmd :=
  { copy0 with desc := dwords ([h, src, dst, 0, count, from_, onto_] ++ List.replicate 25 0) }
/-- Its device, and that it is such a copy. -/
def copies (c : Cmd) (dkind skind esz : Nat) : Prop := Claims.isCopy (running 1 c) 0 1 c dkind skind esz
theorem witness_copies :
    copies (copying 0x2844 0 0x100 2 4 4) 1 1 2 ∧ copies (copying 0x844 0x8000 0x100 2 4 4) 1 0 2 ∧
    copies (copying 0x2840 0 0x8000 1 0 0) 0 1 2 ∧ copies (copying 0x3848 0 0 8 64 0) 2 1 6 ∧
    copies (copying 0x2844 2 0x100 1 0 0) 1 1 2 ∧ (running 1 copyWord).findBlock ⟨0, 0, 0, 0⟩ 0 = some block0 := by
  unfold copies Claims.isCopy Claims.mayRun; dsimp only
  refine ⟨?_, ?_, ?_, ?_, ?_, ?_⟩ <;> decide +kernel
theorem witness_copy_elements :
    (let c := copying 0x2844 0 0x100 2 4 4
     Claims.copyCount c = 2 ∧ ∀ n < 2, Claims.copyAt c false n % 4 = 0 ∧ Claims.copyAt c true n % 4 = 0 ∧
       Claims.copyAt c false n + 4 ≤ block0.size ∧ Claims.copyAt c true n + 4 ≤ block0.size) ∧
    (let c := copying 0x844 0x8000 0x100 2 4 4
     Claims.copyCount c = 2 ∧ ∀ n < 2, Claims.copyAt c true n + 4 ≤ block0.size ∧
       isOk dataLeaf (access (running 1 c) 0 0 .load (Claims.copyAt c false n) 4) = true) ∧
    (let c := copying 0x2840 0 0x8000 1 0 0
     Claims.copyCount c = 1 ∧ isOk dataLeaf (access (running 1 c) 0 0 .store (Claims.copyAt c true 0) 4) = true ∧ dataLeaf.cls ≠ 2) ∧
    (let c := copying 0x3848 0 0 8 64 0
     Claims.copyCount c * 64 = 512 ∧ ∀ m < 8, Claims.copyAt c false m + 64 ≤ block0.size) ∧
    Claims.copyAt (copying 0x2844 2 0x100 1 0 0) false 0 % 4 ≠ 0 ∧ block0.poison = [] := by decide +kernel
/-- A BLOAD of one line with its tag and base, and strides of 0. -/
def loading (tag base : Nat) : Cmd := { copy0 with fn := 2, desc := dwords [0x100000 + 16 * tag, base, 0, 0] }
theorem witness_bload :
    (∀ c ∈ [loading 5 0x8000, loading 1 0x20000], (headCmd (running 1 c) 0 1 = some c ∧ c.phase = .waiting ∧ c.held = false ∧ c.stall = none ∧ c.behind = []) ∧
      coreRuns (running 1 c) 0 = true ∧ c.reservedOk = true) ∧
    access (running 1 (loading 5 0x8000)) 0 0 .load 0x8000 1 = .ok dataLeaf ∧ dataLeaf.efmt = 0 ∧
    (∀ m < 1, ∀ n < 32, ∀ e < 64, ∀ b : Nat, b < 1 →
      ((((0x8000 : Nat) + ((n : Int) * 0 + ((m * 64 + e : Nat) : Int) * 0) * 1 + b : Int)) % 2 ^ 64).toNat = 0x8000) ∧
    access (running 1 (loading 1 0x20000)) 0 0 .load 0x20000 1 = .ok ⟨0x80000, 0x8000, 0x8000F, 1⟩ ∧
    found (locate (running 1 (loading 1 0x20000)) 0 0 .load { TReg.unbound with base := 0x20000 } 0) = true ∧
    (taken ⟨[], none, 0⟩ (locate (running 1 (loading 1 0x20000)) 0 0 .load { TReg.unbound with base := 0x20000 } 0)).leaf.efmt = 1 := by
  refine ⟨by decide +kernel, is_ok (by decide +kernel), by decide, fun m _ n _ e _ b hb => ?_, is_ok (by decide +kernel),
    by decide +kernel, by decide +kernel⟩
  have : b = 0 := by omega
  subst this
  simp
/-- A CBLD of the image at an address. -/
def building (va : Nat) : Cmd := { copy0 with fn := 3, desc := dwords [0, va] }
theorem witness_cbld :
    Claims.mayRun (running 3 (building 0x8000)) 0 3 (building 0x8000) ∧ (building 0x8000).reservedOk = true ∧
    (building 0x8001).dword 1 % 4096 ≠ 0 ∧ (building 0x8000).dword 1 % 4096 = 0 ∧
    (∀ j < 64, isOk dataLeaf (access (running 3 (building 0x8000)) 0 0 .load (0x8000 + 64 * j) 1) = true) ∧
    (∀ r < 512, memByte data 0 (dataLeaf.pa (0x8000 + (8 * r + 4))) = 0) ∧
    (let s := device dataWave (dword 0x68000 0x10000000000)
     memByte s 0 (dataLeaf.pa (0x8000 + 5)) ≠ 0) := by
  refine ⟨by unfold Claims.mayRun; decide +kernel, by decide +kernel, by decide +kernel, by decide +kernel, by decide +kernel,
    by decide +kernel, by decide +kernel⟩
/-- An NWRI of two bytes, or of more than 1 MiB, on a flow. -/
def sending (flow length : Nat) : Cmd := { copy0 with fn := 5, desc := dwords [flow * 0x10000, 0x8000, 0x38000, length] }
theorem witness_nwri :
    (let s := queued 4 (sending 3 2) Core.empty networked
     Claims.mayRun s 0 4 (sending 3 2) ∧ (sending 3 2).reservedOk = true ∧ findFlow s 0 3 = some flowState ∧
     flowState.unacked.length + max 1 ((2 + 8191) / 8192) ≤ 8192 ∧
     (∀ j < 2, isOk dataLeaf (access s 0 0 .load ((0x8000 + j) % 2 ^ 64) 1) = true)) ∧
    (sending 3 (2 ^ 20 + 1)).dword 3 % 2 ^ 32 = 2 ^ 20 + 1 ∧ findFlow (queued 4 (sending 9 2) Core.empty networked) 0 9 = none := by
  unfold Claims.mayRun; decide +kernel
/-- The core of `lined` with lines 0 and 1 tagged, an MXLOOP running, and entries in metadata queue 0. -/
def looping (h : Nat) (entries : List (List Byte)) : State :=
  queued 0 { copy0 with fn := 0, desc := dwords [h, 0, 0, 0], phase := .running }
    { Core.empty with tags := (List.range 64).map (fun j => (j, 5)), mdq := if entries = [] then [] else [(0, entries)] } data
theorem witness_loop_steps :
    (∀ e ∈ [(0x100000040, []), (0x100040040, [List.replicate 512 (0x44 : Byte)]), (0x100040040, [])],
      let s := looping e.1 e.2
      let c : Cmd := { copy0 with fn := 0, desc := dwords [e.1, 0, 0, 0], phase := .running }
      let k := s.coreOf 0
      headCmd s 0 0 = some c ∧ c.started < c.dword 0 / 2 ^ 32 % 2 ^ 16 ∧ coreRuns s 0 = true ∧ k.stepAt ≤ s.cyc ∧ k.steps = [] ∧
      c.dword 0 / 2 ^ 4 % 16 = 4 ∧ s.findBlock c.span c.block = some block0 ∧ c.dword 1 = 0 ∧ c.dword 2 = 0 ∧
      (∀ l ∈ [0, 1], ∀ j < 32, tagAccepted 4 (sget k.tags (32 * l + j)).toNat = true) ∧ tgetD k.mdq 0 [] = e.2 ∧ k.poisonZ = [] ∧
      k.poisonT = []) ∧
    (0x100000040 : Nat) / 2 ^ 16 % 8 = 0 ∧ (0x100040040 : Nat) / 2 ^ 16 % 8 = 4 ∧ 0 + 2048 ≤ block0.size ∧
    ∀ i < 32, ∀ g < 32, Claims.metaBits (List.replicate 512 0x44) i (4 * g) < Claims.metaBits (List.replicate 512 0x44) i (4 * g + 2) := by
  decide +kernel

/-! Floating point. -/

theorem witness_exact_values :
    (∀ i ∈ [Instr.vfadd 0 2 3 4 0, .vffmaDirected 0 2 2 3 4 0, .vfmul16 2 4, .vhfma 0 2 3 4 0, .vfcvt 0 5 2 4 0, .vxcvt 0 13 2 4 0],
      (Claims.exactMeaning i data.wave).isSome = true ∧ acts i data = true) ∧
    (∀ i ∈ [Instr.vfrcp 0 2 4 0, .vfrsq 0 2 4 0, .vfex2 0 2 4 0, .vfexp 0 2 4 0, .vflg2 0 2 4 0, .vfsin 0 2 4 0, .vfcos 0 2 4 0],
      (Claims.specialOf i).isSome = true ∧ acts i data = true) := by decide +kernel

end Sys2Proof.Tests
end

section
/-!
PROOF. Maps and filters of finite maps; the state after reset; and the semaphores that a port's reset releases (R20, R23, R33).
-/

namespace Sys2Proof.Machine

open Sys2Proof

/-! ### Maps and filters of sparse arrays and finite maps -/

/-- A sparse array whose entries are changed each on its own, zero staying zero. -/
theorem sget_map {w : Nat} (f : BitVec w → BitVec w) (hf : f 0 = 0) (m : Sparse w) (i : Nat) :
    sget (m.map (fun e => (e.1, f e.2))) i = f (sget m i) := by
  induction m with
  | nil => exact hf.symm
  | cons e rest ih =>
    obtain ⟨k, x⟩ := e
    simp only [List.map_cons, sget, ih]
    split <;> rfl

/-- A finite map whose values are changed each by its key. -/
theorem tget_map {α β : Type} (f : Nat → α → β) (m : Tab α) (i : Nat) :
    tget (m.map (fun e => (e.1, f e.1 e.2))) i = (tget m i).map (f i) := by
  induction m with
  | nil => rfl
  | cons e rest ih =>
    obtain ⟨k, x⟩ := e
    simp only [List.map_cons, tget, ih]
    split
    · subst k; rfl
    · rfl

/-- A finite map of which the keys that a test rejects are dropped. -/
theorem tget_filter {α : Type} (p : Nat → Bool) (m : Tab α) (i : Nat) :
    tget (m.filter (fun e => p e.1)) i = if p i then tget m i else none := by
  induction m with
  | nil => simp [tget]
  | cons e rest ih =>
    obtain ⟨k, x⟩ := e
    simp only [List.filter_cons, tget]
    by_cases hk : k = i
    · subst hk
      cases h : p k <;> simp [ih, tget, h]
    · cases h : p k <;> simp [ih, tget, hk]

/-- A value found in a finite map stands there under its key. -/
theorem mem_of_tget {α : Type} {m : Tab α} {i : Nat} {x : α} (h : tget m i = some x) : (i, x) ∈ m := by
  induction m with
  | nil => simp [tget] at h
  | cons e rest ih =>
    obtain ⟨k, y⟩ := e
    simp only [tget] at h
    split at h
    · rename_i hk
      simp_all
    · exact List.mem_cons_of_mem _ (ih h)

/-- Settles O59: every field of `State.reset` is written out, and an empty array reads as zero. -/
theorem resetLeavesTheDevice : Obligations.ResetLeavesTheDevice := by
  unfold Obligations.ResetLeavesTheDevice
  exact ⟨fun _ => rfl, fun _ => rfl, fun _ => rfl, fun _ => rfl, fun _ => ⟨by simp [State.reset, sget], rfl⟩, rfl, rfl, rfl, fun _ => rfl, wf_reset⟩

/-! ### Semaphores (R20 to R24) -/

theorem getLsbD_zero_iff {w : Nat} (x : BitVec w) : x.getLsbD 0 = true ↔ x.toNat % 2 = 1 := by
  rw [BitVec.getLsbD, Nat.testBit_zero, decide_eq_true_eq]

theorem semOwner_toNat (x : BitVec 32) : (semOwner x).toNat = x.toNat / 2 % 4 := by
  simp [semOwner, BitVec.extractLsb'_toNat, Nat.shiftRight_eq_div_pow]

theorem ownerCode_toNat (who : Requester) : (ownerCode who).toNat = requesterIndex who + 1 := by
  cases who <;> rfl

/-- OWNER holds a requester's code (R20). -/
theorem semOwner_eq_iff (x : BitVec 32) (who : Requester) :
    semOwner x = ownerCode who ↔ x.toNat / 2 % 4 = requesterIndex who + 1 := by
  rw [BitVec.toNat_eq, semOwner_toNat, ownerCode_toNat]

/-- A semaphore register as the release of one requester's semaphores leaves it (R23). -/
def released (who : Requester) (x : BitVec 32) : BitVec 32 :=
  if x.toNat % 2 = 1 ∧ x.toNat / 2 % 4 = requesterIndex who + 1 then 0x10#32 else x

/-- Releasing a requester's semaphores changes each register on its own (R23). -/
theorem sget_abandon (who : Requester) (s : State) (n : Nat) :
    sget (abandon who s).host.sem n = released who (sget s.host.sem n) := by
  have e : (abandon who s).host.sem = s.host.sem.map (fun e => (e.1, released who e.2)) := by
    refine List.map_congr_left (fun e _ => ?_)
    simp only [released, getLsbD_zero_iff, semOwner_eq_iff]
    split <;> rfl
  rw [e, sget_map _ (by simp [released])]

/-- The requester that a host port is. -/
def portRequester (port : Nat) : Requester := if port = 0 then .port0 else .port1

theorem requesterIndex_portRequester {port : Nat} (h : port < 2) : requesterIndex (portRequester port) = port := by
  obtain rfl | rfl : port = 0 ∨ port = 1 := by omega
  · rfl
  · rfl

theorem exec_portReset {port : Nat} (h : port < 2) (s : State) : exec (.portReset port) s = .next (portLost port s) :=
  congrArg _ (if_pos h)

/-- The semaphores after a port's reset: those that the port held are free, with ABAND set, and no other differs (R23). -/
theorem sget_portLost {port : Nat} (h : port < 2) (s : State) (n : Nat) :
    sget (portLost port s).host.sem n =
      if (sget s.host.sem n).toNat % 2 = 1 ∧ (sget s.host.sem n).toNat / 2 % 4 = port + 1 then 0x10#32 else sget s.host.sem n := by
  have e := sget_abandon (portRequester port) s n
  rwa [released, requesterIndex_portRequester h] at e

/-- Settles O51: the registers that a reset releases are those whose OWNER is the port's code. -/
theorem portResetReleasesSemaphores : Obligations.PortResetReleasesSemaphores := by
  unfold Obligations.PortResetReleasesSemaphores
  intro s port hp
  refine ⟨_, exec_portReset hp s, fun n => ?_⟩
  dsimp only
  rw [sget_portLost hp, getLsbD_zero_iff]
  refine ⟨fun hheld hown => ?_, fun hother => ?_⟩
  · rw [if_pos ⟨hheld, hown⟩]
    decide
  · rw [if_neg]
    rintro ⟨hheld, hown⟩
    rcases hother with hfree | hne
    · rw [← getLsbD_zero_iff, hfree] at hheld
      cases hheld
    · exact hne hown

end Sys2Proof.Machine
end

section
/-!
PROOF. Resets of the device and of a host port: what restarts, and which records and contexts of a partition a port's reset
keeps (R18, R23, R31, R32, R248).
-/

namespace Sys2Proof.Machine

open Sys2Proof

/-! ### Resets of the device (R31, R32) -/

/-- A device that restarts stands as `State.reset` has it but for what a reset does not reach. -/
theorem restartedFrom_restarted (warm : Bool) (s : State) : Claims.restartedFrom s (restarted warm s) :=
  ⟨rfl, rfl, rfl, rfl, rfl, rfl, rfl, rfl, rfl, rfl, rfl, rfl, rfl, fun _ => rfl, fun _ => rfl, rfl, rfl, rfl, rfl, rfl, rfl, rfl,
    rfl, rfl, rfl, rfl, rfl, rfl, rfl, rfl, rfl, rfl, rfl, rfl⟩

/-- The KEY of RSTCTL (R32). -/
theorem resetKey_iff (value : BitVec 32) : value.extractLsb' 16 16 = 0xA5C3#16 ↔ value.toNat / 2 ^ 16 = 0xA5C3 := by
  have h := value.isLt
  rw [BitVec.toNat_eq, BitVec.extractLsb'_toNat, Nat.shiftRight_eq_div_pow, Nat.mod_eq_of_lt (by omega)]
  rfl

theorem deviceResets : Claims.DeviceResets := by
  intro s port value
  refine ⟨⟨_, rfl, restartedFrom_restarted false s, rfl, rfl⟩, fun hwarm hfailed => ?_, fun h => ?_⟩
  · have e : warmReset s = restarted true s := if_neg (by simp [hwarm, hfailed])
    refine ⟨restarted true s, congrArg Host.Outcome.next e, restartedFrom_restarted true s, rfl, rfl, fun hkey hw => ?_⟩
    show Host.Outcome.next (if _ then warmReset s else s) = _
    rw [if_pos ⟨(resetKey_iff value).2 hkey, (getLsbD_zero_iff value).2 hw⟩, e]
  · show Host.Outcome.next (if _ then warmReset s else s) = _
    simp only [resetKey_iff, getLsbD_zero_iff, warmReset]
    rcases h with hkey | hzero | hwarm
    · rw [if_neg (fun c => hkey c.1)]
    · rw [if_neg (by omega)]
    · rw [if_pos (Or.inl hwarm), ite_self]

/-! ### The records of a partition (R248) -/

/-- Moving the ring's records up concerns held and ringed records, and the figures of OVERFLOW, alone. -/
def Partition.sameButRing (p q : Partition) : Prop :=
  q = { p with held := q.held, ring := q.ring, late := q.late, declined := q.declined, unlogged := q.unlogged }

theorem ringOver_frame (cyc : Nat) (p : Partition) : p.sameButRing (p.ringOver cyc) := by
  unfold Partition.ringOver
  split <;> rfl

theorem moveUp_frame (cyc : Nat) (p : Partition) : p.sameButRing (moveUp cyc p) := by
  unfold moveUp
  split
  · rfl
  · exact ringOver_frame cyc _

theorem refill_frame (cyc : Nat) : ∀ (n : Nat) (p : Partition), p.sameButRing (refill cyc n p) := by
  intro n
  induction n with
  | zero => intro p; rfl
  | succ n ih =>
    intro p
    rw [refill]
    split
    · have h1 := ih (moveUp cyc p)
      have h2 := moveUp_frame cyc p
      unfold Partition.sameButRing at h1 h2 ⊢
      rw [h1, h2]
    · rfl

/-- What stands after some records have moved up: the same records in the same order, or, with an empty ring, these and the
OVERFLOW event with the figures (R248). -/
def Partition.movedUp (p q : Partition) : Prop :=
  q.held ++ q.ring = p.held ++ p.ring ∧ q.declined = p.declined ∧ q.unlogged = p.unlogged ∨
  ∃ r : Record, r.event = true ∧ r.code = 7 ∧ r.detail = [p.declined, p.unlogged] ∧ q.ring = [] ∧ q.held = p.held ++ p.ring ++ [r]

theorem ringOver_movedUp (cyc : Nat) (p : Partition) : p.movedUp (p.ringOver cyc) := by
  unfold Partition.ringOver
  split
  · rename_i h
    have hr : p.ring = [] := by simp_all
    exact .inr ⟨overflowRecord cyc p, rfl, rfl, rfl, hr, by simp [hr]⟩
  · exact .inl ⟨rfl, rfl, rfl⟩

theorem Partition.movedUp.moveUp {p q : Partition} (cyc : Nat) (h : p.movedUp q) : p.movedUp (moveUp cyc q) := by
  unfold Machine.moveUp
  split
  · exact h
  · rename_i r ring hr
    rcases h with ⟨hsame, hd, hu⟩ | ⟨r, _, _, _, hring, _⟩
    · have h := ringOver_movedUp cyc { q with held := q.held ++ [r], ring := ring,
                                              late := if ring.length - q.late < 45056 then q.late - 1 else q.late }
      simpa [Partition.movedUp, hr, hd, hu, ← hsame] using h
    · rw [hring] at hr
      cases hr

theorem Partition.movedUp.refill {p : Partition} (cyc : Nat) : ∀ (n : Nat) {q : Partition}, p.movedUp q → p.movedUp (refill cyc n q) := by
  intro n
  induction n with
  | zero => intro q h; exact h
  | succ n ih =>
    intro q h
    rw [Machine.refill]
    split
    · exact ih (h.moveUp cyc)
    · exact h

/-! ### A port's reset (R18, R23, R31, R248) -/

/-- A context after a port's reset: the completions of the port's commands are discarded (R31). -/
def Ctx.portLost (port : Nat) (c : Ctx) : Ctx :=
  { c with waiting := c.waiting.map (fun h => { h with mute := h.mute || h.cmd.port == port }) }

/-- The records of a partition that a port's reset keeps: its events, and completions of the other port's commands (R31). -/
def recordsKept (port : Nat) (rs : List Record) : List Record := rs.filter (fun r => r.event || r.port != port)

/-- A partition after a port's reset, before its ring's records move up. -/
def Partition.portFiltered (port : Nat) (p : Partition) : Partition :=
  { p with
    held := recordsKept port p.held, ring := recordsKept port p.ring,
    late := min p.late ((recordsKept port p.ring).length - 45056),
    queue0 := p.queue0.filter (fun c => c.port != port), ctxs := p.ctxs.map (fun e => (e.1, e.2.portLost port)) }

theorem portLost_eq (p : Partition) (cyc port : Nat) :
    p.portLost cyc port = refill cyc (recordsKept port p.ring).length ((p.portFiltered port).ringOver cyc) := rfl

theorem portLost_frame (p : Partition) (cyc port : Nat) : (p.portFiltered port).sameButRing (p.portLost cyc port) := by
  rw [portLost_eq]
  have h1 := refill_frame cyc (recordsKept port p.ring).length ((p.portFiltered port).ringOver cyc)
  have h2 := ringOver_frame cyc (p.portFiltered port)
  unfold Partition.sameButRing at h1 h2 ⊢
  rw [h1, h2]

theorem portLost_queue0 (p : Partition) (cyc port : Nat) :
    (p.portLost cyc port).queue0 = p.queue0.filter (fun c => c.port != port) := congrArg Partition.queue0 (portLost_frame p cyc port)

theorem portLost_delivered (p : Partition) (cyc port : Nat) : (p.portLost cyc port).delivered = p.delivered :=
  (congrArg Partition.delivered (portLost_frame p cyc port) :)

theorem portLost_ctxs (p : Partition) (cyc port : Nat) :
    (p.portLost cyc port).ctxs = p.ctxs.map (fun e => (e.1, e.2.portLost port)) := congrArg Partition.ctxs (portLost_frame p cyc port)

theorem portLost_movedUp (p : Partition) (cyc port : Nat) : (p.portFiltered port).movedUp (p.portLost cyc port) :=
  (ringOver_movedUp cyc _).refill cyc _

/-- A partition after a port's reset, its scrubs included (R31). -/
def Partition.portReset (cyc port : Nat) (p : Partition) : Partition :=
  let q := p.portLost cyc port
  { q with scrubs := q.scrubs.map (fun x => if x.admin ∧ x.port = port then { x with mute := true } else x) }

/-- A partition of a state whose partitions are those of another, each changed alike. -/
theorem partAt_of_map {s t : State} (f : Partition → Partition) (hf : f Partition.empty = Partition.empty)
    (h : t.parts = s.parts.map (fun e => (e.1, f e.2))) (p : Nat) : partAt t p = f (partAt s p) := by
  unfold partAt tgetD
  rw [h, tget_map (fun _ => f)]
  cases tget s.parts p with
  | none => exact hf.symm
  | some q => rfl

theorem partAt_portLost (port : Nat) (s : State) (p : Nat) : partAt (portLost port s) p = (partAt s p).portReset s.cyc port :=
  partAt_of_map (Partition.portReset s.cyc port) rfl rfl p

/-- An open context is one of its partition's. -/
theorem findCtx_eq (s : State) (p ctx : Nat) : s.findCtx p ctx = tget (partAt s p).ctxs ctx := by
  unfold State.findCtx partAt tgetD
  cases tget s.parts p with
  | none => rfl
  | some q => rfl

theorem findCtx_portLost (port : Nat) (s : State) (p ctx : Nat) :
    (portLost port s).findCtx p ctx = (s.findCtx p ctx).map (Ctx.portLost port) := by
  have e : ((partAt s p).portReset s.cyc port).ctxs = (partAt s p).ctxs.map (fun e => (e.1, e.2.portLost port)) :=
    portLost_ctxs (partAt s p) s.cyc port
  rw [findCtx_eq, findCtx_eq, partAt_portLost, e, tget_map (fun _ c => Ctx.portLost port c)]

theorem portResets : Claims.PortResets := by
  intro s port hp hlen
  refine ⟨⟨_, exec_portReset hp s, sget_portLost hp s, fun k => ?_, rfl, rfl, rfl, rfl, rfl, rfl, rfl, rfl, rfl, rfl,
    findCtx_portLost port s, fun p => ?_⟩, ⟨_, rfl, ?_, rfl⟩⟩
  · show (s.host.portUp.set port false).getD k false = _
    rw [List.getD_eq_getElem?_getD, List.getD_eq_getElem?_getD, List.getElem?_set]
    by_cases hk : k = port
    · rw [if_pos hk.symm, if_pos hk, if_pos (by omega)]
      rfl
    · rw [if_neg (Ne.symm hk), if_neg hk]
  · rw [partAt_portLost]
    refine ⟨portLost_queue0 _ _ _, portLost_delivered _ _ _, ?_⟩
    rcases portLost_movedUp (partAt s p) s.cyc port with ⟨hsame, -, -⟩ | ⟨r, hevent, hcode, hdetail, hring, hheld⟩
    · refine .inl (hsame.trans ?_)
      exact (List.filter_append ..).symm
    · refine .inr ⟨r, hevent, hcode, hdetail, hring, hheld.trans ?_⟩
      exact congrArg (· ++ [r]) (List.filter_append ..).symm
  · show (s.host.portUp.set port true).getD port false = true
    rw [List.getD_eq_getElem?_getD, List.getElem?_set_self (by omega)]
    rfl

end Sys2Proof.Machine
end

section
/-!
PROOF. Function level resets, and the virtio common configuration (R17, R246, R259).
-/

namespace Sys2Proof.Machine

open Sys2Proof

/-! ### Changing a partition and its contexts -/

theorem partAt_onPart (s : State) (p : Nat) (f : Partition → Partition) (k : Nat) :
    partAt (onPart s p f) k = if k = p then f (partAt s p) else partAt s k := tgetD_tset ..

/-- Changing a context concerns its partition's contexts alone; a partition never assigned has none. -/
theorem partAt_changeCtx (s : State) (p ctx : Nat) (f : Ctx → Ctx) :
    partAt (s.changeCtx p ctx f) p = { partAt s p with ctxs := tmod (partAt s p).ctxs ctx f } := by
  show (tget (tmod s.parts p _) p).getD _ = _
  rw [tget_tmod, if_pos rfl]
  unfold partAt tgetD
  cases tget s.parts p with
  | none => rfl
  | some q => rfl

theorem findCtx_changeCtx (s : State) (p ctx : Nat) (f : Ctx → Ctx) (n : Nat) :
    (s.changeCtx p ctx f).findCtx p n = if n = ctx then (s.findCtx p ctx).map f else s.findCtx p n := by
  rw [findCtx_eq, partAt_changeCtx, findCtx_eq, findCtx_eq]
  exact tget_tmod ..

/-! ### Scrubs -/

/-- A scrub once those that wait for none have started (R260). -/
def Scrub.started (s : State) (x : Scrub) : Scrub := if !x.running && !scrubWaits s x then { x with running := true, start := s.cyc } else x

theorem started_covers (s : State) (x : Scrub) :
    (x.started s).reason = x.reason ∧ (x.started s).cbase = x.cbase ∧ (x.started s).climit = x.climit ∧ (x.started s).cset = x.cset := by
  unfold Scrub.started
  split <;> exact ⟨rfl, rfl, rfl, rfl⟩

/-- A partition once its scrubs that wait for none have started (R260). -/
def Partition.scrubsStarted (s : State) (q : Partition) : Partition := { q with scrubs := q.scrubs.map (Scrub.started s) }

theorem partAt_startScrubs (s : State) (p : Nat) : partAt (startScrubs s) p = (partAt s p).scrubsStarted s :=
  partAt_of_map (Partition.scrubsStarted s) rfl rfl p

/-- A new scrub stands last among its partition's, with the partition's clusters and colours (R259). -/
theorem partAt_addScrub (p reason : Nat) (admin mute : Bool) (port tag : Nat) (s : State) :
    ∃ xs x, partAt (addScrub p reason admin mute port tag s) p = { partAt s p with scrubs := xs ++ [x] } ∧ x.reason = reason ∧
      x.cbase = (partAt s p).cbase ∧ x.climit = (partAt s p).climit ∧ x.cset = (partAt s p).cset := by
  let q := partAt s p
  let x : Scrub := ⟨reason, s.arrivals, false, s.cyc, tag, port, admin, mute, q.cbase, q.climit, q.cset, q.owner.getD 0⟩
  let u : State := { onPart s p (fun q => { q with scrubs := q.scrubs ++ [x] }) with arrivals := s.arrivals + 1 }
  have hu : partAt u p = { q with scrubs := q.scrubs ++ [x] } := (partAt_onPart s p (fun q => { q with scrubs := q.scrubs ++ [x] }) p).trans (if_pos rfl)
  refine ⟨q.scrubs.map (Scrub.started u), x.started u, ?_, started_covers u x⟩
  show partAt (startScrubs u) p = _
  rw [partAt_startScrubs, hu, Partition.scrubsStarted, List.map_append]
  rfl

/-! ### A function level reset (R17, R259) -/

/-- A virtual function's queues and configuration as its reset leaves them, with the contexts that it closes (R246, R259). -/
def Partition.emptied (q : Partition) : Partition :=
  { q with
    queue0 := [], buffers := 0, held := [], ring := [], late := 0, declined := 0, unlogged := 0, virtio := Partition.empty.virtio,
    ctxs := q.ctxs.map (fun (e : Nat × Ctx) => (e.1, { e.2 with waiting := [] })), flr := q.ctxs.map (·.1) }

/-- A context goes the way of a CTX_CLOSE, unless it is ending already (R257, R259). -/
def beginClose (p : Nat) (s : State) (c : Nat) : State :=
  match s.findCtx p c with
  | some x => if x.closing.isSome then s else leave .close p c s
  | none => s

/-- A context that has been sent the way of a CTX_CLOSE. -/
def Ctx.toClose (x : Ctx) : Ctx := if x.closing.isSome then x else { x with leaving := some .close }

theorem toClose_closes (x : Ctx) : x.toClose.leaving = some .close ∨ x.toClose.closing ≠ none := by
  unfold Ctx.toClose
  split
  · rename_i h
    exact .inr (by simpa [Option.isSome_iff_ne_none] using h)
  · exact .inl rfl

theorem toClose_waiting (x : Ctx) : x.toClose.waiting = x.waiting := by
  unfold Ctx.toClose
  split <;> rfl

theorem toClose_toClose (x : Ctx) : x.toClose.toClose = x.toClose := by
  unfold Ctx.toClose
  split_ifs <;> rfl

theorem resetFunction_eq (p : Nat) (s : State) :
    resetFunction p s =
      if (partAt s p).owner.isNone then onPart s p Partition.emptied
      else if ((partAt s p).ctxs.map (·.1)).isEmpty then addScrub p 3 false false 0 0 (onPart s p Partition.emptied)
      else ((partAt s p).ctxs.map (·.1)).foldl (beginClose p) (onPart s p Partition.emptied) := rfl

theorem findCtx_beginClose (p : Nat) (s : State) (c n : Nat) :
    (beginClose p s c).findCtx p n = if n = c then (s.findCtx p c).map Ctx.toClose else s.findCtx p n := by
  unfold beginClose
  split
  · rename_i x hx
    split
    · rename_i hclosing
      split
      · subst n
        rw [hx, Option.map_some, Ctx.toClose, if_pos hclosing]
      · rfl
    · rename_i hclosing
      refine (findCtx_changeCtx s p c _ n).trans ?_
      rw [hx, Option.map_some, Option.map_some, Ctx.toClose, if_neg hclosing]
  · rename_i hx
    split
    · subst n
      rw [hx]; rfl
    · rfl

theorem partAt_beginClose (p : Nat) (s : State) (c : Nat) :
    partAt (beginClose p s c) p = { partAt s p with ctxs := (partAt (beginClose p s c) p).ctxs } := by
  unfold beginClose
  split
  · split
    · rfl
    · have e : partAt (leave .close p c s) p = partAt (s.changeCtx p c (fun c => { c with leaving := some .close })) p := rfl
      rw [e, partAt_changeCtx]
  · rfl

theorem findCtx_foldl_beginClose (p n : Nat) : ∀ (cs : List Nat) (s : State),
    (cs.foldl (beginClose p) s).findCtx p n = if n ∈ cs then (s.findCtx p n).map Ctx.toClose else s.findCtx p n := by
  intro cs
  induction cs with
  | nil => intro s; rfl
  | cons c cs ih =>
    intro s
    rw [List.foldl_cons, ih, findCtx_beginClose]
    by_cases hc : n = c
    · subst hc
      simp only [if_pos, List.mem_cons, true_or, Option.map_map]
      split
      · congr 1
        funext x
        exact toClose_toClose x
      · rfl
    · simp only [List.mem_cons, hc, false_or, ↓reduceIte]

theorem partAt_foldl_beginClose (p : Nat) : ∀ (cs : List Nat) (s : State),
    partAt (cs.foldl (beginClose p) s) p = { partAt s p with ctxs := (partAt (cs.foldl (beginClose p) s) p).ctxs } := by
  intro cs
  induction cs with
  | nil => intro s; rfl
  | cons c cs ih =>
    intro s
    rw [List.foldl_cons, ih, partAt_beginClose]

/-- A function level reset empties the partition's queues; beyond that it concerns scrubs and contexts alone (R259). -/
theorem resetFunction_frame (p : Nat) (s : State) :
    partAt (resetFunction p s) p = { (partAt s p).emptied with
      scrubs := (partAt (resetFunction p s) p).scrubs, ctxs := (partAt (resetFunction p s) p).ctxs } := by
  have hbase : partAt (onPart s p Partition.emptied) p = (partAt s p).emptied := (partAt_onPart ..).trans (if_pos rfl)
  rw [resetFunction_eq]
  split_ifs
  · rw [hbase]
  · obtain ⟨xs, x, h, -⟩ := partAt_addScrub p 3 false false 0 0 (onPart s p Partition.emptied)
    rw [h, hbase]
  · rw [partAt_foldl_beginClose, hbase]

/-- With no context open, a function level reset puts a scrub of the partition with reason 3 in its place (R259). -/
theorem resetFunction_scrub (p : Nat) (s : State) (howner : (partAt s p).owner ≠ none) (hctxs : (partAt s p).ctxs = []) :
    ∃ x, (partAt (resetFunction p s) p).scrubs.getLast? = some x ∧ x.reason = 3 ∧ x.cbase = (partAt s p).cbase ∧
      x.climit = (partAt s p).climit ∧ x.cset = (partAt s p).cset := by
  have hbase : partAt (onPart s p Partition.emptied) p = (partAt s p).emptied := (partAt_onPart ..).trans (if_pos rfl)
  obtain ⟨xs, x, h, hreason, hcover⟩ := partAt_addScrub p 3 false false 0 0 (onPart s p Partition.emptied)
  rw [hbase] at hcover
  refine ⟨x, ?_, hreason, hcover⟩
  rw [resetFunction_eq, if_neg (by simpa using howner), if_pos (by simp [hctxs]), h]
  exact List.getLast?_concat

/-- A function level reset sends every open context the way of a CTX_CLOSE, without the commands it had waiting (R259). -/
theorem resetFunction_closes (p : Nat) (s : State) (howner : (partAt s p).owner ≠ none) (n : Nat) (c : Ctx)
    (h : (resetFunction p s).findCtx p n = some c) : (c.leaving = some .close ∨ c.closing ≠ none) ∧ c.waiting = [] := by
  have hbase : (onPart s p Partition.emptied).findCtx p n = (s.findCtx p n).map (fun x => { x with waiting := [] }) := by
    rw [findCtx_eq, partAt_onPart, if_pos rfl, findCtx_eq]
    exact tget_map (fun _ (x : Ctx) => { x with waiting := [] }) _ _
  have hframe : (resetFunction p s).findCtx p n =
      (((partAt s p).ctxs.map (·.1)).foldl (beginClose p) (onPart s p Partition.emptied)).findCtx p n := by
    rw [resetFunction_eq, if_neg (by simpa using howner)]
    split_ifs with hnone
    · obtain ⟨xs, x, h, -⟩ := partAt_addScrub p 3 false false 0 0 (onPart s p Partition.emptied)
      rw [List.isEmpty_iff.1 hnone, List.foldl_nil, findCtx_eq, findCtx_eq, h]
    · rfl
  rw [hframe, findCtx_foldl_beginClose, hbase, findCtx_eq] at h
  cases hx : tget (partAt s p).ctxs n with
  | none => simp [hx] at h
  | some x =>
    have hmem : n ∈ (partAt s p).ctxs.map (·.1) := List.mem_map_of_mem (f := (·.1)) (mem_of_tget hx)
    rw [hx, if_pos hmem] at h
    obtain rfl : Ctx.toClose { x with waiting := [] } = c := Option.some.inj h
    exact ⟨toClose_closes _, toClose_waiting _⟩

theorem functionResets : Claims.FunctionResets := by
  intro s p hp
  refine ⟨⟨resetFunction p s, congrArg _ (if_pos hp), ?_, ?_, ?_, ?_, ?_, resetFunction_scrub p s, resetFunction_closes p s⟩,
    fun port n hlive hup => ?_⟩
  · exact (congrArg Partition.owner (resetFunction_frame p s) :)
  · exact (congrArg Partition.queue0 (resetFunction_frame p s) :)
  · exact (congrArg Partition.buffers (resetFunction_frame p s) :)
  · exact (congrArg Partition.held (resetFunction_frame p s) :)
  · exact (congrArg Partition.ring (resetFunction_frame p s) :)
  · have hacts : (!frontLive s || !(s.host.portUp.getD port false) || decide (32 ≤ p)) = false := by
      simp only [hlive, hup]
      simpa using hp
    refine ⟨⟨_, (if_neg (ne_true_of_eq_false hacts)).trans (if_pos ⟨rfl, rfl⟩), ?_⟩,
      fun hn => ⟨_, (if_neg (ne_true_of_eq_false hacts)).trans (if_neg ?_), ?_⟩⟩
    · rw [partAt_onPart, if_pos rfl]
      exact ⟨rfl, rfl, rfl⟩
    · rintro ⟨hfield, -⟩
      cases hfield
    · rw [partAt_onPart, if_pos rfl]
      exact ⟨Nat.mod_eq_of_lt (by omega), rfl, rfl⟩

/-- Settles O39: the reset state and the fields it spares; the records and contexts that a port's reset keeps; and the contexts
that a function level reset sends away. -/
theorem resetsLeave : Obligations.ResetsLeave := by
  unfold Obligations.ResetsLeave
  exact ⟨deviceResets, portResets, functionResets⟩

end Sys2Proof.Machine
end

section
/-!
PROOF. The boot ROM: its stages, how an attempt ends, and the checks of an image (R26 to R30, R33).
-/

namespace Sys2Proof.Machine

open Sys2Proof

/-! ### Stages and errors (R26, R27) -/

/-- The ROM runs at a stage exactly where its state says so (R26). -/
theorem at_iff (s : State) (stage : Nat) : s.boot.at stage = true ↔ Claims.romAt s stage := by
  simp [Boot.at, Claims.romAt, and_assoc]

/-- An attempt that ends with an error, once the ROM's own state still has the port, the counters and the fuses of its start (R27). -/
theorem attemptEnds_fail {s : State} {b : Boot} (err : Nat) (hport : b.port = s.boot.port) (hattempt : b.attempt = s.boot.attempt)
    (hrollback : b.rollback = s.boot.rollback) (hhalted : b.halted = false) (hwaiting : b.waiting = false) :
    Claims.attemptEnds err s { s with boot := b.fail err } := by
  unfold Boot.fail
  split
  · rename_i hlt
    exact ⟨rfl, rfl, hrollback, fun _ => ⟨congrArg (· + 1) hport, ⟨rfl, hhalted, hwaiting⟩, hattempt⟩, fun h7 => by omega⟩
  · rename_i hge
    refine ⟨rfl, rfl, hrollback, fun hlt => by omega, fun _ => ⟨rfl, ?_⟩⟩
    show min 255 (b.attempt + 1) = _
    rw [hattempt]
    split <;> omega

/-- An attempt that ends at a stage of the ROM (R27). -/
theorem attemptEnds_of_romAt {s : State} {stage : Nat} (h : Claims.romAt s stage) (err : Nat) :
    Claims.attemptEnds err s { s with boot := s.boot.fail err } :=
  attemptEnds_fail err rfl rfl rfl h.2.1 h.2.2

/-! ### The transfer (R28) -/

/-- A block of a transfer whose block size is agreed (R28). -/
theorem exec_block {s : State} (h : Claims.romAt s 5) (hsize : s.boot.blksize ≠ 0) (tsize blksize : Option Nat) (block : List Byte) :
    exec (.bootTftpData tsize blksize block) s = .next { s with boot := s.boot.takeBlock block } := by
  show Host.Outcome.next (onBoot s _) = _
  unfold onBoot
  dsimp only
  rw [if_neg (by simp [(at_iff s 5).2 h]), if_pos hsize]

/-- A transfer whose announced size exceeds the image limit is refused (R28; log 55). -/
theorem exec_oversize {s : State} (h : Claims.romAt s 5) (hsize : s.boot.blksize = 0) {n : Nat} (hn : imageLimit < n)
    (blksize : Option Nat) (block : List Byte) :
    exec (.bootTftpData (some n) blksize block) s = .next { s with boot := s.boot.fail 0x05 } := by
  show Host.Outcome.next (onBoot s _) = _
  unfold onBoot
  dsimp only
  rw [if_neg (by simp [(at_iff s 5).2 h]), if_neg (by simp [hsize]), if_pos (by simpa using hn)]

/-- The first block of a transfer that is not too large: its block size is agreed, or it ends the attempt (R28). -/
theorem exec_firstBlock {s : State} (h : Claims.romAt s 5) (hsize : s.boot.blksize = 0) {tsize : Option Nat}
    (hsmall : ∀ m, tsize = some m → m ≤ imageLimit) (blksize : Option Nat) (block : List Byte) :
    exec (.bootTftpData tsize blksize block) s = .next { s with
      boot := (acceptedSize blksize).elim (s.boot.fail 0x04) (fun n => { s.boot with blksize := n }.takeBlock block) } := by
  show Host.Outcome.next (onBoot s _) = _
  unfold onBoot
  dsimp only
  rw [if_neg (by simp [(at_iff s 5).2 h]), if_neg (by simp [hsize]), if_neg]
  · cases acceptedSize blksize <;> rfl
  · cases tsize with
    | none => simp
    | some m => simpa using hsmall m rfl

/-- A block of full size is added to the image (R28). -/
theorem takeBlock_full {b : Boot} {block : List Byte} (h : block.length = b.blksize) :
    b.takeBlock block = { b with image := b.image ++ block } := by
  unfold Boot.takeBlock
  rw [if_neg (by omega)]
  exact if_neg (by omega)

/-- A shorter block ends the transfer and starts the checks (R28, R30). -/
theorem takeBlock_last {b : Boot} {block : List Byte} (h : block.length < b.blksize) :
    b.takeBlock block = ({ b with image := b.image ++ block } : Boot).check := by
  unfold Boot.takeBlock
  rw [if_neg (by omega)]
  exact if_pos h

theorem acceptedSize_getD {blksize : Option Nat} (h1 : 512 ≤ blksize.getD 512) (h2 : blksize.getD 512 ≤ 8192) :
    acceptedSize blksize = some (blksize.getD 512) := by
  cases blksize with
  | none => rfl
  | some n => exact if_pos ⟨h1, h2⟩

theorem acceptedSize_outside {n : Nat} (h : n < 512 ∨ 8192 < n) : acceptedSize (some n) = none := if_neg (by omega)

theorem romStages : Claims.RomStages := by
  intro s block tsize blksize n size fw
  refine ⟨fun h0 => ?_, fun h3 => ?_, fun h4 => ?_, fun h5 => ?_, fun hwait => ?_, fun h7 hlo hhi hlimit hcap => ?_⟩
  · have e := (at_iff s 0).2 h0
    obtain ⟨-, hhalted, hwaiting⟩ := h0
    constructor
    · refine ⟨_, (if_neg (by simp [e])).trans (if_neg (by decide)), ⟨rfl, hhalted, hwaiting⟩, rfl, rfl, rfl, rfl⟩
    · exact ⟨_, (if_neg (by simp [e])).trans (if_pos (by decide)), rfl, rfl, rfl, rfl⟩
  · have e := (at_iff s 3).2 h3
    constructor
    · refine ⟨{ s with boot := { s.boot with stage := 4 } }, ?_, ⟨rfl, h3.2⟩, rfl, rfl⟩
      show Host.Outcome.next (onBoot s _) = _
      simp only [onBoot, e, ↓reduceIte]
    · refine ⟨_, ?_, attemptEnds_of_romAt h3 0x01⟩
      show Host.Outcome.next (onBoot s _) = _
      simp only [onBoot, e, ↓reduceIte]
  · have e := (at_iff s 4).2 h4
    refine ⟨⟨{ s with boot := { s.boot with stage := 5 } }, ?_, ⟨rfl, h4.2⟩, rfl⟩, ⟨_, ?_, attemptEnds_of_romAt h4 0x03⟩,
      ⟨_, ?_, attemptEnds_of_romAt h4 0x02⟩⟩
    all_goals
      show Host.Outcome.next (onBoot s _) = _
      simp [onBoot, e]
  · refine ⟨⟨_, ?_, attemptEnds_of_romAt h5 0x04⟩, fun hzero => ⟨fun hn ht => ?_, fun hsmall => ⟨fun hb hout => ?_, ?_⟩⟩,
      fun hsize hfull => ⟨_, exec_block h5 hsize _ _ _, ?_⟩⟩
    · show Host.Outcome.next (onBoot s _) = _
      simp only [onBoot, (at_iff s 5).2 h5, ↓reduceIte]
    · subst ht
      exact ⟨_, exec_oversize h5 hzero hn blksize block, attemptEnds_of_romAt h5 0x05⟩
    · subst hb
      refine ⟨_, exec_firstBlock h5 hzero hsmall _ _, ?_⟩
      rw [acceptedSize_outside hout]
      exact attemptEnds_of_romAt h5 0x04
    · rintro rfl hlo hhi hlen
      refine ⟨_, exec_firstBlock h5 hzero hsmall _ _, ?_⟩
      rw [acceptedSize_getD hlo hhi, Option.elim_some, takeBlock_full hlen]
      exact ⟨h5, rfl, rfl, rfl⟩
    · rw [takeBlock_full hfull]
  · refine ⟨{ s with boot := { s.boot with waiting := false, port := 0, stage := 3 } }, ?_, rfl, rfl, rfl, rfl, rfl⟩
    show Host.Outcome.next (onBoot s _) = _
    simp only [onBoot, hwait, ↓reduceIte]
  · have hkept : Firmware.bounded fw = fw := by
      unfold Firmware.bounded
      rw [Nat.min_eq_right hhi, Nat.max_eq_right hlo, Nat.min_eq_right hlimit, Nat.min_eq_right hcap]
    refine ⟨{ s with boot := { s.boot with stage := 8, warm := false }, fw := fw }, ?_, ⟨rfl, h7.2⟩, rfl, rfl, rfl⟩
    show Host.Outcome.next (if _ then { onBoot s _ with fw := Firmware.bounded fw } else s) = _
    rw [if_pos ((at_iff s 7).2 h7), hkept]
    rfl

/-! ### The checks of an image (R29, R30) -/

/-- An image that fails a check ends the attempt with that check's error (R30). -/
theorem attemptEnds_check {s : State} {b : Boot} {err : Nat} (herr : imageError b = some err) (hport : b.port = s.boot.port)
    (hattempt : b.attempt = s.boot.attempt) (hrollback : b.rollback = s.boot.rollback) (hhalted : b.halted = false)
    (hwaiting : b.waiting = false) : Claims.attemptEnds err s { s with boot := b.check } := by
  unfold Boot.check
  rw [herr]
  exact attemptEnds_fail (b := { b with stage := 6 }) err hport hattempt hrollback hhalted hwaiting

/-- An image that passes every check is accepted (R30). -/
theorem check_accepts {b : Boot} (h : imageError b = none) :
    b.check = { b with
      stage := 7, sramCopy := (b.image.drop 0x0B00).take (fieldBytes b.image 0x10 8),
      rollback := max b.rollback (fieldBytes b.image 8 4) } := by
  unfold Boot.check
  rw [h]

/-- The header of an image is as R29 lays it out, and the image as long as it says. -/
def imageFormed (b : Boot) : Prop :=
  fieldBytes b.image 0 4 = 0x57514854 ∧ fieldBytes b.image 4 4 = 1 ∧ fieldBytes b.image 0x0C 4 = 0 ∧
  0 < fieldBytes b.image 0x10 8 ∧ fieldBytes b.image 0x18 8 < fieldBytes b.image 0x10 8 ∧ fieldBytes b.image 0x20 32 = 0 ∧
  fieldBytes b.image 0x0AC0 64 = 0 ∧ b.image.length = 0x0B00 + fieldBytes b.image 0x10 8 + 4627 + 96

/-- The keys of an image are those of the fuses (R30). -/
def imageKeys (b : Boot) : Prop :=
  Config.sha384 ((b.image.drop 0x40).take 2592) = b.mlHash ∧ Config.sha384 ((b.image.drop 0x0A60).take 96) = b.ecHash

/-- The ML-DSA signature of an image verifies (R30). -/
def imageMl (b : Boot) : Bool :=
  let len := fieldBytes b.image 0x10 8
  Config.mlDsaVerifies ((b.image.drop 0x40).take 2592) (b.image.take (0x0B00 + len)) ((b.image.drop (0x0B00 + len)).take 4627)

/-- The ECDSA signature of an image verifies (R30). -/
def imageEc (b : Boot) : Bool :=
  let len := fieldBytes b.image 0x10 8
  Config.ecdsaVerifies ((b.image.drop 0x0A60).take 96) (b.image.take (0x0B00 + len))
    ((b.image.drop (0x0B00 + len + 4627)).take 96)

open Classical in
/-- The checks of an image, in the order of their errors (R30; log 55). -/
theorem imageError_eq (b : Boot) :
    imageError b =
      if 2 ^ 26 < fieldBytes b.image 0x10 8 then some 0x05
      else if ¬ imageFormed b then some 0x06
      else if ¬ imageKeys b then some 0x07
      else if fieldBytes b.image 8 4 < b.rollback then some 0x08
      else if imageMl b = false then some 0x09
      else if imageEc b = false then some 0x0A
      else none := by
  unfold imageError
  dsimp only
  refine if_congr Iff.rfl rfl (if_congr ?_ rfl (if_congr ?_ rfl (if_congr Iff.rfl rfl (if_congr ?_ rfl (if_congr ?_ rfl rfl)))))
  · unfold imageFormed
    omega
  · unfold imageKeys
    tauto
  · exact Iff.of_eq (Bool.not_eq_true' _)
  · exact Iff.of_eq (Bool.not_eq_true' _)

theorem imagesAreChecked : Claims.ImagesAreChecked := by
  intro s tsize blksize block image part f len mlKey ecKey signed formed keys ml ec ends h5 hlast
  let b : Boot := { s.boot with image := s.boot.image ++ block }
  have hexec : exec (.bootTftpData tsize blksize block) s = .next { s with boot := b.check } := by
    rw [exec_block h5 (by omega), takeBlock_last hlast]
  have hends (err : Nat) (herr : imageError b = some err) : ends err :=
    ⟨_, hexec, attemptEnds_check herr rfl rfl rfl h5.2.1 h5.2.2⟩
  have e := imageError_eq b
  refine ⟨fun hlen => hends _ (e.trans (if_pos hlen)), fun hlen hf => hends _ ?_, fun hlen hf => ⟨fun hk => hends _ ?_,
    fun hk hr => hends _ ?_, fun hk hr => ⟨fun hml => hends _ ?_, fun hml hec => hends _ ?_, fun hml hec => ?_⟩⟩⟩
  all_goals replace e := e.trans (if_neg (Nat.not_lt.2 hlen))
  · exact e.trans (if_pos hf)
  all_goals replace e := e.trans (if_neg (not_not.2 hf))
  · exact e.trans (if_pos hk)
  all_goals replace e := e.trans (if_neg (not_not.2 hk))
  · exact e.trans (if_pos hr)
  all_goals replace e := e.trans (if_neg (Nat.not_lt.2 hr))
  · exact e.trans (if_pos hml)
  all_goals replace e := e.trans (if_neg (ne_false_of_eq_true hml))
  · exact e.trans (if_pos hec)
  · refine ⟨_, hexec, ?_⟩
    rw [check_accepts (e.trans (if_neg (ne_false_of_eq_true hec)))]
    exact ⟨⟨rfl, h5.2⟩, Nat.max_eq_right hr, rfl, rfl, rfl⟩

/-- Settles O40: an attempt that ends does so by `Boot.fail`, and the checks of an image stand in the order of their errors. -/
theorem bootRomProceeds : Obligations.BootRomProceeds := by
  unfold Obligations.BootRomProceeds
  exact ⟨romStages, imagesAreChecked⟩

end Sys2Proof.Machine
end

section
/-!
PROOF. Islands and power: operating points, the limiter's turn, the thermal trip, and islands going OFF and ACTIVE (R12 to R16).
-/

namespace Sys2Proof.Machine

open Sys2Proof

/-! ### Changing islands -/

theorem islandAt_onIsland (s : State) (i : Nat) (f : Island → Island) (j : Nat) :
    islandAt (onIsland s i f) j = if j = i then f (islandAt s i) else islandAt s j := tgetD_tset ..

/-- Change each island of a list. -/
def onIslands (is : List Nat) (f : Island → Island) (s : State) : State := is.foldl (fun s i => onIsland s i f) s

theorem onIslands_eq (is : List Nat) (f : Island → Island) : ∀ s : State,
    onIslands is f s = { s with islands := (onIslands is f s).islands } := by
  induction is with
  | nil => intro s; rfl
  | cons i is ih => intro s; exact ih (onIsland s i f)

theorem islandAt_onIslands (f : Island → Island) (j : Nat) : ∀ (is : List Nat) (s : State), is.Nodup →
    islandAt (onIslands is f s) j = if j ∈ is then f (islandAt s j) else islandAt s j := by
  intro is
  induction is with
  | nil => intro s _; rfl
  | cons i is ih =>
    intro s hnodup
    obtain ⟨hi, hnodup⟩ := List.nodup_cons.1 hnodup
    rw [onIslands, List.foldl_cons]
    refine (ih _ hnodup).trans ?_
    rw [islandAt_onIsland]
    by_cases hj : j = i
    · subst hj
      simp [hi]
    · simp [hj]

theorem nodup_dieIslands (die : Nat) : (dieIslands die).Nodup :=
  List.nodup_range.map (fun _ _ h => Nat.add_left_cancel h)

theorem mem_dieIslands (die j : Nat) : j ∈ dieIslands die ↔ 8 * die ≤ j ∧ j < 8 * die + 8 := by
  simp only [dieIslands, List.mem_map, List.mem_range]
  constructor
  · rintro ⟨k, hk, rfl⟩
    omega
  · rintro ⟨hlo, hhi⟩
    exact ⟨j - 8 * die, by omega, by omega⟩

theorem lower_eq (x : Island) : x.lower = { x with point := if x.state = .active then x.point - 1 else x.point } := by
  unfold Island.lower
  split <;> rfl

/-! ### The turn to be gated (R15) -/

theorem gateable_iff (s : State) (i : Nat) : gateable s i = true ↔ Claims.mayGate s i := by
  unfold gateable Claims.mayGate
  cases h : (islandAt s i).gatedAt with
  | none => simp [h]
  | some x => simp [h, and_assoc]

/-- From the island of a turn on, island `j` comes behind island `i`. -/
def behind (turn i j : Nat) : Prop := if turn ≤ i then j < turn ∨ i < j else j < turn ∧ i < j

/-- In a list in an order, what a search finds is the element that comes before every other that the test accepts. -/
theorem find?_eq_some_iff_of_pairwise {α : Type} {R : α → α → Prop} (hasymm : ∀ a b, R a b → ¬ R b a) (p : α → Bool) (i : α) :
    ∀ l : List α, l.Pairwise R → (l.find? p = some i ↔ i ∈ l ∧ p i = true ∧ ∀ j ∈ l, p j = true → j ≠ i → R i j) := by
  intro l
  induction l with
  | nil => intro _; simp
  | cons a l ih =>
    intro hl
    obtain ⟨ha, hl⟩ := List.pairwise_cons.1 hl
    rw [List.find?_cons]
    cases hp : p a with
    | true =>
      constructor
      · rintro ⟨⟩
        refine ⟨List.mem_cons_self, hp, fun j hj _ hne => ?_⟩
        exact ha j ((List.mem_cons.1 hj).resolve_left hne)
      · rintro ⟨hi, _, hfirst⟩
        by_contra hne
        have hai : a ≠ i := fun h => hne (congrArg some h)
        have hil := (List.mem_cons.1 hi).resolve_left (Ne.symm hai)
        exact hasymm _ _ (ha i hil) (hfirst a List.mem_cons_self hp hai)
    | false =>
      simp only [ih hl]
      constructor
      · rintro ⟨hi, hpi, hfirst⟩
        refine ⟨List.mem_cons_of_mem _ hi, hpi, fun j hj hpj => ?_⟩
        rcases List.mem_cons.1 hj with rfl | hj
        · simp [hp] at hpj
        · exact hfirst j hj hpj
      · rintro ⟨hi, hpi, hfirst⟩
        refine ⟨?_, hpi, fun j hj => hfirst j (List.mem_cons_of_mem _ hj)⟩
        rcases List.mem_cons.1 hi with rfl | hi
        · simp [hp] at hpi
        · exact hi

/-- The limiter's list of some islands in rising order stands in the order of their turns. -/
theorem pairwise_behind (turn : Nat) {is : List Nat} (h : is.Pairwise (· < ·)) :
    (is.filter (fun i => decide (turn ≤ i)) ++ is.filter (fun i => decide (i < turn))).Pairwise (behind turn) := by
  rw [List.pairwise_append]
  refine ⟨?_, ?_, ?_⟩
  · refine (h.filter _).imp_of_mem (fun {a b} ha _ hab => ?_)
    rw [behind, if_pos (by simpa using (List.mem_filter.1 ha).2)]
    exact .inr hab
  · refine (h.filter _).imp_of_mem (fun {a b} ha hb hab => ?_)
    have h1 : a < turn := by simpa using (List.mem_filter.1 ha).2
    rw [behind, if_neg (by omega)]
    exact ⟨by simpa using (List.mem_filter.1 hb).2, hab⟩
  · intro a ha b hb
    rw [behind, if_pos (by simpa using (List.mem_filter.1 ha).2)]
    exact .inl (by simpa using (List.mem_filter.1 hb).2)

/-- The island that the limiter gates next is the one whose turn it is (R15). -/
theorem nextGated_eq_some_iff (s : State) {is : List Nat} (h : is.Pairwise (· < ·)) (i : Nat) :
    nextGated s is = some i ↔ Claims.gatedNext s (· ∈ is) i := by
  have hmem (j : Nat) : j ∈ is.filter (fun i => decide (s.power.turn ≤ i)) ++ is.filter (fun i => decide (i < s.power.turn)) ↔ j ∈ is := by
    rw [List.mem_append, List.mem_filter, List.mem_filter, decide_eq_true_eq, decide_eq_true_eq, ← and_or_left]
    exact and_iff_left (le_or_gt _ _)
  have hasymm (a b : Nat) : behind s.power.turn a b → ¬ behind s.power.turn b a := by
    unfold behind
    split_ifs <;> omega
  unfold nextGated
  rw [find?_eq_some_iff_of_pairwise hasymm _ i _ (pairwise_behind s.power.turn h)]
  simp only [hmem, gateable_iff]
  rfl

theorem pairwise_dieIslands (die : Nat) : (dieIslands die).Pairwise (· < ·) :=
  List.pairwise_map.2 (List.pairwise_lt_range.imp (fun h => Nat.add_lt_add_left h _))

/-! ### Operating points and the thermal trip (R14 to R16) -/

theorem lowering_iff (s : State) (i : Nat) :
    lowering s i = true ↔ s.power.above = true ∨ ∃ x, tget s.power.hot (i / 8) = some x ∧ s.cyc ≤ x + 10000 := by
  unfold lowering dieHot
  cases h : tget s.power.hot (i / 8) with
  | none => simp
  | some x => simp

theorem holds_iff (s : State) (b : Block) :
    b.holds s = true ↔ b.ended = false ∧ ∃ x, s.findSpan b.span = some x ∧ x.phase = .live := by
  unfold Block.holds
  cases h : s.findSpan b.span with
  | none => simp
  | some x => simp

/-- A die's islands lowered for heat, before one of them is gated (R16). -/
def cooled (die : Nat) (s : State) : State :=
  onIslands (dieIslands die) Island.lower { s with power := { s.power with hot := tset s.power.hot die s.cyc } }

theorem cooled_eq (die : Nat) (s : State) :
    cooled die s = { s with
      islands := (cooled die s).islands, power := { s.power with hot := tset s.power.hot die s.cyc } } := onIslands_eq _ _ _

theorem cooled_cyc (die : Nat) (s : State) : (cooled die s).cyc = s.cyc := by rw [cooled_eq]

theorem cooled_power (die : Nat) (s : State) :
    (cooled die s).power = { s.power with hot := tset s.power.hot die s.cyc } := by rw [cooled_eq]

theorem islandAt_cooled (die : Nat) (s : State) (j : Nat) :
    islandAt (cooled die s) j = if 8 * die ≤ j ∧ j < 8 * die + 8 then (islandAt s j).lower else islandAt s j := by
  rw [cooled, islandAt_onIslands _ _ _ _ (nodup_dieIslands die)]
  simp only [mem_dieIslands]
  rfl

theorem islandAt_gateIsland (s : State) (i j : Nat) :
    islandAt (gateIsland s i) j = if j = i then { islandAt s i with gatedAt := some s.cyc } else islandAt s j :=
  islandAt_onIsland s i (fun x => { x with gatedAt := some s.cyc }) j

theorem exec_thermalThrottle (die : Nat) (s : State) :
    exec (.thermalThrottle die) s = .next ((nextGated s (dieIslands die)).elim (cooled die s) (gateIsland (cooled die s))) := by
  show execThermalThrottle die s = _
  unfold execThermalThrottle
  dsimp only
  cases nextGated s (dieIslands die) <;> rfl

/-- The turn in a die comes to no island or to one (R15, R16). -/
theorem gatedNext_die (die : Nat) (s : State) (j : Nat) :
    Claims.gatedNext s (fun j => 8 * die ≤ j ∧ j < 8 * die + 8) j ↔ nextGated s (dieIslands die) = some j := by
  rw [nextGated_eq_some_iff s (pairwise_dieIslands die)]
  simp only [mem_dieIslands]

theorem thermalThrottle_lowers (s : State) (die : Nat) :
    let ofDie (j : Nat) : Prop := 8 * die ≤ j ∧ j < 8 * die + 8
    let lower (x : Island) : Nat := if x.state = .active then x.point - 1 else x.point
    ∃ t, exec (.thermalThrottle die) s = .next t ∧ t = { s with islands := t.islands, power := t.power } ∧
      (∀ j, ¬ ofDie j → islandAt t j = islandAt s j) ∧
      (∀ j, ofDie j → islandAt t j =
        { islandAt s j with point := lower (islandAt s j), gatedAt := (islandAt t j).gatedAt }) ∧
      tget t.power.hot die = some s.cyc ∧ (∀ k, k ≠ die → tget t.power.hot k = tget s.power.hot k) ∧
      (∀ j, Claims.gatedNext s ofDie j →
        (islandAt t j).gatedAt = some s.cyc ∧ t.power = { s.power with turn := j + 1, hot := t.power.hot }) ∧
      (∀ j, ¬ Claims.gatedNext s ofDie j → (islandAt t j).gatedAt = (islandAt s j).gatedAt) ∧
      ((∀ j, ¬ Claims.gatedNext s ofDie j) → t.power = { s.power with hot := t.power.hot }) := by
  intro ofDie lower
  have hcool (j : Nat) (hj : ofDie j) : islandAt (cooled die s) j = { islandAt s j with point := lower (islandAt s j) } := by
    rw [islandAt_cooled, if_pos hj, lower_eq]
  have hfar (j : Nat) (hj : ¬ ofDie j) : islandAt (cooled die s) j = islandAt s j := by rw [islandAt_cooled, if_neg hj]
  have hhot (k : Nat) : tget (cooled die s).power.hot k = if k = die then some s.cyc else tget s.power.hot k := by
    rw [cooled_power, tget_tset]
  have hgated (j : Nat) : (islandAt (cooled die s) j).gatedAt = (islandAt s j).gatedAt := by
    by_cases hj : ofDie j
    · rw [hcool j hj]
    · rw [hfar j hj]
  refine ⟨_, exec_thermalThrottle die s, ?_⟩
  cases h : nextGated s (dieIslands die) with
  | none =>
    have hnone (j : Nat) : ¬ Claims.gatedNext s ofDie j := fun hj => by
      rw [(gatedNext_die die s j).1 hj] at h
      cases h
    refine ⟨?_, hfar, fun j hj => ?_, (hhot die).trans (if_pos rfl), fun k hk => (hhot k).trans (if_neg hk),
      fun j hj => absurd hj (hnone j), fun j _ => hgated j, fun _ => ?_⟩
    · rw [Option.elim_none, cooled_eq]
    · rw [Option.elim_none, hcool j hj]
    · rw [Option.elim_none, cooled_power]
  | some i =>
    have hi : ofDie i := ((gatedNext_die die s i).2 h).1
    have honly (j : Nat) (hj : Claims.gatedNext s ofDie j) : j = i :=
      Option.some.inj (((gatedNext_die die s j).1 hj).symm.trans h)
    rw [Option.elim_some]
    have hat (j : Nat) : islandAt (gateIsland (cooled die s) i) j =
        if j = i then { islandAt s i with point := lower (islandAt s i), gatedAt := some s.cyc } else islandAt (cooled die s) j := by
      rw [islandAt_gateIsland, hcool i hi, cooled_cyc]
    have hpower : (gateIsland (cooled die s) i).power = { s.power with turn := i + 1, hot := tset s.power.hot die s.cyc } := by
      show { (cooled die s).power with turn := i + 1 } = _
      rw [cooled_power]
    refine ⟨?_, fun j hj => ?_, fun j hj => ?_, (hhot die).trans (if_pos rfl), fun k hk => (hhot k).trans (if_neg hk),
      fun j hj => ?_, fun j hj => ?_, fun hall => absurd ((gatedNext_die die s i).2 h) (hall i)⟩
    · exact congrArg (fun u : State => { u with
        islands := (gateIsland (cooled die s) i).islands, power := (gateIsland (cooled die s) i).power }) (cooled_eq die s)
    · have hji : j ≠ i := fun hji => hj (hji ▸ hi)
      rw [hat, if_neg hji, hfar j hj]
    · rw [hat]
      split
      · subst j; rfl
      · rw [hcool j hj]
    · obtain rfl := honly j hj
      rw [hat, if_pos rfl, hpower]
      exact ⟨rfl, rfl⟩
    · have hji : j ≠ i := fun hji => hj (hji ▸ (gatedNext_die die s i).2 h)
      rw [hat, if_neg hji, hgated]

theorem exec_powerStepDown {s : State} (h : s.power.above = true) :
    exec .powerStepDown s = .next (onIslands allIslands Island.lower s) := by
  show execPowerStepDown s = _
  unfold execPowerStepDown
  rw [if_pos h]
  rfl

/-- An island once the thermal trip has turned it OFF (R16). -/
def Island.tripped (x : Island) : Island := { x with state := .off, waking := false }

/-- The device after its thermal trip, which turns the islands of a list OFF (R16). -/
def tripped (is : List Nat) (s : State) : State :=
  { s with
    islands := (onIslands is Island.tripped s).islands, host := { s.host with failed := true }, cores := [],
    blocks := s.blocks.filter (fun b => !b.holds s), wave := if s.wave.resident then Wave.vacant else s.wave,
    waves := s.waves.filter (fun w => !w.resident) }

theorem tripped_frame (is : List Nat) (s : State) :
    tripped is s = { s with
      islands := (tripped is s).islands, host := (tripped is s).host, cores := (tripped is s).cores,
      blocks := (tripped is s).blocks, wave := (tripped is s).wave, waves := (tripped is s).waves } := rfl

theorem islandAt_tripped {is : List Nat} (h : is.Nodup) (s : State) (j : Nat) :
    islandAt (tripped is s) j = if j ∈ is then (islandAt s j).tripped else islandAt s j :=
  islandAt_onIslands Island.tripped j is s h

/-- The trip changes the islands first, and then what stands on them (R16). -/
theorem tripped_eq (is : List Nat) (s : State) :
    { onIslands is Island.tripped s with
      host := { (onIslands is Island.tripped s).host with failed := true }, cores := [],
      blocks := s.blocks.filter (fun b => !b.holds s), wave := if s.wave.resident then Wave.vacant else s.wave,
      waves := s.waves.filter (fun w => !w.resident) } = tripped is s := by
  rw [onIslands_eq]
  rfl

theorem exec_thermalTrip (s : State) : exec .thermalTrip s = .next (tripped allIslands s) :=
  congrArg Host.Outcome.next (tripped_eq allIslands s)

/-- No wave is resident after the thermal trip (R12, R16). -/
theorem resident_tripped {is : List Nat} {s : State} {w : Wave} (h : w ∈ (tripped is s).allWaves) : w.resident = false := by
  have hothers : w ∈ s.waves.filter (fun w => !w.resident) → w.resident = false := fun hw => by
    simpa using (List.mem_filter.1 hw).2
  have hissuing : (if s.wave.resident then Wave.vacant else s.wave).resident = false := by
    split
    · rfl
    · rename_i hnot
      simpa using hnot
  unfold State.allWaves at h
  split at h
  · exact hothers h
  · rcases List.mem_cons.1 h with rfl | hw
    · exact hissuing
    · exact hothers hw

theorem pointsChange : Claims.PointsChange := by
  intro s die i point ofDie lower
  refine ⟨thermalThrottle_lowers s die, fun habove => ?_, ?_, ?_⟩
  · refine ⟨_, exec_powerStepDown habove, onIslands_eq _ _ _, fun j => ?_⟩
    rw [islandAt_onIslands _ _ _ _ List.nodup_range, lower_eq]
    simp only [List.mem_range]
    rfl
  · refine ⟨_, exec_thermalTrip s, rfl, rfl, fun j hj => ?_, fun w => resident_tripped, fun b => ?_, tripped_frame _ _⟩
    · rw [islandAt_tripped List.nodup_range, if_pos (List.mem_range.2 hj)]
      exact ⟨rfl, rfl⟩
    · show b ∈ s.blocks.filter (fun b => !b.holds s) ↔ _
      rw [List.mem_filter, Bool.not_eq_true', ← holds_iff, Bool.not_eq_true]
  · refine ⟨fun hpoint hlow hrise => ?_, fun hpoint hmay => ?_⟩
    · show execOperatingPointChange i point s = _
      exact if_pos (.inr ⟨(lowering_iff s i).2 hlow, hrise⟩)
    · refine ⟨onIsland s i (fun x => { x with point := point }), ?_, ⟨fun j hj => ?_, rfl⟩, ?_⟩
      · show execOperatingPointChange i point s = _
        refine if_neg ?_
        rw [lowering_iff]
        rintro (hhigh | ⟨hlow, hrise⟩)
        · omega
        · exact hmay.elim (fun hnot => hnot hlow) (fun hle => by omega)
      · rw [islandAt_onIsland, if_neg hj]
      · rw [islandAt_onIsland, if_pos rfl]

/-! ### The power limiter (R15) -/

theorem powerIsCapped : Claims.PowerIsCapped := by
  intro s i x
  refine ⟨⟨_, rfl, rfl, rfl, rfl, fun hlen => ?_, ?_, fun hlen => ?_⟩, fun habove hnext => ?_⟩
  · show ((s.power.samples ++ [x]).drop (s.power.samples.length + 1 - 100)).length ≤ 100
    rw [List.length_drop, List.length_append, List.length_singleton]
    omega
  · show decide (100 * s.fw.powerCap < List.foldl (· + ·) 0 _) = true ↔ _
    rw [decide_eq_true_eq, List.sum_eq_foldl]
  · show (s.power.samples ++ [x]).drop (s.power.samples.length + 1 - 100) = _
    rw [show s.power.samples.length + 1 - 100 = 0 by omega]
    rfl
  · have hturn : nextGated s allIslands = some i := by
      rw [nextGated_eq_some_iff s List.pairwise_lt_range]
      simpa only [List.mem_range] using hnext
    refine ⟨gateIsland s i, ?_, ⟨fun j hj => ?_, rfl⟩, ?_, rfl⟩
    · show execPowerClockGate i s = _
      exact congrArg Host.Outcome.next (if_pos ⟨habove, hturn⟩)
    · rw [islandAt_gateIsland, if_neg hj]
      rfl
    · rw [islandAt_gateIsland, if_pos rfl]

/-! ### Islands going OFF and ACTIVE (R13) -/

/-- Zeroing an island takes what its cores held, and nothing of another's (R13). -/
theorem tget_zeroIsland (s : State) (i c : Nat) :
    tget (zeroIsland s i).cores c = if islandOf c = i then none else tget s.cores c := by
  have e : tget (zeroIsland s i).cores c = if (islandOf c != i) = true then tget s.cores c else none :=
    tget_filter (fun k => islandOf k != i) s.cores c
  rw [e]
  by_cases h : islandOf c = i
  · simp [h]
  · simp [h]

/-- No block is bound to an island of which every block has ended or belongs to no live span (R13). -/
theorem not_islandBound {s : State} {i : Nat}
    (h : ∀ b ∈ s.blocks, islandOf b.core = i → b.ended = true ∨ ∀ x, s.findSpan b.span = some x → x.phase ≠ .live) :
    islandBound s i = false := by
  unfold islandBound
  rw [List.any_eq_false]
  intro b hb
  rw [Bool.and_eq_true, beq_iff_eq, holds_iff]
  rintro ⟨hisland, hopen, x, hx, hlive⟩
  rcases h b hb hisland with hended | hnot
  · rw [hopen] at hended
    cases hended
  · exact hnot x hx hlive

/-- A record with V in a slot table names the island of its core (R13, R253). -/
theorem recordNames_of_mem {s : State} {i part slot : Nat} {q : Partition} {r : BindWords} (hq : (part, q) ∈ s.parts)
    (hr : (slot, r) ∈ q.slots) (hv : r.w0.getLsbD 0 = true) (hi : islandOf (r.w0.toNat / 2 % 512) = i) :
    recordNames s i = true := by
  refine List.any_eq_true.2 ⟨_, hq, List.any_eq_true.2 ⟨_, hr, ?_⟩⟩
  rw [Bool.and_eq_true, beq_iff_eq]
  exact ⟨hv, hi⟩

theorem islandsChangeState : Claims.IslandsChangeState := by
  intro s i
  refine ⟨fun hfree => ?_, fun part q slot r hq hr hv hi hnot halive => ?_, fun hwaking => ?_⟩
  · refine ⟨_, if_neg (ne_true_of_eq_false (not_islandBound hfree)), ?_, fun j hj => ?_, tget_zeroIsland s i, rfl⟩
    · rw [islandAt_onIsland, if_pos rfl]
    · rw [islandAt_onIsland, if_neg hj]
      rfl
  · refine ⟨_, if_pos ⟨recordNames_of_mem hq hr hv hi, hnot, by simp [halive]⟩, ⟨fun j hj => ?_, rfl⟩, ?_⟩
    · rw [islandAt_onIsland, if_neg hj]
    · rw [islandAt_onIsland, if_pos rfl]
  · have hexec : exec (.islandActive i) s = .next (onIsland (if (islandAt s i).state = .off then zeroIsland s i else s) i
        (fun x => { x with state := .active, waking := false })) := by
      show execIslandActive i s = _
      exact if_neg (by simp [hwaking])
    have hsame (j : Nat) : islandAt (if (islandAt s i).state = .off then zeroIsland s i else s) j = islandAt s j := by
      split <;> rfl
    refine ⟨_, hexec, ?_, ?_, fun j hj => ?_, fun c => ?_, ?_⟩
    · rw [islandAt_onIsland, if_pos rfl]
    · rw [islandAt_onIsland, if_pos rfl]
    · rw [islandAt_onIsland, if_neg hj, hsame]
    · show tget (if (islandAt s i).state = .off then zeroIsland s i else s).cores c = _
      split
      · rename_i hoff
        rw [tget_zeroIsland]
        simp only [hoff, and_true]
      · rename_i hon
        rw [if_neg (fun h => hon h.2)]
    · split <;> rfl

/-- Settles O41: lowering touches the islands of its list once each, the limiter's search finds the island whose turn it is, and the
cores' stores are dropped by island. -/
theorem islandsFollowTheirEvents : Obligations.IslandsFollowTheirEvents := by
  unfold Obligations.IslandsFollowTheirEvents
  exact ⟨pointsChange, powerIsCapped, islandsChangeState⟩

end Sys2Proof.Machine
end

section
/-!
PROOF. The host control window, semaphores served one after the other, and the errors of a cycle in their order (R19 to R24,
R267, R269, R271, R272).
-/

namespace Sys2Proof.Machine

open Sys2Proof

/-! ### One access to a semaphore (R21, R22, R24) -/

/-- Of the requesters of a semaphore's order that a test accepts, all but one occurrence are rejected where it counts once. -/
theorem filter_contains_singleton {order : List Requester} {who : Requester} (h : order.count who = 1) :
    order.filter [who].contains = [who] := by
  have e : order.filter [who].contains = order.filter (· == who) :=
    List.filter_congr (fun x _ => by rw [Bool.eq_iff_iff]; simp)
  rw [e, List.filter_beq, h]
  rfl

/-- A semaphore served for one requester keeps its order (R22). -/
theorem serveOrder_one {s : State} {n : Nat} {who : Requester} (h : (semOrder s n).count who = 1) :
    serveOrder s n [who] = ([who], semOrder s n) := by
  unfold serveOrder
  dsimp only
  rw [filter_contains_singleton h]

theorem serveSem_read {s : State} {n : Nat} {who : Requester} (hn : n < 16) (h : (semOrder s n).count who = 1) :
    serveSem n [who] [] s = setOrder n (semOrder s n) (semReadOne n s who) := by
  unfold serveSem
  rw [if_neg (by omega)]
  simp only [List.map_nil, List.append_nil, serveOrder_one h, List.foldl_cons, List.foldl_nil]
  simp [semAccess]

theorem serveSem_write {s : State} {n : Nat} {who : Requester} (hn : n < 16) (h : (semOrder s n).count who = 1) (value : BitVec 32) :
    serveSem n [] [(who, value)] s = setOrder n (semOrder s n) (semWriteOne n s who value) := by
  unfold serveSem
  rw [if_neg (by omega)]
  simp only [List.map_cons, List.map_nil, List.nil_append, serveOrder_one h, List.foldl_cons, List.foldl_nil]
  simp [semAccess]

/-! ### What a read and a write leave in the register (R21) -/

/-- The register of a free semaphore once a requester has acquired it (R21). -/
def acquired (who : Requester) (x : BitVec 32) : BitVec 32 :=
  (x &&& 0xFFFF0010#32) ||| ((ownerCode who).setWidth 32 <<< 1) ||| 1#32

theorem acquired_owner (who : Requester) (x : BitVec 32) :
    (acquired who x).toNat % 2 = 1 ∧ (acquired who x).toNat / 2 % 4 = requesterIndex who + 1 := by
  have hfree : (acquired who x).getLsbD 0 = true := by simp [acquired]
  have hown : semOwner (acquired who x) = ownerCode who := by
    apply BitVec.eq_of_getLsbD_eq
    intro i hi
    cases who <;> obtain rfl | rfl : i = 0 ∨ i = 1 := by omega
    all_goals simp [semOwner, acquired, ownerCode]
  exact ⟨(getLsbD_zero_iff _).1 hfree, (semOwner_eq_iff _ _).1 hown⟩

theorem semAcquire_held (who : Requester) {x : BitVec 32} (h : x.toNat % 2 = 1) : semAcquire who x = (x, x) :=
  if_pos ((getLsbD_zero_iff x).2 h)

theorem semAcquire_free (who : Requester) {x : BitVec 32} (h : x.toNat % 2 = 0) :
    semAcquire who x = (acquired who x, acquired who x ||| 8#32) :=
  if_neg (fun hx => by have := (getLsbD_zero_iff x).1 hx; omega)

theorem semOwned_even (x : BitVec 32) {value : BitVec 32} (h : value.toNat % 2 = 0) : semOwned x value = x &&& ~~~value &&& 0x10#32 :=
  if_neg (fun hx => by have := (getLsbD_zero_iff value).1 hx; omega)

theorem extract_high (x : BitVec 32) : (x.extractLsb' 16 16).toNat = x.toNat / 2 ^ 16 := by
  have h := x.isLt
  rw [BitVec.extractLsb'_toNat, Nat.shiftRight_eq_div_pow, Nat.mod_eq_of_lt (by omega)]

theorem extract_low (x : BitVec 32) : (x.extractLsb' 0 3).toNat = x.toNat % 8 := by
  rw [BitVec.extractLsb'_toNat, Nat.shiftRight_zero]

/-- Its owner's write with bit 0 set writes the semaphore's upper half and leaves its lowest three bits (R21). -/
theorem semOwned_odd (x : BitVec 32) {value : BitVec 32} (h : value.toNat % 2 = 1) :
    (semOwned x value).toNat / 2 ^ 16 = value.toNat / 2 ^ 16 ∧ (semOwned x value).toNat % 8 = x.toNat % 8 := by
  have e : semOwned x value = (value &&& 0xFFFF0000#32) ||| (x &&& ~~~value &&& 0x10#32) ||| (x &&& 7#32) :=
    if_pos ((getLsbD_zero_iff value).2 h)
  have hhigh : (semOwned x value).extractLsb' 16 16 = value.extractLsb' 16 16 := by
    rw [e]
    simp only [BitVec.extractLsb'_or, BitVec.extractLsb'_and]
    rw [show (0xFFFF0000#32).extractLsb' 16 16 = BitVec.allOnes 16 from rfl, show (0x10#32).extractLsb' 16 16 = 0#16 from rfl,
      show (7#32).extractLsb' 16 16 = 0#16 from rfl]
    simp only [BitVec.and_allOnes, BitVec.and_zero, BitVec.or_zero]
  have hlow : (semOwned x value).extractLsb' 0 3 = x.extractLsb' 0 3 := by
    rw [e]
    simp only [BitVec.extractLsb'_or, BitVec.extractLsb'_and]
    rw [show (0xFFFF0000#32).extractLsb' 0 3 = 0#3 from rfl, show (0x10#32).extractLsb' 0 3 = 0#3 from rfl,
      show (7#32).extractLsb' 0 3 = BitVec.allOnes 3 from rfl]
    simp only [BitVec.and_allOnes, BitVec.and_zero, BitVec.zero_or]
  rw [← extract_high, ← extract_high, ← extract_low, ← extract_low, hhigh, hlow]
  exact ⟨rfl, rfl⟩

/-- What a read and a write of a semaphore change is the host's registers (R21). -/
theorem semReadOne_frame (n : Nat) (s : State) (who : Requester) :
    semReadOne n s who = { s with host := (semReadOne n s who).host } := rfl

theorem semWriteOne_frame (n : Nat) (s : State) (who : Requester) (value : BitVec 32) :
    semWriteOne n s who value = { s with host := (semWriteOne n s who value).host } := by
  unfold semWriteOne
  dsimp only
  split <;> rfl

theorem sget_semReadOne (n : Nat) (s : State) (who : Requester) (k : Nat) :
    sget (semReadOne n s who).host.sem k = if k = n then (semAcquire who (sget s.host.sem n)).1 else sget s.host.sem k := sget_sset ..

theorem readData_semReadOne (n : Nat) (s : State) (who : Requester) :
    tget (semReadOne n s who).host.readData (requesterIndex who) = some (semAcquire who (sget s.host.sem n)).2 :=
  (tget_tset ..).trans (if_pos rfl)

/-- A write of a semaphore by its owner (R21). -/
theorem semWriteOne_owner {n : Nat} {s : State} {who : Requester} (hheld : (sget s.host.sem n).toNat % 2 = 1)
    (hown : (sget s.host.sem n).toNat / 2 % 4 = requesterIndex who + 1) (value : BitVec 32) :
    semWriteOne n s who value = { s with host := { s.host with sem := sset s.host.sem n (semOwned (sget s.host.sem n) value) } } :=
  if_pos ⟨(getLsbD_zero_iff _).2 hheld, (semOwner_eq_iff _ _).2 hown⟩

/-- A write of a semaphore by another (R21, R24). -/
theorem semWriteOne_other {n : Nat} {s : State} {who : Requester}
    (h : (sget s.host.sem n).toNat % 2 = 0 ∨ (sget s.host.sem n).toNat / 2 % 4 ≠ requesterIndex who + 1) (value : BitVec 32) :
    semWriteOne n s who value = { s with host := { s.host with
      sem := sset s.host.sem n (sget s.host.sem n &&& ~~~(value &&& 0x10#32)),
      semerr := s.host.semerr ||| (1#32 <<< requesterIndex who) } } := by
  refine if_neg (fun hx => ?_)
  have hheld := (getLsbD_zero_iff _).1 hx.1
  have hown := (semOwner_eq_iff _ _).1 hx.2
  omega

theorem sget_semWriteOne_far {n : Nat} (s : State) (who : Requester) (value : BitVec 32) {k : Nat} (h : k ≠ n) :
    sget (semWriteOne n s who value).host.sem k = sget s.host.sem k := by
  unfold semWriteOne
  dsimp only
  split <;> exact (sget_sset ..).trans (if_neg h)

@[simp] theorem setOrder_sem (n : Nat) (order : List Requester) (s : State) : (setOrder n order s).host.sem = s.host.sem := rfl
@[simp] theorem setOrder_semerr (n : Nat) (order : List Requester) (s : State) :
    (setOrder n order s).host.semerr = s.host.semerr := rfl
@[simp] theorem setOrder_readData (n : Nat) (order : List Requester) (s : State) :
    (setOrder n order s).host.readData = s.host.readData := rfl

theorem semaphoresServe : Claims.SemaphoresServe := by
  intro s who n value hn hcount code x others
  have hcode : code = requesterIndex who + 1 := by cases who <;> rfl
  rw [hcode, Nat.add_sub_cancel]
  refine ⟨⟨_, congrArg Host.Outcome.next (serveSem_read hn hcount), ⟨fun k hk => ?_, rfl⟩, rfl, fun hheld => ?_, fun hfree => ?_⟩,
    ⟨_, congrArg Host.Outcome.next (serveSem_write hn hcount value), ⟨fun k hk => ?_, ?_⟩, fun hheld hown => ?_, fun hother => ?_⟩⟩
  · rw [setOrder_sem, sget_semReadOne, if_neg hk]
  · rw [setOrder_sem, sget_semReadOne, if_pos rfl, setOrder_readData, readData_semReadOne, semAcquire_held who hheld]
    exact ⟨rfl, rfl⟩
  · have hsem : sget (semReadOne n s who).host.sem n = acquired who x := by
      rw [sget_semReadOne, if_pos rfl, semAcquire_free who hfree]
    have hdata := readData_semReadOne n s who
    rw [semAcquire_free who hfree] at hdata
    have hown := acquired_owner who x
    rw [← hsem] at hown hdata
    exact ⟨hown.1, hown.2, hdata⟩
  · exact sget_semWriteOne_far s who value hk
  · exact congrArg (fun u : State => { u with host := (setOrder n (semOrder s n) (semWriteOne n s who value)).host })
      (semWriteOne_frame n s who value)
  · have hsem : sget (semWriteOne n s who value).host.sem n = semOwned x value := by
      rw [semWriteOne_owner hheld hown]
      exact (sget_sset ..).trans (if_pos rfl)
    refine ⟨by rw [setOrder_semerr, semWriteOne_owner hheld hown], fun heven => ?_, fun hodd => ?_⟩
    · rw [setOrder_sem, hsem, semOwned_even x heven]
    · rw [setOrder_sem, hsem]
      exact semOwned_odd x hodd
  · rw [setOrder_sem, setOrder_semerr, semWriteOne_other hother]
    exact ⟨(sget_sset ..).trans (if_pos rfl), rfl⟩

/-! ### Two accesses in one cycle (R22) -/

theorem semOrder_setOrder (n : Nat) (order : List Requester) (s : State) : semOrder (setOrder n order s) n = order :=
  (tgetD_tset ..).trans (if_pos rfl)

theorem semReadOne_setOrder (n : Nat) (order : List Requester) (s : State) (who : Requester) :
    semReadOne n (setOrder n order s) who = setOrder n order (semReadOne n s who) := rfl

theorem semWriteOne_setOrder (n : Nat) (order : List Requester) (s : State) (who : Requester) (value : BitVec 32) :
    semWriteOne n (setOrder n order s) who value = setOrder n order (semWriteOne n s who value) := by
  unfold semWriteOne
  dsimp only [setOrder_sem]
  split <;> rfl

/-- Setting an order over another leaves what setting it at once leaves. -/
theorem setOrder_again (n : Nat) (first second last : List Requester) (s : State) :
    setOrder n last s = { setOrder n second (setOrder n first s) with
      host := { (setOrder n second (setOrder n first s)).host with order := (setOrder n last s).host.order } } := rfl

section Rotation

variable {s : State} {a b : Requester} {n : Nat} {before between after : List Requester}
  (horder : semOrder s n = before ++ a :: between ++ b :: after) (hnodup : (semOrder s n).Nodup)

include horder hnodup

theorem rotation_ne : a ≠ b := by
  rintro rfl
  rw [horder] at hnodup
  have h : a ∈ before ++ a :: between := by simp
  exact (List.disjoint_of_nodup_append hnodup) h List.mem_cons_self

theorem rotation_count {who : Requester} (h : who = a ∨ who = b) : (semOrder s n).count who = 1 := by
  refine List.count_eq_one_of_mem hnodup ?_
  rw [horder]
  rcases h with rfl | rfl <;> simp

/-- The block serves the requester first that stands first in the order, which then has the lowest priority (R22). -/
theorem serveOrder_two {who : List Requester} (hwho : ∀ x, x ∈ who ↔ x = a ∨ x = b) :
    serveOrder s n who = ([a, b], before ++ between ++ b :: after ++ [a]) := by
  have hne := rotation_ne horder hnodup
  have hn := hnodup
  rw [horder] at hn
  obtain ⟨habefore, hbetween, hafter⟩ : a ∉ before ∧ a ∉ between ∧ a ∉ after := by
    simp only [List.nodup_append, List.nodup_cons] at hn
    grind
  obtain ⟨hbbefore, hbbetween, hbafter⟩ : b ∉ before ∧ b ∉ between ∧ b ∉ after := by
    simp only [List.nodup_append, List.nodup_cons] at hn
    grind
  have hpick : (semOrder s n).filter who.contains = [a, b] := by
    have hnone {l : List Requester} (h1 : a ∉ l) (h2 : b ∉ l) : l.filter who.contains = [] := by
      rw [List.filter_eq_nil_iff]
      intro x hx hc
      rcases (hwho x).1 (List.contains_iff_mem.1 hc) with rfl | rfl
      · exact h1 hx
      · exact h2 hx
    have ha : who.contains a = true := List.contains_iff_mem.2 ((hwho a).2 (.inl rfl))
    have hb : who.contains b = true := List.contains_iff_mem.2 ((hwho b).2 (.inr rfl))
    rw [horder, List.filter_append, List.filter_append, List.filter_cons_of_pos ha, List.filter_cons_of_pos hb,
      hnone habefore hbbefore, hnone hbetween hbbetween, hnone hafter hbafter]
    rfl
  have hrest : (semOrder s n).filter (· != a) = before ++ between ++ b :: after := by
    have hall {l : List Requester} (h : a ∉ l) : l.filter (· != a) = l := by
      rw [List.filter_eq_self]
      intro x hx
      exact bne_iff_ne.2 (fun hxa => h (hxa ▸ hx))
    rw [horder, List.filter_append, List.filter_append, List.filter_cons_of_neg (by simp), hall habefore, hall hbetween,
      hall (by simp [hne, hafter])]
  unfold serveOrder
  dsimp only
  rw [hpick]
  show ([a, b], (semOrder s n).filter (· != a) ++ [a]) = _
  rw [hrest]

theorem serveSem_two (hn : n < 16) (reads : List Requester) (writes : List (Requester × BitVec 32))
    (hwho : ∀ x, x ∈ reads ++ writes.map (·.1) ↔ x = a ∨ x = b) :
    serveSem n reads writes s = setOrder n (before ++ between ++ b :: after ++ [a])
      (semAccess n reads writes (semAccess n reads writes s a) b) := by
  unfold serveSem
  rw [if_neg (by omega)]
  dsimp only
  rw [serveOrder_two horder hnodup hwho]
  rfl

end Rotation

theorem semaphoresRotate : Claims.SemaphoresRotate := by
  intro s a b value n before between after hn horder hnodup
  have hne := rotation_ne horder hnodup
  have ha := rotation_count horder hnodup (.inl rfl)
  have hb := rotation_count horder hnodup (.inr rfl)
  have hb' (w : State) : (semOrder (setOrder n (semOrder s n) w) n).count b = 1 := by rwa [semOrder_setOrder]
  constructor
  · have hread : semAccess n [a] [(b, value)] s a = semReadOne n s a := by simp [semAccess, Ne.symm hne]
    have hwrite (w : State) : semAccess n [a] [(b, value)] w b = semWriteOne n w b value := by simp [semAccess, Ne.symm hne]
    have ht := serveSem_two horder hnodup hn [a] [(b, value)] (by simp)
    rw [hread, hwrite] at ht
    refine ⟨_, _, _, congrArg Host.Outcome.next (serveSem_read hn ha), congrArg Host.Outcome.next (serveSem_write hn (hb' (semReadOne n s a)) value),
      congrArg Host.Outcome.next ht, congrArg Host.Outcome.next ht, semOrder_setOrder .., ?_⟩
    rw [semWriteOne_setOrder]
    exact setOrder_again ..
  · have hwrite : semAccess n [b] [(a, value)] s a = semWriteOne n s a value := by simp [semAccess, hne]
    have hread (w : State) : semAccess n [b] [(a, value)] w b = semReadOne n w b := by simp [semAccess, hne]
    have ht := serveSem_two horder hnodup hn [b] [(a, value)] (by simp [or_comm])
    rw [hwrite, hread] at ht
    refine ⟨_, _, _, congrArg Host.Outcome.next (serveSem_write hn ha value), congrArg Host.Outcome.next (serveSem_read hn (hb' (semWriteOne n s a value))),
      congrArg Host.Outcome.next ht, semOrder_setOrder .., setOrder_again ..⟩

/-! ### The window (R19, R24, R269) -/

theorem clearBank_live {value : Word64} {s : State} (hv : value.getLsbD 63 = true) (hlive : 8 ≤ s.boot.stage) (bank : Nat) :
    clearBank bank value s = { s with banks := terase s.banks bank } := if_pos ⟨hv, hlive⟩

/-- A write of an ERRSTAT goes to its bank (R265). -/
theorem writeWindowRegister_errstat {bank : Nat} (h : bank < 22) (value : Word64) (s : State) :
    writeWindowRegister (0x2000 + 0x40 * bank) value s = clearBank bank value s := by
  unfold writeWindowRegister
  rw [if_neg (by omega), if_pos ⟨by omega, by omega, by omega⟩]
  congr 1
  omega

theorem windowWrites : Claims.WindowWrites := by
  intro s port bank offset value
  refine ⟨fun hv hlive => ⟨_, congrArg Host.Outcome.next (clearBank_live hv hlive bank), ?_, fun k hk => ?_, rfl, fun hbank => ?_⟩,
    ⟨_, rfl, ?_, rfl⟩, fun h1 h2 h3 h4 => ?_⟩
  · exact congrArg (Option.getD · Bank.empty) ((tget_terase s.banks bank bank).trans (if_pos rfl))
  · exact (tget_terase s.banks bank k).trans (if_neg hk)
  · exact congrArg Host.Outcome.next ((writeWindowRegister_errstat hbank value s).trans (clearBank_live hv hlive bank))
  · show s.host.semerr &&& ~~~(value.setWidth 32) = _
    rw [BitVec.ofNat_toNat]
  · show Host.Outcome.next (writeWindowRegister offset value s) = _
    unfold writeWindowRegister
    rw [if_neg h1, if_neg]
    rintro ⟨hlo, hhi, hmod⟩
    exact h4 ((offset - 0x2000) / 0x40) (by omega) (by omega)

end Sys2Proof.Machine
end

section
/-!
PROOF. The errors of a cycle in their order, and what a corrected and an uncorrectable one leave (R267, R269, R271, R272).
-/

namespace Sys2Proof.Machine

open Sys2Proof

/-! ### What the record of an error reaches -/

/-- An error reaches the poison, the banks, the evidence of the retirement policy, the interrupt, and the lost cells of a conserved
domain, and nothing else (R201, R269, R277). -/
def errorReach (s t : State) : Prop :=
  (∀ k, (tget t.parts k).map Claims.undomained = (tget s.parts k).map Claims.undomained) ∧
  t = { s with
    poison := t.poison, banks := t.banks, parts := t.parts, evidence := t.evidence,
    host := { s.host with msix := t.host.msix, tables := t.host.tables } }

theorem errorReach.trans {s u t : State} (h1 : errorReach s u) (h2 : errorReach u t) : errorReach s t := by
  obtain ⟨hparts1, hsame1⟩ := h1
  obtain ⟨hparts2, hsame2⟩ := h2
  refine ⟨fun k => (hparts2 k).trans (hparts1 k), hsame2.trans ?_⟩
  rw [hsame1]

theorem poisonSector_eq (s : State) (pa : Nat) :
    poisonSector s pa = { s with poison := sset s.poison (pa / 32) 1, parts := (poisonSector s pa).parts } := by
  unfold poisonSector
  dsimp only
  split <;> rfl

theorem poisonSector_parts (s : State) (pa k : Nat) :
    (tget (poisonSector s pa).parts k).map Claims.undomained = (tget s.parts k).map Claims.undomained := by
  unfold poisonSector
  dsimp only
  split
  · rfl
  · show (tget (tmod s.parts _ _) k).map _ = _
    rw [tget_tmod]
    split
    · subst k
      rw [Option.map_map]
      rfl
    · rfl

theorem poisonSector_reach (s : State) (pa : Nat) : errorReach s (poisonSector s pa) :=
  ⟨poisonSector_parts s pa, by rw [poisonSector_eq]⟩

theorem sget_poisonSector (s : State) (pa k : Nat) :
    sget (poisonSector s pa).poison k = if k = pa / 32 then 1 else sget s.poison k := by
  rw [poisonSector_eq]
  exact sget_sset s.poison (pa / 32) k 1

theorem recordCorrected_eq (s : State) (n kind : Nat) (loc : ErrLoc) (addr : Nat) :
    recordCorrected s n kind loc addr = { s with
      banks := tset s.banks n (correctedIn kind s.cyc loc addr (tgetD s.banks n Bank.empty)),
      host := { s.host with
        msix := (recordCorrected s n kind loc addr).host.msix, tables := (recordCorrected s n kind loc addr).host.tables } } := by
  unfold recordCorrected
  dsimp only
  split <;> rfl

theorem recordCorrected_reach (s : State) (n kind : Nat) (loc : ErrLoc) (addr : Nat) : errorReach s (recordCorrected s n kind loc addr) := by
  rw [recordCorrected_eq]
  exact ⟨fun _ => rfl, rfl⟩

theorem recordUncorrected_reach (s : State) (n kind : Nat) (loc : ErrLoc) (addr : Nat) (lanes : Word64) :
    errorReach s (recordUncorrected s n kind loc addr lanes) := ⟨fun _ => rfl, rfl⟩

theorem banks_recordCorrected (s : State) (n kind : Nat) (loc : ErrLoc) (addr k : Nat) :
    tget (recordCorrected s n kind loc addr).banks k =
      if k = n then some (correctedIn kind s.cyc loc addr (tgetD s.banks n Bank.empty)) else tget s.banks k := by
  rw [recordCorrected_eq]
  exact tget_tset ..

theorem banks_recordUncorrected (s : State) (n kind : Nat) (loc : ErrLoc) (addr : Nat) (lanes : Word64) (k : Nat) :
    tget (recordUncorrected s n kind loc addr lanes).banks k =
      if k = n then some (uncorrectedIn kind s.cyc loc addr lanes (tgetD s.banks n Bank.empty)) else tget s.banks k := tget_tset ..

theorem noted_correctedIn (kind cyc : Nat) (loc : ErrLoc) (addr : Nat) (b : Bank) :
    Claims.noted true kind addr cyc loc b (correctedIn kind cyc loc addr b) := by
  have hcount : min 65535 (b.cecnt + 1) = if b.cecnt < 65535 then b.cecnt + 1 else 65535 := by
    split <;> omega
  unfold Claims.noted correctedIn
  cases hv : b.valid
  · simp [hcount]
  · simp [hcount]

theorem noted_uncorrectedIn (kind cyc : Nat) (loc : ErrLoc) (addr : Nat) (b : Bank) :
    Claims.noted false kind addr cyc loc b (uncorrectedIn kind cyc loc addr 0 b) := by
  have hcount : min 255 (b.uecnt + 1) = if b.uecnt < 255 then b.uecnt + 1 else 255 := by
    split <;> omega
  unfold Claims.noted uncorrectedIn
  cases hv : b.valid <;> cases hu : b.uc
  all_goals simp [hcount]

/-! ### The errors of one cycle (R269) -/

theorem detect_one {s : State} {d : Detected} (h : errorFits s d = true) : detect [] [d] s = applyDetected s d := by
  unfold detect
  rw [List.foldl_nil]
  dsimp only
  rw [List.filter_cons_of_pos h]
  rfl

/-- An error outside the arrays is detected in any bank (R265). -/
theorem errorFits_outside {s : State} {d : Detected} (hunit : d.unit = .none) (hbank : d.bank < 22) : errorFits s d = true := by
  unfold errorFits unitPlace
  rw [hunit]
  simpa using hbank

/-- An error in a sector of memory is detected in a die's banks or in the bank of its HBM stack (R265). -/
theorem errorFits_sector {s : State} {d : Detected} {pa : Nat} (hunit : d.unit = .sector pa) (hbank : d.bank < 22)
    (hplace : d.bank < 8 ∨ d.bank = 8 + Config.hbmStack pa % 12) : errorFits s d = true := by
  unfold errorFits unitPlace
  rw [hunit]
  simpa [hbank, hbmBank] using hplace

theorem errorPlace_outside (s : State) {d : Detected} (hunit : d.unit = .none) : errorPlace s d = { d.loc with part := 0, ctx := 0 } := by
  unfold errorPlace unitPlace
  rw [hunit]

theorem errorPlace_sector (s : State) {d : Detected} {pa : Nat} (hunit : d.unit = .sector pa) :
    errorPlace s d = ⟨0, 0, 0, if d.bank < 8 then 5 else 6, 0, 0⟩ := by
  unfold errorPlace unitPlace
  rw [hunit]

/-- Of two errors outside the arrays the one of the lower CORE, or of the lower UNIT within a CORE, comes first (R269). -/
theorem errorBefore_outside (s : State) {d e : Detected} (hd : d.unit = .none) (he : e.unit = .none) :
    errorBefore s d e = true ↔ d.loc.core < e.loc.core ∨ d.loc.core = e.loc.core ∧ d.loc.unit < e.loc.unit := by
  unfold errorBefore
  rw [errorPlace_outside s hd, errorPlace_outside s he]
  simp

theorem tgetD_of_tget {α : Type} {m : Tab α} {i : Nat} {x : α} (h : tget m i = some x) (d : α) : tgetD m i d = x := by
  rw [tgetD, h, Option.getD_some]

/-- A corrected error outside the arrays (R267, R269). -/
theorem correctedError_recorded (s : State) {bank : Nat} (hbank : bank < 22) (loc : ErrLoc) (addr : Nat) :
    exec (.correctedError [] [⟨bank, true, .none, loc, addr, false⟩]) s =
      .next (recordCorrected s bank 1 { loc with part := 0, ctx := 0 } addr) := by
  show Host.Outcome.next (detect [] [⟨bank, true, .none, loc, addr, false⟩] s) = _
  rw [detect_one (errorFits_outside rfl hbank)]
  rfl

/-- An uncorrectable error in a sector of memory, which its reader meets first or not (R269, R271). -/
theorem sectorError_applied (s : State) {bank pa : Nat} (hbank : bank < 22) (hplace : bank < 8 ∨ bank = 8 + Config.hbmStack pa % 12)
    (loc : ErrLoc) (addr : Nat) (met : Bool) :
    exec (.uncorrectableError [] [⟨bank, false, .sector pa, loc, addr, met⟩]) s =
      .next (if met = true then poisonSector s pa
        else recordUncorrected (poisonSector s pa) bank 3 ⟨0, 0, 0, if bank < 8 then 5 else 6, 0, 0⟩ (pa / 32 * 32) 0) := by
  show Host.Outcome.next (detect [] [⟨bank, false, .sector pa, loc, addr, met⟩] s) = _
  rw [detect_one (errorFits_sector rfl hbank hplace)]
  rfl

theorem errorsAreRecorded : Claims.ErrorsAreRecorded := by
  intro s bank pa addr loc hbank hpa b hbm others frame
  have hcyc : (poisonSector s pa).cyc = s.cyc := by rw [poisonSector_eq]
  have hbanks : (poisonSector s pa).banks = s.banks := by rw [poisonSector_eq]
  have hbacked : ¬ 0x9000000000 ≤ pa := by omega
  have hpatrol (found : PatrolResult) (t : State) (h : execPatrolScrub pa found s = .next t) :
      exec (.patrolScrub pa found) s = .next t := h
  refine ⟨⟨_, correctedError_recorded s hbank loc addr, fun j hj => ?_, recordCorrected_reach .., ?_, ?_, ?_⟩, fun hplace => ?_,
    fun hplace => ?_, ?_, ?_, fun hpoisoned => ?_, fun hclean => ?_⟩
  · rw [banks_recordCorrected, if_neg hj]
  · rw [recordCorrected_eq]
  · rw [recordCorrected_eq]
  · rw [tgetD_of_tget ((banks_recordCorrected ..).trans (if_pos rfl))]
    exact noted_correctedIn ..
  · refine ⟨_, sectorError_applied s hbank hplace loc addr false, fun j hj => ?_,
      (poisonSector_reach s pa).trans (recordUncorrected_reach ..), sget_poisonSector s pa, ?_⟩
    · rw [if_neg Bool.false_ne_true, banks_recordUncorrected, if_neg hj, hbanks]
    · rw [if_neg Bool.false_ne_true, tgetD_of_tget ((banks_recordUncorrected ..).trans (if_pos rfl)), hbanks, hcyc]
      exact noted_uncorrectedIn ..
  · refine ⟨_, sectorError_applied s hbank hplace loc addr true, poisonSector_reach s pa, hbanks, ?_, sget_poisonSector s pa⟩
    rw [if_pos rfl, poisonSector_eq]
  · exact if_neg hbacked
  · refine ⟨_, hpatrol .corrected _ (if_neg hbacked), fun j hj => ?_, recordCorrected_reach .., ?_, ?_⟩
    · exact (banks_recordCorrected ..).trans (if_neg hj)
    · rw [recordCorrected_eq]
    · rw [recordCorrected_eq]
  · exact hpatrol .uncorrectable _ ((if_neg hbacked).trans (if_pos hpoisoned))
  · refine ⟨_, hpatrol .uncorrectable _ ((if_neg hbacked).trans (if_neg (ne_true_of_eq_false hclean))), ?_, fun j hj => ?_,
      (poisonSector_reach s pa).trans (recordUncorrected_reach ..), ?_⟩
    · show (sget (poisonSector s pa).poison (pa / 32) != 0) = true
      rw [sget_poisonSector, if_pos rfl]
      rfl
    · rw [banks_recordUncorrected]
      exact (if_neg hj).trans (by rw [hbanks])
    · show Claims.noted false 4 _ _ _ (tgetD s.banks (hbmBank pa) Bank.empty) (tgetD _ (hbmBank pa) Bank.empty)
      rw [tgetD_of_tget ((banks_recordUncorrected ..).trans (if_pos rfl)), hbanks, hcyc]
      exact noted_uncorrectedIn ..

/-- Two errors outside the arrays that come in one cycle are applied in their order, whichever is reported first (R269). -/
theorem detect_two {s : State} {a b : Detected} (ha : a.unit = .none) (hb : b.unit = .none) (habank : a.bank < 22) (hbbank : b.bank < 22)
    (h : a.loc.core < b.loc.core ∨ a.loc.core = b.loc.core ∧ a.loc.unit < b.loc.unit) :
    detect [] [b, a] s = applyDetected (applyDetected s a) b ∧ detect [] [a, b] s = applyDetected (applyDetected s a) b := by
  have hfits : errorFits s a = true ∧ errorFits s b = true := ⟨errorFits_outside ha habank, errorFits_outside hb hbbank⟩
  have hbefore : errorBefore s a b = true := (errorBefore_outside s ha hb).2 h
  have hafter : errorBefore s b a = false := by
    rw [← Bool.not_eq_true, errorBefore_outside s hb ha]
    omega
  unfold detect
  simp [hfits, insertDetected, hbefore, hafter]

theorem errorsOfOneCycle : Claims.ErrorsOfOneCycle := by
  intro s bank c d x y i j hbank h a b
  have ha (u : State) : errorFits u a = true := errorFits_outside rfl hbank
  have hb (u : State) : errorFits u b = true := errorFits_outside rfl hbank
  obtain ⟨hba, hab⟩ := detect_two (s := s) (a := a) (b := b) rfl rfl hbank hbank h
  refine ⟨_, _, congrArg Host.Outcome.next (detect_one (ha s)), congrArg Host.Outcome.next (detect_one (hb _)),
    congrArg Host.Outcome.next hba, congrArg Host.Outcome.next hab, fun v hv => ?_⟩
  have hclear : clearBank bank (1#64 <<< 63) v = s := Host.Outcome.next.inj hv
  rw [← hba, ← hclear]
  rfl

/-- Settles O42: a read and a write of a semaphore by their effect on its register, two of one cycle by the order that serves them,
and each error by what its record reaches. -/
theorem hostWindowAndErrors : Obligations.HostWindowAndErrors := by
  unfold Obligations.HostWindowAndErrors
  exact ⟨semaphoresServe, semaphoresRotate, windowWrites, errorsAreRecorded, errorsOfOneCycle⟩

end Sys2Proof.Machine
end

section
/-!
PROOF. Pages and their bytes: distinct addresses of a page lie at distinct physical addresses, and doublewords stored in a page read
back (R2, R145, R150, R157).
-/

namespace Sys2Proof.Machine

open Sys2Proof

/-! ### The swizzle (R150) -/

/-- The three bits from a place up, XORed with three bits from further up, give the offset back: no two offsets become one. -/
theorem xorField_injective {p q o o' : Nat} (hq : p + 3 ≤ q)
    (h : o - field o p 3 * 2 ^ p + (field o p 3 ^^^ field o q 3) * 2 ^ p
      = o' - field o' p 3 * 2 ^ p + (field o' p 3 ^^^ field o' q 3) * 2 ^ p) : o = o' := by
  obtain ⟨k, rfl⟩ := Nat.exists_eq_add_of_le hq
  have hm : 0 < 2 ^ p := Nat.two_pow_pos p
  have hsplit (o : Nat) : o - field o p 3 * 2 ^ p + (field o p 3 ^^^ field o (p + 3 + k) 3) * 2 ^ p
      = 2 ^ p * (8 * (o / 2 ^ p / 8) + (field o p 3 ^^^ field o (p + 3 + k) 3)) + o % 2 ^ p := by
    have h1 := Nat.div_add_mod o (2 ^ p)
    have h2 := Nat.div_add_mod (o / 2 ^ p) 8
    have h3 : field o p 3 = o / 2 ^ p % 8 := rfl
    generalize field o p 3 ^^^ field o (p + 3 + k) 3 = c
    rw [h3]
    have h4 : o = 2 ^ p * (8 * (o / 2 ^ p / 8)) + 2 ^ p * (o / 2 ^ p % 8) + o % 2 ^ p := by
      rw [← Nat.mul_add, h2, h1]
    have h5 : o / 2 ^ p % 8 * 2 ^ p = 2 ^ p * (o / 2 ^ p % 8) := Nat.mul_comm ..
    have h6 : c * 2 ^ p = 2 ^ p * c := Nat.mul_comm ..
    rw [h5, h6, Nat.mul_add]
    omega
  have hxor (o : Nat) : field o p 3 ^^^ field o (p + 3 + k) 3 < 8 :=
    Nat.xor_lt_two_pow (n := 3) (Nat.mod_lt _ (by decide)) (Nat.mod_lt _ (by decide))
  have hfar (o : Nat) : field o (p + 3 + k) 3 = o / 2 ^ p / 8 / 2 ^ k % 8 := by
    have hquot : o / 2 ^ (p + 3 + k) = o / 2 ^ p / 2 ^ 3 / 2 ^ k := by
      rw [Nat.pow_add, Nat.pow_add, Nat.div_div_eq_div_mul, Nat.div_div_eq_div_mul, Nat.mul_assoc]
    exact congrArg (· % 8) hquot
  rw [hsplit o, hsplit o'] at h
  have hlow : o % 2 ^ p = o' % 2 ^ p := by
    have := congrArg (· % 2 ^ p) h
    simpa [Nat.mul_add_mod, Nat.mod_mod] using this
  have hhigh : 8 * (o / 2 ^ p / 8) + (field o p 3 ^^^ field o (p + 3 + k) 3)
      = 8 * (o' / 2 ^ p / 8) + (field o' p 3 ^^^ field o' (p + 3 + k) 3) :=
    Nat.eq_of_mul_eq_mul_left hm (by omega)
  have hx := hxor o
  have hx' := hxor o'
  have htop : o / 2 ^ p / 8 = o' / 2 ^ p / 8 := by omega
  have hmid : field o p 3 = field o' p 3 := by
    have he : field o p 3 ^^^ field o (p + 3 + k) 3 = field o' p 3 ^^^ field o' (p + 3 + k) 3 := by omega
    rw [hfar o, hfar o', htop] at he
    exact Nat.xor_left_injective he
  have hquot : o / 2 ^ p = o' / 2 ^ p := by
    have h3 : o / 2 ^ p % 8 = o' / 2 ^ p % 8 := hmid
    omega
  rw [← Nat.div_add_mod o (2 ^ p), ← Nat.div_add_mod o' (2 ^ p), hquot, hlow]

theorem swizzle_injective (swz : Nat) {o o' : Nat} (h : swizzle swz o = swizzle swz o') : o = o' := by
  unfold swizzle at h
  split_ifs at h
  · exact h
  · exact xorField_injective (by omega) h
  · exact xorField_injective (by omega) h

/-! ### The addresses of a page (R145) -/

/-- Fewer addresses in a row than a page has bytes lie at distinct physical addresses of it (R150). -/
theorem pa_injective {l : Leaf} {n : Nat} (hn : n ≤ l.size) (va : Nat) {i j : Nat} (hi : i < n) (hj : j < n)
    (h : l.pa (va + i) = l.pa (va + j)) : i = j := by
  have hmod : (va + i) % l.size = (va + j) % l.size := swizzle_injective l.swz (Nat.add_left_cancel h)
  have hij : i % l.size = j % l.size := Nat.ModEq.add_left_cancel' va hmod
  rwa [Nat.mod_eq_of_lt (by omega), Nat.mod_eq_of_lt (by omega)] at hij

theorem walkFrom_size {s : State} {va : Nat} {l : Leaf} : ∀ {level table : Nat},
    walkFrom s va level table = .leaf l → 2 ^ 15 ≤ l.size := by
  intro level
  induction level with
  | zero =>
    intro table h
    unfold walkFrom at h
    dsimp only at h
    split_ifs at h
    cases h
    exact Nat.pow_le_pow_right (by decide) (by unfold pageBits; omega)
  | succ n ih =>
    intro table h
    unfold walkFrom at h
    dsimp only at h
    split_ifs at h
    · cases h
      exact Nat.pow_le_pow_right (by decide) (by unfold pageBits; omega)
    · exact ih h

/-- The leaf of an access that passes every check is its address's (R155). -/
theorem translate_of_access {s : State} {part ctx va n : Nat} {kind : AccessKind} {l : Leaf}
    (h : access s part ctx kind va n = .ok l) : translate s part ctx va = .ok l := by
  have hpermitted : permitted s part ctx kind va n = .ok l := by
    unfold access pastDevice at h
    split at h
    · cases h
    · rename_i hp
      split at h
      · cases h
      · rw [hp]
        exact h
  unfold permitted at hpermitted
  split at hpermitted
  · cases hpermitted
  · split at hpermitted
    · cases hpermitted
    · rename_i ht
      split at hpermitted
      · cases hpermitted
      · rw [ht]
        exact hpermitted

/-- The page of an access has 32 KiB or more (R145). -/
theorem size_of_access {s : State} {part ctx va n : Nat} {kind : AccessKind} {l : Leaf}
    (h : access s part ctx kind va n = .ok l) : 2 ^ 15 ≤ l.size := by
  have ht := translate_of_access h
  unfold translate at ht
  split at ht
  · cases ht
  · split at ht <;> cases ht
    rename_i hw
    unfold walk at hw
    split at hw
    · exact walkFrom_size hw
    · cases hw

theorem key_lt (l : Leaf) : l.key < 4096 := Nat.mod_lt _ (by decide)

/-! ### Little-endian words (R2) -/

theorem leSplit_length : ∀ n x, (leSplit n x).length = n := by
  intro n
  induction n with
  | zero => intro x; rfl
  | succ n ih => intro x; exact congrArg (· + 1) (ih _)

theorem leValue_leSplit : ∀ n x, leValue (leSplit n x) = x % 256 ^ n := by
  intro n
  induction n with
  | zero => intro x; rw [Nat.pow_zero, Nat.mod_one]; rfl
  | succ n ih =>
    intro x
    rw [leSplit, leValue, ih, BitVec.toNat_ofNat, Nat.pow_succ' (m := 256), Nat.mod_mul]

theorem leValue_lt : ∀ bs : List Byte, leValue bs < 256 ^ bs.length := by
  intro bs
  induction bs with
  | nil => decide
  | cons b bs ih =>
    have hb := b.isLt
    rw [leValue, List.length_cons, Nat.pow_succ]
    omega

theorem loadLe_lt (s : State) (l : Leaf) (va n : Nat) : loadLe s l va n < 256 ^ n := by
  have h := leValue_lt (loadBytes s l va n)
  rwa [loadBytes, List.length_map, List.length_range] at h

/-- The bytes of some doublewords, one behind the other (R2). -/
def wordBytes (ws : List Word64) : List Byte := ws.flatMap (fun x => leSplit 8 x.toNat)

theorem wordBytes_length (ws : List Word64) : (wordBytes ws).length = 8 * ws.length := by
  induction ws with
  | nil => rfl
  | cons x ws ih =>
    rw [wordBytes, List.flatMap_cons, List.length_append, leSplit_length, List.length_cons]
    unfold wordBytes at ih
    omega

theorem wordBytes_slice : ∀ (ws : List Word64) (k : Nat), k < ws.length →
    ((wordBytes ws).drop (8 * k)).take 8 = leSplit 8 (ws.getD k 0).toNat := by
  intro ws
  induction ws with
  | nil => intro k hk; cases hk
  | cons x ws ih =>
    intro k hk
    rw [wordBytes, List.flatMap_cons]
    cases k with
    | zero => exact List.take_left' (leSplit_length 8 _)
    | succ k =>
      rw [show 8 * (k + 1) = (leSplit 8 x.toNat).length + 8 * k by rw [leSplit_length]; omega, List.drop_length_add_append]
      exact ih k (Nat.lt_of_succ_lt_succ hk)

/-! ### Bytes stored in a page (R157) -/

/-- What a key reads at an address depends on memory, on the lines' keys and on the key slots alone (R144, R281). -/
theorem memByte_congr {s t : State} (hmem : t.mem = s.mem) (hline : t.lineKey = s.lineKey) (hkeys : t.keys = s.keys) (key pa : Nat) :
    memByte t key pa = memByte s key pa := by
  rw [memByte_eq_sector, memByte_eq_sector s]
  congr 1
  exact sectorUnder_congr hkeys (by rw [lineTag, lineTag, hline]) (fun j _ => by rw [hmem])

theorem loadLe_congr {s t : State} {l : Leaf} {va va' n : Nat}
    (h : ∀ j < n, memByte t l.key (l.pa (va + j)) = memByte s l.key (l.pa (va' + j))) : loadLe t l va n = loadLe s l va' n := by
  unfold loadLe loadBytes
  congr 1
  exact List.map_congr_left (fun j hj => h j (List.mem_range.1 hj))

theorem lastAt_append (pa : Nat) (xs ys : List (Nat × Byte)) : ∀ old, lastAt pa old (xs ++ ys) = lastAt pa (lastAt pa old xs) ys := by
  induction xs with
  | nil => intro old; rfl
  | cons e xs ih => intro old; exact ih _

theorem bytesAt_append (l : Leaf) (va : Nat) (xs ys : List Byte) :
    bytesAt l va (xs ++ ys) = bytesAt l va xs ++ bytesAt l (va + xs.length) ys := by
  unfold bytesAt
  rw [List.length_append, List.range_add, List.map_append, List.map_map]
  congr 1
  · refine List.map_congr_left (fun j hj => ?_)
    rw [List.getD_append _ _ _ _ (List.mem_range.1 hj)]
  · refine List.map_congr_left (fun j _ => ?_)
    rw [Function.comp_apply, List.getD_append_right _ _ _ _ (by omega), Nat.add_sub_cancel_left, Nat.add_assoc]

theorem bytesAt_addresses (l : Leaf) (va : Nat) (bs : List Byte) :
    (bytesAt l va bs).map (·.1) = (List.range bs.length).map (fun j => l.pa (va + j)) := by
  rw [bytesAt, List.map_map]
  rfl

/-- Of writes to distinct addresses each leaves its own value. -/
theorem lastAt_of_mem (pa : Nat) (b : Byte) : ∀ (xs : List (Nat × Byte)) (old : Byte), (xs.map (·.1)).Nodup → (pa, b) ∈ xs →
    lastAt pa old xs = b := by
  intro xs
  induction xs with
  | nil => intro old _ h; cases h
  | cons e xs ih =>
    intro old hnodup h
    obtain ⟨hhead, hnodup⟩ := List.nodup_cons.1 hnodup
    rcases List.mem_cons.1 h with rfl | h
    · rw [lastAt, if_pos rfl, lastAt_not_mem _ _ _ hhead]
    · exact ih _ hnodup h

/-- Bytes stored within a page read back at their addresses (R157). -/
theorem lastAt_bytesAt {l : Leaf} {bs : List Byte} (hsize : bs.length ≤ l.size) (va : Nat) {j : Nat} (hj : j < bs.length) (old : Byte) :
    lastAt (l.pa (va + j)) old (bytesAt l va bs) = bs.getD j 0 := by
  refine lastAt_of_mem _ _ _ _ ?_ (List.mem_map.2 ⟨j, List.mem_range.2 hj, rfl⟩)
  rw [bytesAt_addresses]
  exact List.nodup_range.map_on (fun i hi k hk h => pa_injective hsize va (List.mem_range.1 hi) (List.mem_range.1 hk) h)

/-- An address at which none of some bytes is stored keeps its value (R157). -/
theorem lastAt_bytesAt_far {l : Leaf} {bs : List Byte} {va pa : Nat} (h : ∀ j < bs.length, l.pa (va + j) ≠ pa) (old : Byte) :
    lastAt pa old (bytesAt l va bs) = old := by
  refine lastAt_not_mem _ _ _ ?_
  rw [bytesAt_addresses, List.mem_map]
  rintro ⟨j, hj, he⟩
  exact h j (List.mem_range.1 hj) he

end Sys2Proof.Machine
end

section
/-!
PROOF. The entry into a trap handler: the frame's doublewords stand at TRAPFRAME, and nothing else differs but what R302 changes
(R168, R302, R303).
-/

namespace Sys2Proof.Machine

open Sys2Proof

/-! ### What the stores of a wave reach -/

/-- A store reaches memory, the lines' keys, the bank array, and its partition's monitors and combining buffer (R143, R171, R284). -/
def storeReach (s t : State) : Prop := t = { s with mem := t.mem, lineKey := t.lineKey, array := t.array, parts := t.parts }

theorem storeReach.trans {s u t : State} (h1 : storeReach s u) (h2 : storeReach u t) : storeReach s t := by
  unfold storeReach at h1 h2 ⊢
  rw [h2, h1]

theorem putBytes_reach (k : Nat) : ∀ (bs : List (Nat × Byte)) (s : State), storeReach s (putBytes s k bs) := by
  intro bs
  induction bs with
  | nil => intro s; rfl
  | cons e bs ih =>
    intro s
    refine storeReach.trans ?_ (ih (putByte s k e.1 e.2))
    unfold putByte rekeyLine
    split <;> rfl

theorem storeBytes_reach (s : State) (part wave : Nat) (l : Leaf) (va : Nat) (bs : List Byte) :
    storeReach s (storeBytes s part wave l va bs) := by
  refine (putBytes_reach l.key (bytesAt l va bs) s).trans ?_
  unfold storeBytes reflect
  dsimp only
  split
  · split <;> rfl
  · rfl

theorem countAccess_eq (s : State) (part ctx va source kind : Nat) :
    countAccess s part ctx va source kind = { s with parts := (countAccess s part ctx va source kind).parts } := by
  unfold countAccess countAny
  split
  · rfl
  · split <;> rfl

theorem storeWords_reach (w : Wave) (l : Leaf) : ∀ (xs : List Word64) (va : Nat) (s : State), storeReach s (storeWords s w l va xs) := by
  intro xs
  induction xs with
  | nil => intro va s; rfl
  | cons x xs ih =>
    intro va s
    refine ((storeBytes_reach s w.span.part (waveSender w.id) l va (leSplit 8 x.toNat)).trans ?_).trans (ih (va + 8) _)
    unfold storeReach
    rw [countAccess_eq]

/-- What a page's key reads after a store to the page: the bytes stored, and the others as before (R157). -/
theorem memByte_storeBytes (s : State) (part wave : Nat) (l : Leaf) (va : Nat) (bs : List Byte) (pa : Nat) :
    memByte (storeBytes s part wave l va bs) l.key pa = lastAt pa (memByte s l.key pa) (bytesAt l va bs) := by
  rw [← memByte_putBytes l.key pa (key_lt l)]
  unfold storeBytes reflect
  dsimp only
  split
  · split <;> exact memByte_congr rfl rfl rfl _ _
  · exact memByte_congr rfl rfl rfl _ _

/-- What a page's key reads after doublewords have been stored to the page, one behind the other. -/
theorem memByte_storeWords (w : Wave) (l : Leaf) (pa : Nat) : ∀ (xs : List Word64) (va : Nat) (s : State),
    memByte (storeWords s w l va xs) l.key pa = lastAt pa (memByte s l.key pa) (bytesAt l va (wordBytes xs)) := by
  intro xs
  induction xs with
  | nil => intro va s; rfl
  | cons x xs ih =>
    intro va s
    have hcount (u : State) : memByte (countAccess u w.span.part w.span.ctx va 0 1) l.key pa = memByte u l.key pa := by
      rw [countAccess_eq]
      exact memByte_congr rfl rfl rfl _ _
    rw [storeWords, ih, hcount, memByte_storeBytes, ← lastAt_append]
    congr 1
    have hlen := leSplit_length 8 x.toNat
    have h := bytesAt_append l va (leSplit 8 x.toNat) (wordBytes xs)
    rw [hlen] at h
    exact h.symm

/-! ### The trap frame (R302, R303) -/

theorem frameWords_length (t : Trap) (w : Wave) : (frameWords t w).length = 128 := by
  unfold frameWords
  rw [List.length_take, List.length_append, List.length_append, List.length_replicate]
  exact Nat.min_eq_left (by simp)

/-- Beyond its list, a detail that is filled up with zeros reads as zero. -/
theorem getD_append_zeros (d : List Word64) (m n : Nat) : ((d ++ List.replicate m 0)[n]?).getD 0 = (d[n]?).getD 0 := by
  rw [List.getElem?_append]
  split
  · rfl
  · rename_i h
    rw [List.getElem?_eq_none (by omega : d.length ≤ n), List.getElem?_replicate]
    split <;> rfl

/-- The doublewords of a frame as R302 and R303 list them. -/
theorem frameWords_getD (t : Trap) (w : Wave) {k : Nat} (hk : k < 128) :
    (frameWords t w).getD k 0 = Claims.frameDoubleword t w k := by
  unfold frameWords
  rw [List.getD_eq_getElem?_getD, List.getElem?_take, if_pos hk]
  by_cases h : k < 16
  · interval_cases k <;> rfl
  · obtain ⟨n, rfl⟩ : ∃ n, k = n + 16 := ⟨k - 16, by omega⟩
    rw [List.append_assoc, List.getElem?_append_right (by simp)]
    exact getD_append_zeros t.detail 112 n

/-! ### The entry into a handler (R302) -/

theorem frameTaint_eq (l : Leaf) (va : Nat) (w : Wave) (s : State) :
    frameTaint l va w s = { s with poison := (frameTaint l va w s).poison, parts := (frameTaint l va w s).parts } := by
  have hfold (ks : List Nat) : ∀ s : State, ks.foldl (fun s k => poisonSector s (l.pa (va + 8 * k))) s =
      { s with poison := (ks.foldl (fun s k => poisonSector s (l.pa (va + 8 * k))) s).poison,
               parts := (ks.foldl (fun s k => poisonSector s (l.pa (va + 8 * k))) s).parts } := by
    induction ks with
    | nil => intro s; rfl
    | cons k ks ih =>
      intro s
      rw [List.foldl_cons, ih, poisonSector_eq]
  exact hfold _ s

theorem clearCovered_eq (s : State) (pas : List Nat) : clearCovered s pas = { s with poison := (clearCovered s pas).poison } := by
  unfold clearCovered
  split <;> rfl

/-- The device once a frame's doublewords and their poison are stored, before the wave enters its handler (R264, R302). -/
def framed (t : Trap) (l : Leaf) (s : State) : State :=
  let w := s.wave
  let va := w.trapframe.toNat
  let u := storeWords s w l va (frameWords t w)
  let u := frameTaint l va w (clearCovered u ((List.range 1024).map (fun j => l.pa (va + j))))
  if l.cls = 2 then clearReplay u w.span else u

theorem enterHandler_eq (t : Trap) (l : Leaf) (s : State) :
    enterHandler t l s = (framed t l s).onWave (fun w => w.entered ((framed t l s).passes w)) := rfl

/-- Storing a frame reaches memory, the bank array, poison, partitions and spans, and not the wave (R302). -/
theorem framed_eq (t : Trap) (l : Leaf) (s : State) :
    framed t l s = { s with
      mem := (storeWords s s.wave l s.wave.trapframe.toNat (frameWords t s.wave)).mem,
      lineKey := (storeWords s s.wave l s.wave.trapframe.toNat (frameWords t s.wave)).lineKey,
      array := (framed t l s).array, poison := (framed t l s).poison, parts := (framed t l s).parts,
      spans := (framed t l s).spans } := by
  have hstore := storeWords_reach s.wave l (frameWords t s.wave) s.wave.trapframe.toNat s
  unfold storeReach at hstore
  unfold framed clearReplay
  dsimp only
  rw [frameTaint_eq, clearCovered_eq]
  generalize storeWords s s.wave l s.wave.trapframe.toNat (frameWords t s.wave) = u at hstore ⊢
  split
  · rw [hstore]; rfl
  · rw [hstore]

theorem memByte_framed (t : Trap) (l : Leaf) (s : State) (pa : Nat) :
    memByte (framed t l s) l.key pa =
      lastAt pa (memByte s l.key pa) (bytesAt l s.wave.trapframe.toNat (wordBytes (frameWords t s.wave))) := by
  have hstore := storeWords_reach s.wave l (frameWords t s.wave) s.wave.trapframe.toNat s
  unfold storeReach at hstore
  rw [← memByte_storeWords s.wave l pa (frameWords t s.wave) s.wave.trapframe.toNat s]
  refine memByte_congr ?_ ?_ ?_ _ _
  · rw [framed_eq]
  · rw [framed_eq]
  · rw [framed_eq, hstore]

/-- The frame stands at TRAPFRAME, and the wave is in its handler (R302). -/
theorem entered_enterHandler {s : State} {l : Leaf} (hsize : 2 ^ 15 ≤ l.size) (x : Trap) : Claims.entered l x s (enterHandler x l s) := by
  have hbytes : (wordBytes (frameWords x s.wave)).length = 1024 := by rw [wordBytes_length, frameWords_length]
  have hread (pa : Nat) : memByte (enterHandler x l s) l.key pa =
      lastAt pa (memByte s l.key pa) (bytesAt l s.wave.trapframe.toNat (wordBytes (frameWords x s.wave))) := by
    rw [← memByte_framed, enterHandler_eq]
    exact memByte_congr rfl rfl rfl _ _
  have hwave : (framed x l s).wave = s.wave := by rw [framed_eq]
  have hentered : (enterHandler x l s).wave = s.wave.entered ((framed x l s).passes s.wave) := by
    rw [enterHandler_eq, onWave_wave, hwave]
  refine ⟨fun k hk => ?_, fun pa hfar => ?_, ?_, ?_, ?_, ?_, ?_, ?_, ?_⟩
  · have hslice := wordBytes_slice (frameWords x s.wave) k (by rwa [frameWords_length])
    have hload : loadBytes (enterHandler x l s) l (s.wave.trapframe.toNat + 8 * k) 8 =
        ((wordBytes (frameWords x s.wave)).drop (8 * k)).take 8 := by
      refine List.ext_getElem (by simp [loadBytes]; omega) (fun j hj _ => ?_)
      rw [loadBytes, List.length_map, List.length_range] at hj
      have hj' : 8 * k + j < (wordBytes (frameWords x s.wave)).length := by omega
      simp only [loadBytes, List.getElem_map, List.getElem_range, List.getElem_take, List.getElem_drop]
      rw [hread, Nat.add_assoc, lastAt_bytesAt (by omega) _ hj', List.getD_eq_getElem _ _ hj']
    show leValue (loadBytes (enterHandler x l s) l (s.wave.trapframe.toNat + 8 * k) 8) = _
    rw [hload, hslice, leValue_leSplit, frameWords_getD x s.wave hk]
    exact Nat.mod_eq_of_lt (Claims.frameDoubleword x s.wave k).isLt
  · rw [hread, lastAt_bytesAt_far (by rwa [hbytes])]
  · rw [hentered]; rfl
  · rw [hentered]; rfl
  · rw [hentered]; rfl
  · rw [hentered]; rfl
  · rw [hentered]; rfl
  · rw [hentered]; rfl
  · rw [enterHandler_eq]
    have hframe := framed_eq x l s
    unfold Claims.beyondStores
    generalize framed x l s = u at hframe ⊢
    rw [hframe]
    rfl

end Sys2Proof.Machine
end

section
/-!
PROOF. Traps are delivered: nothing in flight as the model tests it, and a trap that meets no obstacle enters its handler (R168, R174,
R302).
-/

namespace Sys2Proof.Machine

open Sys2Proof

/-! ### Nothing in flight (R174, R218) -/

theorem waveInFlight_false {s : State} {w : Wave} (h : Claims.nothingInFlight s w) : waveInFlight s w.span.part w.id = false := by
  obtain ⟨hcombining, hunacked, hanswers⟩ := h
  have hbuffered : buffered s w.span.part (waveSender w.id) = false := by
    unfold buffered
    split
    · rename_i p hp
      rw [List.any_eq_false]
      intro e he
      exact fun hc => hcombining p hp e he (beq_iff_eq.1 hc)
    · rfl
  have houts : s.fabric.outs.any (fun o => o.unacked.any (fun k => senderOf k.packet.payload == some (waveSender w.id))) = false := by
    rw [List.any_eq_false]
    intro o ho hc
    obtain ⟨k, hk, he⟩ := List.any_eq_true.1 hc
    exact hunacked o ho k hk (beq_iff_eq.1 he)
  unfold waveInFlight inFlight
  rw [hbuffered, houts, hanswers]
  rfl

/-! ### The entry into a handler -/

/-- A wave that waits in its handler for its reflected store (R168) has entered it. -/
theorem entered_sleepOn {l : Leaf} {x : Trap} {s u : State} (h : Claims.entered l x s u) (q : Wait) :
    Claims.entered l x s (sleepOn q u) := by
  obtain ⟨hframe, hfar, hlevel, hpc, hactive, hrun, hpend, hwave, hbeyond⟩ := h
  refine ⟨fun k hk => ?_, fun pa hpa => ?_, hlevel, hpc, hactive, hrun, hpend, hwave, ?_⟩
  · rw [← hframe k hk]
    exact loadLe_congr (fun _ _ => memByte_congr rfl rfl rfl _ _)
  · rw [← hfar pa hpa]
    exact memByte_congr rfl rfl rfl _ _
  · unfold Claims.beyondStores at hbeyond ⊢
    unfold sleepOn State.onWave
    rw [hbeyond]

/-- What a walk has left in the bank array has no part in the entry into a handler (R143). -/
theorem entered_of_touchWalks {l : Leaf} {x : Trap} {s u : State} {part ctx : Nat} {vas : List Nat}
    (h : Claims.entered l x (touchWalks s part ctx vas) u) : Claims.entered l x s u := by
  obtain ⟨hframe, hfar, hlevel, hpc, hactive, hrun, hpend, hwave, hbeyond⟩ := h
  refine ⟨hframe, fun pa hpa => ?_, hlevel, hpc, hactive, hrun, hpend, hwave, hbeyond⟩
  rw [hfar pa hpa]
  exact memByte_congr rfl rfl rfl _ _

theorem nothingInFlight_touchWalks {s : State} {w : Wave} (h : Claims.nothingInFlight s w) (part ctx : Nat) (vas : List Nat) :
    Claims.nothingInFlight (touchWalks s part ctx vas) w := h

/-- A trap enters its handler where its frame may be stored to at once and neither TRAPVEC nor TRAPFRAME is poisoned (R168, R264,
R302). -/
theorem deliver_enters {x : Trap} {s : State} {l : Leaf}
    (hacc : access s s.wave.span.part s.wave.span.ctx .store s.wave.trapframe.toNat 1024 = .ok l)
    (hclean : Claims.entryClean s.wave) (hfree : Claims.storesFreely s l) :
    ∃ u, deliver x s = .next u ∧ Claims.entered l x s u := by
  obtain ⟨hvec, hframe⟩ := hclean
  have hspoilt : s.wave.entrySpoilt = false := by rw [Wave.entrySpoilt, hvec, hframe]; rfl
  unfold deliver
  dsimp only
  rw [hspoilt, if_neg Bool.false_ne_true]
  have hentered := entered_enterHandler (s := touchWalks s s.wave.span.part s.wave.span.ctx [s.wave.trapframe.toNat])
    (size_of_access hacc) x
  have hwait : ¬(l.mt = 3 ∧ waveInFlight (touchWalks s s.wave.span.part s.wave.span.ctx [s.wave.trapframe.toNat])
      s.wave.span.part s.wave.id = true) := by
    rintro ⟨hmt, hin⟩
    rcases hfree with hne | ⟨hnone, _⟩
    · exact hne hmt
    · rw [waveInFlight_false (nothingInFlight_touchWalks hnone _ _ _)] at hin
      cases hin
  rw [access_touchWalks, hacc]
  dsimp only
  rw [if_neg hwait]
  refine ⟨_, rfl, ?_⟩
  split
  · exact entered_sleepOn (entered_of_touchWalks hentered) _
  · exact entered_of_touchWalks hentered

/-- A trap of a wave at user level, in no fused sequence and behind no instruction in page-fault service, is delivered (R302). -/
theorem raise_delivers {t : Trap} {s : State} (hlevel : s.wave.level = .user) (hfuse : s.wave.fuse = none)
    (hservice : s.wave.service = none) : raise t s = deliver t s := by
  have hunfuse : s.wave.unfuse t = (s.wave, t) := by unfold Wave.unfuse; rw [hfuse]
  unfold raise
  rw [hunfuse]
  dsimp only
  rw [hlevel, hservice]
  rfl

/-- O43: a trap that stood behind page-fault service enters its handler. -/
theorem waitingTrapsDelivered : Claims.WaitingTrapsDelivered := by
  intro s id x l f hfind htrap hservice hresident hruns _ _ _ hacc hclean hfree
  obtain ⟨u, hdeliver, hentered⟩ := deliver_enters (x := x) hacc hclean hfree
  refine ⟨u, ?_, hentered⟩
  show execTrapDelivery id s = .next u
  unfold execTrapDelivery
  rw [hfind]
  dsimp only
  rw [htrap]
  dsimp only
  rw [hresident, hruns, hservice]
  exact hdeliver

end Sys2Proof.Machine
end

section
/-!
PROOF. Sleeps, promises, full saves and relaunches: changing one wave leaves the others, and changing spans by their numbers leaves the
others (R88, R160, R275, R276, R332).
-/

namespace Sys2Proof.Machine

open Sys2Proof

/-! ### Finding a wave -/

theorem allWaves_changeWave (s : State) (id : Nat) {f : Wave → Wave} (hstays : ∀ w, w.wait ≠ .vacant → (f w).wait ≠ .vacant) :
    (s.changeWave id f).allWaves = s.allWaves.map (fun w => if w.id == id then f w else w) := by
  unfold State.allWaves State.changeWave State.changeWaves
  dsimp only
  by_cases hv : s.wave.wait = .vacant
  · simp [hv]
  · by_cases hid : s.wave.id = id
    · simp [hv, hid, hstays _ hv]
    · simp [hv, hid]

/-- The wave with a number after one wave has changed, its number kept. -/
theorem findWave_changeWave (s : State) (id j : Nat) {f : Wave → Wave} (hid : ∀ w, (f w).id = w.id)
    (hstays : ∀ w, w.wait ≠ .vacant → (f w).wait ≠ .vacant) :
    (s.changeWave id f).findWave j = (s.findWave j).map (fun w => if j = id then f w else w) := by
  have htest : ((fun w : Wave => w.id == j) ∘ fun w => if w.id == id then f w else w) = fun w => w.id == j := by
    funext w
    rw [Function.comp_apply]
    split
    · rw [hid]
    · rfl
  unfold State.findWave
  rw [allWaves_changeWave s id hstays, List.find?_map, htest]
  cases hfind : s.allWaves.find? (fun w => w.id == j) with
  | none => rfl
  | some w =>
    have hj : w.id = j := by simpa using List.find?_some hfind
    rw [Option.map_some, Option.map_some, hj]
    simp only [beq_iff_eq]

/-- Changing a wave leaves everything else (R9). -/
theorem waveOnly_changeWave (s : State) (id : Nat) {f : Wave → Wave} (hid : ∀ w, (f w).id = w.id)
    (hstays : ∀ w, w.wait ≠ .vacant → (f w).wait ≠ .vacant) : Claims.waveOnly id s (s.changeWave id f) := by
  refine ⟨rfl, fun j hj => ?_⟩
  simp [findWave_changeWave s id j hid hstays, hj]

theorem findWave_changeWave_same {s : State} {id : Nat} {w : Wave} (h : s.findWave id = some w) {f : Wave → Wave}
    (hid : ∀ w, (f w).id = w.id) (hstays : ∀ w, w.wait ≠ .vacant → (f w).wait ≠ .vacant) :
    (s.changeWave id f).findWave id = some (f w) := by
  rw [findWave_changeWave s id id hid hstays, h, Option.map_some, if_pos rfl]

/-- Bringing a wave into the issuing place moves waves alone. -/
theorem focus_eq (s : State) (id : Nat) : focus s id = { s with wave := (focus s id).wave, waves := (focus s id).waves } := by
  unfold focus park
  split
  · rfl
  · dsimp only
    split <;> split <;> rfl

/-! ### Sleeps and promises (R160, R332) -/

theorem sleepEnds {s : State} {id target : Nat} {w : Wave} (hfind : s.findWave id = some w) (hwait : w.wait = .sleeping target)
    (hpast : target ≤ s.cyc) : exec (.sleepExpiry id) s = .next (s.changeWave id (wake s)) := by
  show execSleepExpiry id s = _
  unfold execSleepExpiry
  rw [hfind]
  dsimp only
  rw [hwait]
  exact if_pos hpast

theorem promiseExpires {s : State} {id promise : Nat} {token : Word64} {w : Wave} {i : Instr} (hfind : s.findWave id = some w)
    (hwait : w.wait = .retryToken token (some promise)) (hresident : w.resident = true) (hpast : promise ≤ s.cyc)
    (hpending : tokenPending s w token = true) (hinstr : instrAt s w w.pc.toNat = some i) (hruns : coreRuns s w.core = true) :
    let t := (focus s id).onWave (Wave.resumed s)
    exec (.cpwaitPromiseExpiry id) s = raise (lateTrap i t token) { t with fresh := t.fresh + 1 } := by
  show execCpwaitPromiseExpiry id s = _
  unfold execCpwaitPromiseExpiry
  rw [hfind]
  dsimp only
  rw [hwait]
  dsimp only
  rw [hresident, hruns, hpending, decide_eq_true hpast, hinstr]
  rfl

/-- The present CYC and the islands' points are those of the device before a wave came into the issuing place. -/
theorem resumed_focus (s : State) (id : Nat) : Wave.resumed (focus s id) = Wave.resumed s := by
  rw [focus_eq]
  rfl

/-- COPY_LATE of a wave that issues again enters its handler, where a frame may be stored at once (R160, R302). -/
theorem raise_resumed_enters {f : State} {i : Instr} {token : Word64} {l : Leaf} (hlevel : f.wave.level = .user)
    (hfuse : f.wave.fuse = none) (hservice : f.wave.service = none) :
    let t := f.onWave (Wave.resumed f)
    let g := { t with fresh := f.fresh + 1 }
    let x := lateTrap i t token
    access g g.wave.span.part g.wave.span.ctx .store g.wave.trapframe.toNat 1024 = .ok l →
    Claims.entryClean g.wave → Claims.storesFreely g l → ∃ u, raise x g = .next u ∧ Claims.entered l x g u := by
  intro t g x hacc hclean hfree
  obtain ⟨u, hdeliver, hentered⟩ := deliver_enters (x := x) (s := g) hacc hclean hfree
  exact ⟨u, (raise_delivers (t := x) (s := g) hlevel hfuse hservice).trans hdeliver, hentered⟩

theorem sleepsAndPromisesEnd : Claims.SleepsAndPromisesEnd := by
  intro s id
  refine ⟨fun w target hfind hwait hpast => ?_, ?_⟩
  · have hstays : ∀ w : Wave, w.wait ≠ .vacant → (wake s w).wait ≠ .vacant := fun _ _ h => Wait.noConfusion h
    exact ⟨_, sleepEnds hfind hwait hpast, waveOnly_changeWave s id (fun _ => rfl) hstays, wake s w,
      findWave_changeWave_same hfind (fun _ => rfl) hstays, rfl, Nat.le_max_left _ _, rfl⟩
  · intro token promise i l f g hfind hwait hresident hpast hpending hinstr hruns hlevel hservice hfuse hacc hclean hfree
    have hexec := promiseExpires hfind hwait hresident hpast hpending hinstr hruns
    rw [← resumed_focus s id] at hexec
    obtain ⟨u, hraise, hentered⟩ := raise_resumed_enters (i := i) (token := token) hlevel hfuse hservice hacc hclean hfree
    exact ⟨_, u, hexec.trans hraise, rfl, rfl, hentered⟩

/-! ### Finding a span -/

/-- A span is found by its number where no other has it (R57). -/
theorem find_of_nodup {xs : List Span} (hnodup : (xs.map (·.id)).Nodup) {y : Span} (hy : y ∈ xs) :
    xs.find? (fun x => x.id == y.id) = some y := by
  induction xs with
  | nil => cases hy
  | cons x xs ih =>
    obtain ⟨hhead, hnodup⟩ := List.nodup_cons.1 hnodup
    rcases List.mem_cons.1 hy with rfl | hy
    · exact List.find?_cons_of_pos (by simp)
    · rw [List.find?_cons_of_neg, ih hnodup hy]
      intro h
      exact hhead (List.mem_map.2 ⟨y, hy, (beq_iff_eq.1 h).symm⟩)

theorem modFirst_of_nodup (i : SpanId) (f : Span → Span) {xs : List Span} (hnodup : (xs.map (·.id)).Nodup) :
    modFirst (fun x => x.id == i) f xs = xs.map (fun x => if x.id = i then f x else x) := by
  induction xs with
  | nil => rfl
  | cons x xs ih =>
    obtain ⟨hhead, hnodup⟩ := List.nodup_cons.1 hnodup
    rw [modFirst, List.map_cons]
    by_cases hx : x.id = i
    · rw [if_pos (beq_iff_eq.2 hx), if_pos hx]
      congr 1
      refine (List.map_id xs).symm.trans (List.map_congr_left (fun y hy => ?_))
      exact (if_neg (fun h => hhead (List.mem_map.2 ⟨y, hy, h.trans hx.symm⟩))).symm
    · rw [if_neg (fun h => hx (beq_iff_eq.1 h)), if_neg hx, ih hnodup]

/-- The spans with some numbers have changed, the others stand as they stood. -/
def changedSpans (ids : List SpanId) (f : Span → Span) (xs : List Span) : List Span := xs.map (fun x => if x.id ∈ ids then f x else x)

theorem changedSpans_ids (ids : List SpanId) {f : Span → Span} (hid : ∀ x, (f x).id = x.id) (xs : List Span) :
    (changedSpans ids f xs).map (·.id) = xs.map (·.id) := by
  rw [changedSpans, List.map_map]
  refine List.map_congr_left (fun x _ => ?_)
  rw [Function.comp_apply]
  split
  · exact hid x
  · rfl

theorem foldl_changeSpan {f : Span → Span} (hid : ∀ x, (f x).id = x.id) : ∀ (ids : List SpanId) (s : State), ids.Nodup →
    (s.spans.map (·.id)).Nodup →
    ids.foldl (fun s i => s.changeSpan i f) s = { s with spans := changedSpans ids f s.spans } := by
  intro ids
  induction ids with
  | nil => intro s _ _; unfold changedSpans; simp
  | cons i ids ih =>
    intro s hids hspans
    obtain ⟨hi, hids⟩ := List.nodup_cons.1 hids
    have hone : (s.changeSpan i f).spans = changedSpans [i] f s.spans := by
      simp only [State.changeSpan, modFirst_of_nodup i f hspans, changedSpans, List.mem_singleton]
    rw [List.foldl_cons, ih _ hids (by rw [hone, changedSpans_ids _ hid]; exact hspans), hone]
    unfold State.changeSpan changedSpans
    rw [List.map_map]
    congr 1
    refine List.map_congr_left (fun x _ => ?_)
    rw [Function.comp_apply]
    by_cases hx : x.id = i
    · simp [hx, hid, hi]
    · simp [hx]

/-! ### Full saves and relaunches (R88, R275, R276) -/

theorem gridLaunch_isSome {s : State} {id : SpanId} {l : Launch} (hlaunch : s.launchOf id = some l)
    (hnode : l.node = none ∨ l.gbar = false) : (gridLaunch s id).isSome = l.gbar := by
  unfold gridLaunch
  rw [hlaunch]
  dsimp only
  rcases hnode with h | h
  · cases hg : l.gbar <;> simp [h]
  · simp [h]

/-- The spans of a relaunch: the killed span and, of a GBAR grid, the other killed ones (R276). -/
theorem mem_relaunchGroup {s : State} {span : SpanId} {l : Launch} (hlaunch : s.launchOf span = some l)
    (hnode : l.node = none ∨ l.gbar = false) (hnodup : (s.spans.map (·.id)).Nodup) {y : Span} (hy : y ∈ s.spans) :
    y.id ∈ relaunchGroup s span ↔ y.phase = .killed ∧ (y.id = span ∨
      (l.gbar = true ∧ y.id.part = span.part ∧ y.id.ctx = span.ctx ∧ y.id.lrec = span.lrec)) := by
  have hself : y.id ∈ relaunchGroup s span ↔
      (y.phase == .killed && (y.id == span || ((gridLaunch s span).isSome && sameGrid span y.id))) = true := by
    unfold relaunchGroup
    rw [List.mem_map]
    constructor
    · rintro ⟨z, hz, he⟩
      obtain ⟨hz, htest⟩ := List.mem_filter.1 hz
      rwa [← List.inj_on_of_nodup_map hnodup hz hy he]
    · exact fun h => ⟨y, List.mem_filter.2 ⟨hy, h⟩, rfl⟩
  rw [hself, gridLaunch_isSome hlaunch hnode]
  unfold sameGrid
  simp only [Bool.and_eq_true, Bool.or_eq_true, beq_iff_eq, and_assoc]

theorem savesAndRelaunches : Claims.SavesAndRelaunches := by
  intro s id span
  refine ⟨fun w asked hfind hhalting hpast => ?_, fun l hlaunch hnode hnodup => ?_⟩
  · refine ⟨_, ?_, waveOnly_changeWave s id (f := fun w => { w with full := true }) (fun _ => rfl) (fun _ h => h),
      findWave_changeWave_same hfind (fun _ => rfl) (fun _ h => h)⟩
    show execPreemptionTimeout id s = _
    unfold execPreemptionTimeout
    rw [hfind]
    dsimp only
    rw [hhalting]
    exact if_pos hpast
  · have hagain : ∀ x, (Span.again l.nonreplay x).id = x.id := fun _ => rfl
    have hgroup : (relaunchGroup s span).Nodup := hnodup.sublist (List.filter_sublist.map _)
    refine ⟨{ s with spans := changedSpans (relaunchGroup s span) (Span.again l.nonreplay) s.spans }, ?_, rfl, fun y hy => ?_⟩
    · show execSpanRelaunch span s = _
      unfold execSpanRelaunch
      rw [hlaunch]
      exact congrArg Host.Outcome.next (foldl_changeSpan hagain _ s hgroup hnodup)
    · have hmem : (if y.id ∈ relaunchGroup s span then Span.again l.nonreplay y else y) ∈
          changedSpans (relaunchGroup s span) (Span.again l.nonreplay) s.spans := List.mem_map.2 ⟨y, hy, rfl⟩
      have hfound := find_of_nodup (by rw [changedSpans_ids _ hagain]; exact hnodup) hmem
      have hsame : (if y.id ∈ relaunchGroup s span then Span.again l.nonreplay y else y).id = y.id := by split <;> rfl
      rw [hsame, if_congr (mem_relaunchGroup hlaunch hnode hnodup hy) rfl rfl] at hfound
      exact hfound

end Sys2Proof.Machine
end

section
/-!
PROOF. Replays: what a performed replay leaves, the wave's fused sequence and its wait for a reflected store included, and the
doubleword that an SLD brings (R133, R156, R168, R331). The settlement of O43.
-/

namespace Sys2Proof.Machine

open Sys2Proof

/-! ### The order toward other devices does not read the wave beyond its span (R168) -/

theorem walkFrom_wave (s : State) (x : Wave) (va : Nat) :
    ∀ level table, walkFrom { s with wave := x } va level table = walkFrom s va level table := by
  intro level
  induction level with
  | zero => intro table; rfl
  | succ n ih => intro table; unfold walkFrom; simp only [ih]; rfl

theorem translate_wave (s : State) (x : Wave) (part ctx va : Nat) :
    translate { s with wave := x } part ctx va = translate s part ctx va := by
  unfold translate walk
  simp only [walkFrom_wave]; rfl

/-- Whether a request is to strongly ordered memory depends on the wave by its span alone. -/
theorem strong_wave (s : State) (req : MemReq) {x : Wave} (hspan : x.span = s.wave.span) :
    req.strong { s with wave := x } x = req.strong s s.wave := by
  unfold MemReq.strong MemReq.leaves
  simp only [translate_wave, hspan]

/-! ### What a performed replay leaves (R133, R156) -/

/-- A fused sequence takes a replay's outcome into its checkpoint; nothing else of the outcome differs (R133). -/
theorem renewFuse_eq (again : State → Option State) (s t : State) :
    renewFuse again s t = { t with wave := { t.wave with fuse := (renewFuse again s t).wave.fuse } } := by
  unfold renewFuse
  split
  · rfl
  · split <;> rfl

theorem renewFuse_of_none (again : State → Option State) {s : State} (t : State) (h : s.wave.fuse = none) :
    renewFuse again s t = t := by
  unfold renewFuse
  rw [h]

/-- The device once a replay that was performed has ended the service of its wave (R133, R156). -/
def served (v : Service) (s u : State) : State :=
  (renewFuse (fun s => (replayAttempt v s).state) s u).onWave (fun w => { w with service := none })

theorem served_eq (v : Service) (s u : State) :
    served v s u = { u with wave := { u.wave with service := none, fuse := (served v s u).wave.fuse } } := by
  unfold served
  rw [renewFuse_eq]
  rfl

theorem served_fuse (v : Service) {s : State} (u : State) (h : s.wave.fuse = none) : (served v s u).wave.fuse = u.wave.fuse := by
  unfold served
  rw [renewFuse_of_none _ u h]
  rfl

theorem holdReflected_cases (v : Service) (s : State) :
    holdReflected v s = s ∨ holdReflected v s = sleepOn (.retryReflected false) s := by
  unfold holdReflected
  exact (ite_eq_or_eq _ _ _).symm

/-- A wave that waits for its reflected store (R168) differs by its wait alone. -/
theorem holdReflected_eq (v : Service) (s : State) :
    holdReflected v s = { s with wave := { s.wave with
      wait := (holdReflected v s).wave.wait, since := (holdReflected v s).wave.since } } := by
  rcases holdReflected_cases v s with h | h
  · rw [h]
  · rw [h]; rfl

theorem holdReflected_free {v : Service} {s : State}
    (h : v.req.strong s s.wave = false ∨ waveInFlight s s.wave.span.part s.wave.id = false) : holdReflected v s = s := by
  unfold holdReflected
  refine if_neg ?_
  rcases h with h | h <;> simp [h]

theorem afterReflected_false {i : Instr} {req : MemReq} {s : State} (h : Claims.nothingInFlight s s.wave) :
    afterReflected i req s = false := by
  unfold afterReflected
  rw [waveInFlight_false h, Bool.and_false]

/-- A logged instruction replays by its attempt, but for a post and the loads and stores of a slot (R156, R187, R189). -/
theorem replayNow_attempt {v : Service} {s : State} (hdeclined : v.declined = false)
    (hpost : ∀ fn t va succ, v.req ≠ .post fn t va succ) (htile : ∀ z va, v.req ≠ .mxldz z va ∧ v.req ≠ .mxstz z va) :
    replayNow v s = replayConclude v (replayAttempt v s) s := by
  unfold replayNow
  rw [hdeclined, if_neg Bool.false_ne_true]
  split
  · rename_i hreq; exact absurd hreq (hpost _ _ _ _)
  · rename_i hreq; exact absurd hreq (htile _ _).1
  · rename_i hreq; exact absurd hreq (htile _ _).2
  · rfl

/-- INSTRUCTION_REPLAY of a wave whose request has been answered, where the attempt is performed (R12, R156). -/
theorem replay_performed {s u : State} {id : Nat} {v : Service} (hfind : s.findWave id = some (focus s id).wave)
    (hservice : (focus s id).wave.service = some v) (hresident : (focus s id).wave.resident = true)
    (hdeclined : v.declined = false) (hruns : coreRuns s (focus s id).wave.core = true)
    (hanswered : faultOpen s (focus s id).wave.span.part v.fault = false)
    (hquiet : Claims.nothingInFlight (focus s id) (focus s id).wave) (hpost : ∀ fn t va succ, v.req ≠ .post fn t va succ)
    (htile : ∀ z va, v.req ≠ .mxldz z va ∧ v.req ≠ .mxstz z va) (hattempt : replayAttempt v (focus s id) = .performed u) :
    exec (.instructionReplay id) s = .next (holdReflected v (served v (focus s id) u)) := by
  show execInstructionReplay id s = _
  unfold execInstructionReplay
  rw [hfind]
  dsimp only
  rw [hservice]
  dsimp only
  rw [hresident, hruns, hanswered, replayNow_attempt hdeclined hpost htile, hattempt]
  unfold replayConclude
  dsimp only
  rw [afterReflected_false hquiet]
  rfl

/-! ### SLD (R331) -/

theorem poisonOf_unpoisoned {s : State} {l : Leaf} {va n lane : Nat} (h : Claims.unpoisoned s l va n) :
    poisonOf s [(lane, pasOf l va n)] = none := by
  have hsound : (pasOf l va n).any (sectorPoisoned s) = false := by
    rw [List.any_eq_false]
    intro pa hpa
    obtain ⟨j, hj, rfl⟩ := List.mem_map.1 hpa
    unfold sectorPoisoned
    rw [h j (List.mem_range.1 hj)]
    decide
  unfold poisonOf
  split
  · rfl
  · simp only [List.filter_cons, hsound, Bool.false_eq_true, if_false, List.filter_nil]

theorem perform_s (s : State) (cycles : Nat) (w : Wave) : (w.perform s cycles).s = w.s := rfl

theorem perform_pc (s : State) (cycles : Nat) (w : Wave) : (w.perform s cycles).pc = w.pc := rfl

/-- The walk, the count and the sample of a scalar load reach the bank array and its partition's monitors (R143, R284). -/
theorem sampled_eq (s : State) (late : Bool) (cycles va : Nat) (l : Leaf) :
    let u := touch (sampleLoad (countAccess (touchWalks s s.wave.span.part s.wave.span.ctx [va]) s.wave.span.part s.wave.span.ctx va 0 0)
      s.wave late cycles) s.wave.span.part false l va 8
    u = { s with array := u.array, parts := u.parts } := by
  rw [countAccess_eq]
  rfl

/-- What an SLD that is performed reaches: its register and the time of its access, the bank array, and its partition's monitors
(R143, R284, R331). -/
theorem trySload_performed {late : Bool} {dest va : Nat} {s : State} {l : Leaf}
    (hacc : access s s.wave.span.part s.wave.span.ctx .load va 8 = .ok l) (hsound : Claims.unpoisoned s l va 8) :
    ∃ u, trySload late dest va s = .performed u ∧ u.wave.s = sset s.wave.s dest (BitVec.ofNat 64 (loadLe s l va 8)) ∧
      u.wave.pc = s.wave.pc ∧ u = { s with wave := u.wave, array := u.array, parts := u.parts } := by
  unfold trySload
  dsimp only
  rw [hacc]
  dsimp only
  rw [poisonOf_unpoisoned hsound]
  dsimp only
  have hsampled := sampled_eq s late (loadWaits s s.wave [(l, va)] [va]) va l
  dsimp only at hsampled
  generalize touch _ _ _ _ _ _ = u at hsampled ⊢
  refine ⟨_, rfl, ?_, ?_, ?_⟩
  · rw [onWave_wave, perform_s, putS_s, hsampled]
  · rw [onWave_wave, perform_pc, putS_pc, hsampled]
  · rw [hsampled]
    rfl

/-- O43: a logged instruction replays; an SLD gives its register the doubleword. -/
theorem replaysPerform : Claims.ReplaysPerform := by
  intro s id v f hfind hservice hresident hdeclined hruns hanswered hquiet
  refine ⟨fun u hpost htile hattempt hfree => ?_, fun d va l hreq hacc hsound => ?_⟩
  · have hexec := replay_performed hfind hservice hresident hdeclined hruns hanswered hquiet hpost htile hattempt
    have hserved := served_eq v f u
    have hheld : holdReflected v (served v f u) = served v f u := by
      refine holdReflected_free ?_
      rcases hfree with hweak | hnone
      · left
        rw [hserved]
        exact (strong_wave u v.req rfl).trans hweak
      · right
        rw [hserved]
        exact waveInFlight_false hnone
    rw [hheld] at hexec
    exact ⟨_, hexec, congrArg State.wave hserved, served_fuse v u, by rw [hserved]⟩
  · obtain ⟨u, hattempt, hregs, hpc, hframe⟩ := trySload_performed (late := true) (dest := d) hacc hsound
    have hexec := replay_performed (u := u) hfind hservice hresident hdeclined hruns hanswered hquiet (by simp [hreq]) (by simp [hreq])
      (by unfold replayAttempt; rw [hreq]; exact hattempt)
    have hheld := holdReflected_eq v (served v f u)
    have hserved := served_eq v f u
    have hmem (key pa : Nat) : memByte (holdReflected v (served v f u)) key pa = memByte f key pa := by
      rw [hheld, hserved, hframe]
      exact memByte_congr rfl rfl rfl _ _
    have hfocus (key pa : Nat) : memByte f key pa = memByte s key pa := by
      show memByte (focus s id) key pa = memByte s key pa
      rw [focus_eq]
      exact memByte_congr rfl rfl rfl _ _
    have hs : (holdReflected v (served v f u)).wave.s = sset f.wave.s d (BitVec.ofNat 64 (loadLe f l va.toNat 8)) := by
      rw [hheld, hserved]
      exact hregs
    refine ⟨_, hexec, ?_, fun r hr => ?_, ?_, ?_, ?_, fun key pa => (hmem key pa).trans (hfocus key pa)⟩
    · rw [hs, sget_sset, if_pos rfl, BitVec.toNat_ofNat, Nat.mod_eq_of_lt (show loadLe f l va.toNat 8 < 2 ^ 64 from loadLe_lt ..)]
      exact loadLe_congr (fun _ _ => hfocus _ _)
    · rw [hs, sget_sset, if_neg hr]
    · rw [hheld, hserved]
    · rw [hheld, hserved]
      exact hpc
    · rw [hheld, hserved, hframe]

/-- Settles O43: waves are changed by their number alone, and a trap that meets no obstacle enters its handler. -/
theorem waveEventsTakeEffect : Obligations.WaveEventsTakeEffect :=
  ⟨replaysPerform, waitingTrapsDelivered, sleepsAndPromisesEnd, savesAndRelaunches⟩

end Sys2Proof.Machine
end
